-- ==== Sys2Proof/Word.lean ====
section
/-!
DEFINITION. The word types of the WK-320: link and parameter words of 16 bits (spec/11, "Words are 16 bits"),
bytes, station numbers (spec/00 section 6), and the two small fixed tables (eight of a kind, four of a kind).
-/

namespace Sys2Proof

/-- A link word or a parameter word. -/
abbrev Word := BitVec 16

/-- A byte of the parameter memory; an order tag, a demand sequence. -/
abbrev Byte := BitVec 8

/-- A station number, 0 to 7. -/
abbrev Station := Fin 8

/-- Eight of a kind: the peer entries of R1, the record slots of R130. -/
structure Eight (α : Type) where
  e0 : α
  e1 : α
  e2 : α
  e3 : α
  e4 : α
  e5 : α
  e6 : α
  e7 : α
  deriving DecidableEq, Repr

/-- Four of a kind: one value per speed band (R67, R94). -/
structure Four (α : Type) where
  b0 : α
  b1 : α
  b2 : α
  b3 : α
  deriving DecidableEq, Repr

end Sys2Proof
end

