-- ==== Sys2Proof/Syntax.lean ====
section
/-!
DEFINITION. The commands: one constructor of `Instr` for each of the 62 rows of spec/opcode_table.json, with the
operands its rule reads. Frame operands are the fields of spec/11 section 11.3 (R169); a field that may hold a code
naming no value (R170) stays a bit vector.
-/

namespace Sys2Proof

/-- The edge a TACH_EDGE command shows (R46). -/
inductive Edge where
  | rising
  | falling
  deriving DecidableEq, Repr

/-- The two local inputs of R38. -/
inductive LocalInput where
  | lstop
  | maint
  deriving DecidableEq, Repr

/-- The RMS and peak that a test window shows on a faulty path (R102). -/
structure Figures where
  rms : Nat
  peak : Nat
  deriving DecidableEq, Repr

/-- Who sends the start bit that a TRANSMIT_START shows: this station, as the row has it where nothing is said, or
another (R147). -/
inductive StartBit where
  | own
  | another
  deriving DecidableEq, Repr

/-- TRIP payload, spec/11 section 11.3. -/
structure TripPayload where
  number : Word
  causeCode : Byte
  stateAtTrip : BitVec 4
  feedback : Word
  speed : Word
  deriving DecidableEq, Repr

/-- CLAMP payload, spec/11 section 11.3. -/
structure ClampPayload where
  level : Word
  hold : Word
  causeCode : BitVec 5
  deriving DecidableEq, Repr

/-- What every ORDER carries beside its kind (R41), spec/11 section 11.3. -/
structure OrderPayload where
  target : BitVec 4
  tag : Byte
  argument : Word
  deriving DecidableEq, Repr

/-- DEMAND payload, spec/11 section 11.3. -/
structure DemandPayload where
  mode : BitVec 2
  sequence : Byte
  speedTarget : Word
  ceiling : Word
  deriving DecidableEq, Repr

/-- SHARE payload, spec/11 section 11.3; also the last SHARE content of a peer entry (R1). -/
structure SharePayload where
  state : BitVec 4
  intended : BitVec 2
  notReady : Bool
  stage : BitVec 2
  limiting : BitVec 3
  feedback : Word
  allowance : Word
  speed : Word
  g : Word
  signature : Word
  outcomeSource : BitVec 2
  alertPresent : Bool
  clampCausePresent : Bool
  tripCauseLatched : Bool
  vibrationDerating : Bool
  overloadLimiting : Bool
  mutePending : Bool
  outcomeCode : Byte
  outcomeTag : Byte
  deriving DecidableEq, Repr

/-- What every QUERY carries beside its item, spec/11 section 11.3. -/
structure QueryPayload where
  target : BitVec 4
  tag : Byte
  index : Byte
  sub : Byte
  deriving DecidableEq, Repr

/-- REPLY payload: two header words and up to six data words, spec/11 section 11.3. -/
structure ReplyPayload where
  tag : Byte
  item : Byte
  status : BitVec 2
  data : List Word
  deriving DecidableEq, Repr

/-- ROLL payload, spec/11 section 11.3. -/
structure RollPayload where
  signature : Word
  g : Word
  state : BitVec 4
  resetCause : BitVec 2
  haltMark : Bool
  deriving DecidableEq, Repr

/-- A frame on the line, less start, check, end and inserted bits (R144). -/
structure Frame where
  cls : BitVec 3
  origin : Station
  words : List Word
  deriving DecidableEq, Repr

/-- The commands, one per row of spec/opcode_table.json, in the table's order. -/
inductive Instr where
  | currentSampleArrival (sample : Word)
  | conductionPeriodStart
  | conductionOnEnd
  | tachEdge (edge : Edge) (elapsed : Nat)
  | standstill
  | vibSampleArrival (sample : Word) (stopHigh : Bool)
  | vibSilenceExpiry
  | patternSample (figures : Option Figures)
  | loopSenseChange (othersDrive : Bool)
  | loopWaitExpiry
  | clearWindowExpiry
  | agingExpiry
  | shareTimerExpiry
  | historyTimerExpiry
  | demandTimerExpiry
  | startWindowExpiry
  | stageTimerExpiry
  | jamTimerExpiry
  | surgeTimerExpiry
  | clampHoldExpiry
  | lockoutTimerExpiry
  | localInputEdge (input : LocalInput) (active : Bool)
  | localInputFiltered (input : LocalInput)
  | demandFrame (origin : Station) (demand : DemandPayload)
  | orderSelftest (origin : Station) (order : OrderPayload)
  | orderRestart (origin : Station) (order : OrderPayload)
  | clearTrip (origin : Station) (order : OrderPayload)
  | keepRecord (origin : Station) (order : OrderPayload)
  | releaseRecord (origin : Station) (order : OrderPayload)
  | discardRecords (origin : Station) (order : OrderPayload)
  | orderUndefinedKind (origin : Station) (kind : BitVec 4) (order : OrderPayload)
  | tripFrame (origin : Station) (trip : TripPayload)
  | clampFrame (origin : Station) (clamp : ClampPayload)
  | shareFrame (origin : Station) (share : SharePayload)
  | rollFrame (origin : Station) (roll : RollPayload)
  | replyFrame (origin : Station) (words : List Word)
  | queryStatus (origin : Station) (query : QueryPayload)
  | queryCause (origin : Station) (query : QueryPayload)
  | queryPeer (origin : Station) (query : QueryPayload)
  | queryAllowance (origin : Station) (query : QueryPayload)
  | queryCounters (origin : Station) (query : QueryPayload)
  | queryHistory (origin : Station) (query : QueryPayload)
  | queryRecordEntry (origin : Station) (query : QueryPayload)
  | queryRecordHead (origin : Station) (query : QueryPayload)
  | queryRecordSnap (origin : Station) (query : QueryPayload)
  | queryRecordList (origin : Station) (query : QueryPayload)
  | queryNoSuchItem (origin : Station) (item : BitVec 4) (query : QueryPayload)
  | frameDiscard (bits : List Bool)
  | transmitStart (start : StartBit := .own)
  | arbitrationLoss
  | echoFault
  | transmitSuccess
  | settleTimeExpiry (straps : BitVec 3)
  | parameterReadComplete (bytes : List Byte)
  | guardTimerExpiry
  | settingsUpset (index : Fin 64) (value : Word)
  | supplyLevelCrossing (millivolts : Nat)
  | resetLinePulse (lowMicroseconds : Nat)
  | brownOut
  | brownOutEnd (millivolts : Nat)
  | clockLoss
  | clockReturn
  deriving DecidableEq, Repr

end Sys2Proof
end

