-- ==== Sys2Proof/Machine/Operands.lean ====
section
/-!
DEFINITION. The operand layouts: the check word (R146), the frame on the line with its inserted bits (R144, R145),
reception and its faults (R151), and the payload words of each class (R169, spec/11 sections 11.2 and 11.3).
A bit of a list is `true` for recessive (1) and `false` for dominant (0), in the order sent (R143).
-/

namespace Sys2Proof

/-- The `n` low bits of `v`, most significant first (R144). -/
def bitsMsb : Nat → Nat → List Bool
  | 0, _ => []
  | n + 1, v => v.testBit n :: bitsMsb n v

/-- The number whose bits, most significant first, are given. -/
def natOfBits (bits : List Bool) : Nat :=
  bits.foldl (fun acc b => 2 * acc + b.toNat) 0

/-- The words held in `n` times sixteen bits, each most significant bit first. -/
def wordsOfBits : Nat → List Bool → List Word
  | 0, _ => []
  | n + 1, bits => BitVec.ofNat 16 (natOfBits (bits.take 16)) :: wordsOfBits n (bits.drop 16)

/-- The bits of words in the order sent. -/
def bitsOfWords (words : List Word) : List Bool :=
  words.flatMap fun w => bitsMsb 16 w.toNat

/-- One bit into the CRC register of R146. -/
def crcBit (register : Nat) (bit : Bool) : Nat :=
  let shifted := (2 * register) % 65536
  if bit != register.testBit 15 then shifted ^^^ 0x1021 else shifted

/-- The CRC of R146: generator x^16 + x^12 + x^5 + 1, initial value FFFFh. -/
def crc16 (bits : List Bool) : Word :=
  BitVec.ofNat 16 (bits.foldl crcBit 0xFFFF)

/-- Class codes, R144. -/
def classTrip : BitVec 3 := 0
def classClamp : BitVec 3 := 1
def classOrder : BitVec 3 := 2
def classDemand : BitVec 3 := 3
def classShare : BitVec 3 := 4
def classQuery : BitVec 3 := 5
def classReply : BitVec 3 := 6
def classRoll : BitVec 3 := 7

/-- The payload lengths each class allows, table of R144. -/
def lengthAllowed (cls : BitVec 3) (n : Nat) : Bool :=
  match cls.toNat with
  | 0 => n == 4
  | 1 => n == 3
  | 2 => n == 3
  | 3 => n == 3
  | 4 => n == 8
  | 5 => n == 2
  | 6 => 2 ≤ n && n ≤ 8
  | _ => n == 3

/-- Arbitration, length and payload bits: what the check word covers (R144, R146). -/
def Frame.coveredBits (f : Frame) : List Bool :=
  bitsMsb 3 f.cls.toNat ++ bitsMsb 3 f.origin.val ++ bitsMsb 4 f.words.length ++ bitsOfWords f.words

/-- The bits over which inserted bits are counted (R145): the covered bits and the check word. -/
def Frame.countedBits (f : Frame) : List Bool :=
  f.coveredBits ++ bitsMsb 16 (crc16 f.coveredBits).toNat

/-- After every fourth counted bit the sender inserts its complement (R145); `counted` bits went before. -/
def insertBits : Nat → List Bool → List Bool
  | _, [] => []
  | counted, b :: rest =>
    if (counted + 1) % 4 = 0 then b :: (!b) :: insertBits (counted + 1) rest
    else b :: insertBits (counted + 1) rest

/-- The frame as sent, from the start bit to the last end bit (R144). -/
def Frame.lineBits (f : Frame) : List Bool :=
  false :: (insertBits 0 f.countedBits ++ List.replicate 6 true)

/-- What a receiver finds wrong with a frame, R151. -/
inductive FrameFault where
  | wrongInsertedBit
  | lengthAboveEight
  | checkWord
  | dominantEndBit
  | lengthNotAllowed
  deriving DecidableEq, Repr

/-- What a receiver makes of the bits it reads from a start bit on: `used` counts the bits read when the fault is found. -/
inductive Reception where
  | valid (f : Frame)
  | discarded (fault : FrameFault) (used : Nat)
  | noStart
  deriving DecidableEq, Repr

/-- Where a receiver stands in the bits: the rest, the counted bits so far and all bits read. -/
structure Cursor where
  rest : List Bool
  counted : Nat
  used : Nat
  deriving DecidableEq, Repr

/-- The next bit of the line; past the bits given the line is recessive (nobody sends, R143). -/
def Cursor.bit (c : Cursor) : Bool :=
  c.rest.headD true

def Cursor.skip (c : Cursor) : Cursor :=
  { c with rest := c.rest.tail, used := c.used + 1 }

/-- Reads `n` counted bits, dropping and checking the inserted ones (R145, R151); an error carries the bits read. -/
def readCounted : Nat → Cursor → Except Nat (List Bool × Cursor)
  | 0, c => .ok ([], c)
  | n + 1, c =>
    let b := c.bit
    let c1 := { c.skip with counted := c.counted + 1 }
    if c1.counted % 4 = 0 then
      if c1.bit = b then .error (c1.used + 1)
      else match readCounted n c1.skip with
        | .ok (bits, c2) => .ok (b :: bits, c2)
        | .error used => .error used
    else match readCounted n c1 with
      | .ok (bits, c2) => .ok (b :: bits, c2)
      | .error used => .error used

/-- Reads end bits, each of which must be recessive (R151). -/
def readEnd : Nat → Cursor → Except Nat Cursor
  | 0, c => .ok c
  | n + 1, c => if c.bit then readEnd n c.skip else .error (c.used + 1)

/-- Reception of one frame from its start bit, R151: the first fault of the table, or the valid frame. -/
def receive (bits : List Bool) : Reception :=
  match bits with
  | false :: rest =>
    match readCounted 10 ⟨rest, 0, 1⟩ with
    | .error used => .discarded .wrongInsertedBit used
    | .ok (header, c1) =>
      let n := natOfBits (header.drop 6)
      if 8 < n then .discarded .lengthAboveEight c1.used
      else match readCounted (16 * n + 16) c1 with
        | .error used => .discarded .wrongInsertedBit used
        | .ok (body, c2) =>
          let payload := body.take (16 * n)
          if body.drop (16 * n) ≠ bitsMsb 16 (crc16 (header ++ payload)).toNat then
            .discarded .checkWord c2.used
          else match readEnd 6 c2 with
            | .error used => .discarded .dominantEndBit used
            | .ok c3 =>
              let cls := BitVec.ofNat 3 (natOfBits (header.take 3))
              if lengthAllowed cls n then
                .valid ⟨cls, Fin.ofNat 8 (natOfBits ((header.drop 3).take 3)), wordsOfBits n payload⟩
              else .discarded .lengthNotAllowed c3.used
  | _ => .noStart

/-- The idle count after one more bit of the line, R147. -/
def idleBit (idle : Nat) (recessive : Bool) : Nat :=
  if recessive then min 10 (idle + 1) else 0

/-- The idle count after bits of the line, R147. -/
def idleAfter (idle : Nat) (bits : List Bool) : Nat :=
  bits.foldl idleBit idle

/-- The idle count at the moment a frame is discarded (R147): the recessive bits read last, counted from the last
check bit once that bit is read. -/
def idleAtDiscard (bits : List Bool) (fault : FrameFault) (used : Nat) : Nat :=
  match fault with
  | .checkWord => 0
  | .dominantEndBit => 0
  | .lengthNotAllowed => 6
  | .wrongInsertedBit | .lengthAboveEight => idleAfter 0 ((bits ++ List.replicate used true).take used)

/-- Bit `i` of a word. -/
def wordBit (w : Word) (i : Nat) : Bool :=
  w.getLsbD i

/-- The `n` bits of a word from bit `lo` up. -/
def wordField (w : Word) (lo n : Nat) : BitVec n :=
  w.extractLsb' lo n

def TripPayload.words (p : TripPayload) : List Word :=
  [p.number, p.causeCode ++ 0#4 ++ p.stateAtTrip, p.feedback, p.speed]

def TripPayload.ofWords : List Word → Option TripPayload
  | [w0, w1, w2, w3] => some ⟨w0, wordField w1 8 8, wordField w1 0 4, w2, w3⟩
  | _ => none

def ClampPayload.words (p : ClampPayload) : List Word :=
  [p.level, p.hold, 0#11 ++ p.causeCode]

def ClampPayload.ofWords : List Word → Option ClampPayload
  | [w0, w1, w2] => some ⟨w0, w1, wordField w2 0 5⟩
  | _ => none

def OrderPayload.words (kind : BitVec 4) (p : OrderPayload) : List Word :=
  [0#4 ++ p.target ++ 0#4 ++ kind, 0#8 ++ p.tag, p.argument]

def OrderPayload.ofWords : List Word → Option (BitVec 4 × OrderPayload)
  | [w0, w1, w2] => some (wordField w0 0 4, ⟨wordField w0 8 4, wordField w1 0 8, w2⟩)
  | _ => none

def DemandPayload.words (p : DemandPayload) : List Word :=
  [0#6 ++ p.mode ++ p.sequence, p.speedTarget, p.ceiling]

def DemandPayload.ofWords : List Word → Option DemandPayload
  | [w0, w1, w2] => some ⟨wordField w0 8 2, wordField w0 0 8, w1, w2⟩
  | _ => none

def SharePayload.word0 (p : SharePayload) : Word :=
  p.state ++ p.intended ++ BitVec.ofBool p.notReady ++ p.stage ++ p.limiting ++ 0#4

def SharePayload.word6 (p : SharePayload) : Word :=
  0#6 ++ p.outcomeSource ++ 0#2 ++ BitVec.ofBool p.alertPresent ++ BitVec.ofBool p.clampCausePresent
    ++ BitVec.ofBool p.tripCauseLatched ++ BitVec.ofBool p.vibrationDerating ++ BitVec.ofBool p.overloadLimiting
    ++ BitVec.ofBool p.mutePending

def SharePayload.words (p : SharePayload) : List Word :=
  [p.word0, p.feedback, p.allowance, p.speed, p.g, p.signature, p.word6, p.outcomeCode ++ p.outcomeTag]

def SharePayload.ofWords : List Word → Option SharePayload
  | [w0, w1, w2, w3, w4, w5, w6, w7] =>
    some {
      state := wordField w0 12 4, intended := wordField w0 10 2, notReady := wordBit w0 9,
      stage := wordField w0 7 2, limiting := wordField w0 4 3,
      feedback := w1, allowance := w2, speed := w3, g := w4, signature := w5,
      outcomeSource := wordField w6 8 2, alertPresent := wordBit w6 5, clampCausePresent := wordBit w6 4,
      tripCauseLatched := wordBit w6 3, vibrationDerating := wordBit w6 2, overloadLimiting := wordBit w6 1,
      mutePending := wordBit w6 0,
      outcomeCode := wordField w7 8 8, outcomeTag := wordField w7 0 8 }
  | _ => none

def QueryPayload.words (item : BitVec 4) (p : QueryPayload) : List Word :=
  [p.target ++ item ++ p.tag, p.index ++ p.sub]

def QueryPayload.ofWords : List Word → Option (BitVec 4 × QueryPayload)
  | [w0, w1] => some (wordField w0 8 4, ⟨wordField w0 12 4, wordField w0 0 8, wordField w1 8 8, wordField w1 0 8⟩)
  | _ => none

def ReplyPayload.words (p : ReplyPayload) : List Word :=
  (0#8 ++ p.tag) :: (p.item ++ 0#6 ++ p.status) :: p.data

def RollPayload.words (p : RollPayload) : List Word :=
  [p.signature, p.g, p.state ++ 0#2 ++ p.resetCause ++ 0#7 ++ BitVec.ofBool p.haltMark]

def RollPayload.ofWords : List Word → Option RollPayload
  | [w0, w1, w2] => some ⟨w0, w1, wordField w2 12 4, wordField w2 8 2, wordBit w2 0⟩
  | _ => none

end Sys2Proof
end

