-- ==== Sys2Proof/WellFormed.lean ====
section
/-!
DEFINITION. Which commands are well formed: the operands that a row's event can carry.
-/

namespace Sys2Proof

/-- The order kinds of spec/11 section 11.1. -/
def orderKindDefined (kind : BitVec 4) : Bool :=
  1 ≤ kind.toNat && kind.toNat ≤ 6

/-- The query items of spec/11 section 11.1. -/
def queryItemDefined (item : BitVec 4) : Bool :=
  1 ≤ item.toNat && item.toNat ≤ 10

/-- Whether bits read from a start bit make a discarded frame (R151). -/
def isDiscarded (bits : List Bool) : Bool :=
  match receive bits with
  | .discarded _ _ => true
  | _ => false

/-- The operands a row's event can carry: a REPLY has 2 to 8 words (R144), an undefined order kind or query item is
not one of the defined codes (R170), a discarded frame shows a fault (R151), the block is 130 bytes (R163) and a
brown-out ends above 2.70 V (R167). Every other command takes any operands of its types. -/
def Instr.wellFormed : Instr → Bool
  | .replyFrame _ words => 2 ≤ words.length && words.length ≤ 8
  | .orderUndefinedKind _ kind _ => !orderKindDefined kind
  | .queryNoSuchItem _ item _ => !queryItemDefined item
  | .frameDiscard bits => isDiscarded bits
  | .parameterReadComplete bytes => bytes.length == 130
  | .brownOutEnd millivolts => 2700 < millivolts
  | .currentSampleArrival _ | .conductionPeriodStart | .conductionOnEnd | .tachEdge _ _ | .standstill
  | .vibSampleArrival _ _ | .vibSilenceExpiry | .patternSample _ | .loopSenseChange _ | .loopWaitExpiry
  | .clearWindowExpiry | .agingExpiry | .shareTimerExpiry | .historyTimerExpiry | .demandTimerExpiry
  | .startWindowExpiry | .stageTimerExpiry | .jamTimerExpiry | .surgeTimerExpiry | .clampHoldExpiry
  | .lockoutTimerExpiry | .localInputEdge _ _ | .localInputFiltered _ | .demandFrame _ _ | .orderSelftest _ _
  | .orderRestart _ _ | .clearTrip _ _ | .keepRecord _ _ | .releaseRecord _ _ | .discardRecords _ _
  | .tripFrame _ _ | .clampFrame _ _ | .shareFrame _ _ | .rollFrame _ _ | .queryStatus _ _ | .queryCause _ _
  | .queryPeer _ _ | .queryAllowance _ _ | .queryCounters _ _ | .queryHistory _ _ | .queryRecordEntry _ _
  | .queryRecordHead _ _ | .queryRecordSnap _ _ | .queryRecordList _ _ | .transmitStart _ | .arbitrationLoss
  | .echoFault | .transmitSuccess | .settleTimeExpiry _ | .guardTimerExpiry | .settingsUpset _ _
  | .supplyLevelCrossing _ | .resetLinePulse _ | .brownOut | .clockLoss | .clockReturn => true

end Sys2Proof
end

