-- ==== Sys2Proof/Decode.lean ====
section
/-!
DEFINITION. spec/opcode_table.json gives no row any bits (no "fixed", no "fields"): no word spells a command.
Frames do have an encoding (spec/11): `commandOfFrame` is the command that a valid received frame is, and
`frameOfCommand` its frame.
-/

namespace Sys2Proof

/-- The command a word spells by the table's bits: none, since no row of the table gives bits. -/
def decodeTableWord (_nbits _w : Nat) : Option Instr :=
  none

/-- The ORDER kinds of spec/11 section 11.1, and the command each is (R41). -/
def commandOfOrder (origin : Station) (kind : BitVec 4) (p : OrderPayload) : Instr :=
  match kind.toNat with
  | 1 => .orderSelftest origin p
  | 2 => .orderRestart origin p
  | 3 => .clearTrip origin p
  | 4 => .keepRecord origin p
  | 5 => .releaseRecord origin p
  | 6 => .discardRecords origin p
  | _ => .orderUndefinedKind origin kind p

/-- The QUERY items of spec/11 section 11.1, and the command each is (R158). -/
def commandOfQuery (origin : Station) (item : BitVec 4) (p : QueryPayload) : Instr :=
  match item.toNat with
  | 1 => .queryStatus origin p
  | 2 => .queryCause origin p
  | 3 => .queryPeer origin p
  | 4 => .queryAllowance origin p
  | 5 => .queryCounters origin p
  | 6 => .queryRecordHead origin p
  | 7 => .queryRecordSnap origin p
  | 8 => .queryRecordList origin p
  | 9 => .queryRecordEntry origin p
  | 10 => .queryHistory origin p
  | _ => .queryNoSuchItem origin item p

/-- The command that a valid frame received from the line is (R152 by class, R169 by layout). -/
def commandOfFrame (f : Frame) : Option Instr :=
  match f.cls.toNat with
  | 0 => (TripPayload.ofWords f.words).map (.tripFrame f.origin)
  | 1 => (ClampPayload.ofWords f.words).map (.clampFrame f.origin)
  | 2 => (OrderPayload.ofWords f.words).map fun (kind, p) => commandOfOrder f.origin kind p
  | 3 => (DemandPayload.ofWords f.words).map (.demandFrame f.origin)
  | 4 => (SharePayload.ofWords f.words).map (.shareFrame f.origin)
  | 5 => (QueryPayload.ofWords f.words).map fun (item, p) => commandOfQuery f.origin item p
  | 6 => if lengthAllowed f.cls f.words.length then some (.replyFrame f.origin f.words) else none
  | _ => (RollPayload.ofWords f.words).map (.rollFrame f.origin)

/-- The frame of a received-frame command, in the layout of spec/11 section 11.3; none for every other command. -/
def frameOfCommand : Instr → Option Frame
  | .tripFrame o p => some ⟨classTrip, o, p.words⟩
  | .clampFrame o p => some ⟨classClamp, o, p.words⟩
  | .orderSelftest o p => some ⟨classOrder, o, p.words 1⟩
  | .orderRestart o p => some ⟨classOrder, o, p.words 2⟩
  | .clearTrip o p => some ⟨classOrder, o, p.words 3⟩
  | .keepRecord o p => some ⟨classOrder, o, p.words 4⟩
  | .releaseRecord o p => some ⟨classOrder, o, p.words 5⟩
  | .discardRecords o p => some ⟨classOrder, o, p.words 6⟩
  | .orderUndefinedKind o kind p => some ⟨classOrder, o, p.words kind⟩
  | .demandFrame o p => some ⟨classDemand, o, p.words⟩
  | .shareFrame o p => some ⟨classShare, o, p.words⟩
  | .queryStatus o p => some ⟨classQuery, o, p.words 1⟩
  | .queryCause o p => some ⟨classQuery, o, p.words 2⟩
  | .queryPeer o p => some ⟨classQuery, o, p.words 3⟩
  | .queryAllowance o p => some ⟨classQuery, o, p.words 4⟩
  | .queryCounters o p => some ⟨classQuery, o, p.words 5⟩
  | .queryRecordHead o p => some ⟨classQuery, o, p.words 6⟩
  | .queryRecordSnap o p => some ⟨classQuery, o, p.words 7⟩
  | .queryRecordList o p => some ⟨classQuery, o, p.words 8⟩
  | .queryRecordEntry o p => some ⟨classQuery, o, p.words 9⟩
  | .queryHistory o p => some ⟨classQuery, o, p.words 10⟩
  | .queryNoSuchItem o item p => some ⟨classQuery, o, p.words item⟩
  | .replyFrame o words => some ⟨classReply, o, words⟩
  | .rollFrame o p => some ⟨classRoll, o, p.words⟩
  | .currentSampleArrival _ | .conductionPeriodStart | .conductionOnEnd | .tachEdge _ _ | .standstill
  | .vibSampleArrival _ _ | .vibSilenceExpiry | .patternSample _ | .loopSenseChange _ | .loopWaitExpiry
  | .clearWindowExpiry | .agingExpiry | .shareTimerExpiry | .historyTimerExpiry | .demandTimerExpiry
  | .startWindowExpiry | .stageTimerExpiry | .jamTimerExpiry | .surgeTimerExpiry | .clampHoldExpiry
  | .lockoutTimerExpiry | .localInputEdge _ _ | .localInputFiltered _ | .frameDiscard _ | .transmitStart _
  | .arbitrationLoss | .echoFault | .transmitSuccess | .settleTimeExpiry _ | .parameterReadComplete _
  | .guardTimerExpiry | .settingsUpset _ _ | .supplyLevelCrossing _ | .resetLinePulse _ | .brownOut
  | .brownOutEnd _ | .clockLoss | .clockReturn => none

end Sys2Proof
end

