-- ==== Sys2Proof/Config.lean ====
section
/-!
DEFINITION. What the manual leaves open, as constants without a body: nothing can evaluate them, and a statement
that is proved holds whatever they are. Each is applied to a plain counter of State or to the value it depends on.
-/

namespace Sys2Proof.Config

/-- Which of several rises at one event, or of several own timers due at one instant, is taken first
(R111: "Either may be taken first"). Assumption log 5. -/
opaque freeChoice : Nat → Nat

/-- Whether a RESET_N pulse of 0.5 ms to below 2 ms is taken (R166: "taken or ignored, pulse by pulse").
Assumption log 10. -/
opaque pulseTaken : Nat → Bool

/-- Whether an edge qualifies while an upset edge select holds the code 3, which names no value (R46, R165).
The argument says whether the edge rises. Assumption log 9. -/
opaque edgeOfUnnamedSelect : Bool → Bool

/-- The bit time in µs while an upset bit rate holds the code 3, which names no rate (R143, R165), from the code.
Assumption log 9. -/
opaque bitTimeOfUnnamedRate : Nat → Nat

/-- The overload account as a percentage of an upset capacity of 0 (R74, R165), from the held account.
Assumption log 9. -/
opaque percentOfNoCapacity : Nat → Nat

end Sys2Proof.Config
end

