-- ==== Sys2Proof/Machine/State.lean ====
section
/-!
DEFINITION. The state of the WK-320: every piece of state the manual gives each block, as plain data, and the state
right after a power-on reset. INVENTORY.md lists each field with its rule. The operations on it stand in the files
under Machine/.
-/

namespace Sys2Proof.Machine

/-- The fifteen station states, R20. -/
inductive StationState where
  | loading | joining | selftest | stopped | starting | breakaway | run | creep | decel | tripDecel | tripped
  | clearing | standby | lockout | faultHalt
  deriving DecidableEq, Repr

/-- The modes a group can be intended to run in, R21. -/
inductive Mode where
  | run | creep
  deriving DecidableEq, Repr

/-- The outcome codes of R44. -/
inductive OutcomeCode where
  | taken | wrongState | numberMismatch | causePresent | resetNeeded | moving | clearIncomplete | keepLimit
  | slotEmpty | startNotConfirmed | runAsCreep | tooFew | notReady | staleDemand | selftestPassed | selftestFailed
  | selftestAborted
  deriving DecidableEq, Repr

/-- What an outcome answers, R44. -/
inductive OutcomeSource where
  | order | demand
  deriving DecidableEq, Repr

/-- The last-outcome record, R44. -/
structure LastOutcome where
  source : OutcomeSource
  code : OutcomeCode
  tag : Byte
  deriving DecidableEq, Repr

/-- The 24 causes in the order of their codes, R109. -/
inductive Cause where
  | overcurrent | sampleLoss | overspeed | vibTrip | vibAlert | vibInput
  | jam | noBreakaway | overload | surge | peerSilent | peerLost
  | outOfStep | groupShort | demandLoss | peerTrip | loop | localStop
  | linkTransmit | duplicate | settingsGuard | supplyLow | selftestFail | foreignPeer
  deriving DecidableEq, Repr

/-- What a rise does, R110. -/
inductive Action where
  | trip | clamp | alert
  deriving DecidableEq, Repr

/-- The eight contributors in the order of R67's table. -/
inductive Contributor where
  | rated | stage | band | creep | ceiling | overload | vib | clamp
  deriving DecidableEq, Repr

/-- Entry kind, R1. -/
inductive PeerKind where
  | unknown | drive | other
  deriving DecidableEq, Repr

/-- Entry state, R1. -/
inductive EntryState where
  | absent | present | silent | lost
  deriving DecidableEq, Repr

/-- One entry of the peer table, R1. -/
structure PeerEntry where
  kind : PeerKind
  entry : EntryState
  foreign : Bool
  silence : Nat
  share : Option SharePayload
  nonRunning : Nat
  heard : Nat
  deriving DecidableEq, Repr

/-- The peer table, R1, R16, R17; `joinExpiries` counts aging expiries since entry to JOINING (R13, R15). -/
structure PeerTable where
  entries : Eight PeerEntry
  participants : List Station
  joinExpiries : Nat
  deriving DecidableEq, Repr

/-- The station sequencer, R21; `selftestTag` is the tag of the test in progress (R42). -/
structure Sequencer where
  station : StationState
  intended : Mode
  startMark : Option Byte
  confirmation : List Station
  lstop : Bool
  maint : Bool
  selftestDone : Bool
  lastOutcome : Option LastOutcome
  selftestTag : Byte
  deriving DecidableEq, Repr

/-- The speed unit, R45. -/
structure SpeedUnit where
  capture : Nat
  speed : Nat
  standstill : Bool
  stageEdges : Nat
  deriving DecidableEq, Repr

/-- Output phase of the conduction generator, R51. -/
inductive Phase where
  | on | off
  deriving DecidableEq, Repr

/-- The conduction generator, R51, R54; `position` is the µs into the period and `strobes` counts the sample strobes
issued (model's own). -/
structure Generator where
  period : Option Nat
  onCount : Nat
  offCount : Nat
  phase : Phase
  demand : Nat
  answered : Bool
  position : Nat
  strobes : Nat
  deriving DecidableEq, Repr

/-- The current regulator, R55; `sample` is the latest sample word and `overCurrent` whether it met R57's condition. -/
structure Regulator where
  feedback : Int
  speedTarget : Nat
  setpoint : Nat
  integral : Nat
  demand : Nat
  prevAllowance : Nat
  trim : Int
  reference : Nat
  currentIntegral : Nat
  conduction : Nat
  missCount : Nat
  sample : Word
  overCurrent : Bool
  deriving DecidableEq, Repr

/-- The group clamp record, R84; `remainingUs` is the µs into the running ms (model's own). -/
structure ClampRecord where
  active : Bool
  level : Nat
  origin : Station
  causeCode : BitVec 5
  remaining : Nat
  remainingUs : Nat
  deriving DecidableEq, Repr

/-- The torque limiter: the allowance record of R67 (VIB and CLAMP values have their homes in the vibration watch and
in the clamp record), the overload account (R72, R73), the breakaway stage (R75), the surge reference (R82). -/
structure Limiter where
  rated : Nat
  stageValue : Nat
  bandValue : Nat
  creepCap : Nat
  ceiling : Nat
  overloadValue : Nat
  envelope : Four Nat
  band : Fin 4
  allowance : Nat
  limiting : Contributor
  account : Nat
  limit : Bool
  stage : Nat
  surgeReference : Int
  clamp : ClampRecord
  deriving DecidableEq, Repr

/-- Self-test phase, R92. -/
inductive TestPhase where
  | none | high1 | high2 | zero
  deriving DecidableEq, Repr

/-- The vibration watch, R92; `amplitude` is the A of R101. -/
structure VibWatch where
  count : Nat
  sumSquares : Nat
  peak : Nat
  latestRms : Nat
  latestPeak : Nat
  latestBand : Fin 4
  alertCount : Nat
  tripCount : Nat
  quietCount : Nat
  allowance : Nat
  phase : TestPhase
  patternCount : Nat
  failMark : Bool
  amplitude : Nat
  deriving DecidableEq, Repr

/-- What the cause unit keeps of one cause, R108. -/
structure CauseField where
  present : Bool
  latched : Bool
  count : Nat
  deriving DecidableEq, Repr

/-- The cause set, one field for each cause of R109. -/
structure CauseSet where
  overcurrent : CauseField
  sampleLoss : CauseField
  overspeed : CauseField
  vibTrip : CauseField
  vibAlert : CauseField
  vibInput : CauseField
  jam : CauseField
  noBreakaway : CauseField
  overload : CauseField
  surge : CauseField
  peerSilent : CauseField
  peerLost : CauseField
  outOfStep : CauseField
  groupShort : CauseField
  demandLoss : CauseField
  peerTrip : CauseField
  loop : CauseField
  localStop : CauseField
  linkTransmit : CauseField
  duplicate : CauseField
  settingsGuard : CauseField
  supplyLow : CauseField
  selftestFail : CauseField
  foreignPeer : CauseField
  deriving DecidableEq, Repr

/-- One row of the action table, R110. -/
structure ActionEntry where
  action : Action
  level : Nat
  deriving DecidableEq, Repr

/-- The action table, R110. -/
structure ActionTable where
  vibInput : ActionEntry
  surge : ActionEntry
  peerLost : ActionEntry
  outOfStep : ActionEntry
  supplyLow : ActionEntry
  deriving DecidableEq, Repr

/-- This station's part in a trip, R113. -/
inductive OwnPart where
  | origin | coOrigin | follower
  deriving DecidableEq, Repr

/-- One entry of a co-origin list, R113. -/
structure CoOrigin where
  station : Station
  causeCode : Byte
  deriving DecidableEq, Repr

/-- The trip context, R113: `number` is none while pending, `origin` none while UNKNOWN. -/
structure TripContext where
  number : Option Word
  origin : Option Station
  confirmed : Bool
  ownPart : OwnPart
  coOrigins : List CoOrigin
  stateAtTrip : StationState
  deriving DecidableEq, Repr

/-- The cause unit, R108; `loopFeedback` and `loopSpeed` are F and speed as they stood at the loop trip (R119). -/
structure CauseUnit where
  causes : CauseSet
  actions : ActionTable
  g : Word
  context : Option TripContext
  clearTag : Option Byte
  loopFeedback : Int
  loopSpeed : Nat
  deriving DecidableEq, Repr

/-- A history entry, R128. -/
structure HistoryEntry where
  timeMark : BitVec 32
  state : StationState
  feedback : Int
  reference : Nat
  allowance : Nat
  limiting : Contributor
  speed : Nat
  vibRms : Nat
  vibPeak : Nat
  deriving DecidableEq, Repr

/-- A record's snapshot, R133. -/
structure Snapshot where
  feedback : Int
  reference : Nat
  allowance : Nat
  limiting : Contributor
  speed : Nat
  vibRms : Nat
  vibPeak : Nat
  overloadPercent : Nat
  stage : Nat
  deriving DecidableEq, Repr

/-- A subsequent cause held by a record, R130, R136. -/
structure Subsequent where
  cause : Cause
  offset : Nat
  number : Option Word
  deriving DecidableEq, Repr

/-- A trip record, R130; a slot that is EMPTY holds none. `closed` tells CLOSED from FILLING. -/
structure TripRecord where
  closed : Bool
  keep : Bool
  serial : Nat
  number : Option Word
  origin : Option Station
  confirmed : Bool
  ownPart : OwnPart
  coOrigins : List CoOrigin
  firstCause : Cause
  detail : Int
  timeMark : BitVec 32
  stateAtTrip : StationState
  snapshot : Snapshot
  subsequent : List Subsequent
  overflow : Nat
  history : List HistoryEntry
  tail : List HistoryEntry
  tailCut : Bool
  deriving DecidableEq, Repr

/-- The record store, R128, R130, R131. -/
structure RecordStore where
  ring : List HistoryEntry
  slots : Eight (Option TripRecord)
  serial : Nat
  current : Option (Fin 8)
  deriving DecidableEq, Repr

/-- A frame this station sends, R153, R154. -/
inductive TxFrame where
  | trip (p : TripPayload)
  | clamp (p : ClampPayload)
  | share (p : SharePayload)
  | reply (p : ReplyPayload)
  | roll (p : RollPayload)
  deriving DecidableEq, Repr

/-- The nine link counters, R156. -/
structure LinkCounters where
  receivedValid : Nat
  checkErrors : Nat
  framingErrors : Nat
  arbitrationLosses : Nat
  echoFaults : Nat
  shareOvertaken : Nat
  repliesDropped : Nat
  staleTrips : Nat
  wrongSenderKind : Nat
  deriving DecidableEq, Repr

/-- The link controller, R143. `listening`: ten recessive bits have been read since it became active (R143);
`lineBusy`: a frame of another station has begun on the line and not ended (R143, R147), or arbitration is lost and the
rest of the winner's frame is still to come (R148); `abortBits`: bits of the abort mark still to send (R149);
`bitMicros`: the µs into the running bit (model's own); `faultClass`: the class code of the frame whose echo fault made
the fourth, when MUTE was entered so (R150). -/
structure Link where
  active : Bool
  listening : Bool
  lineBusy : Bool
  idle : Nat
  bitMicros : Nat
  abortBits : Nat
  tripSlot : Option TripPayload
  clampSlot : Option ClampPayload
  shareSlot : Option SharePayload
  rollSlot : Option RollPayload
  transmitter : Option TxFrame
  queue : List ReplyPayload
  consecutive : Nat
  mute : Bool
  faultClass : Option Nat
  counters : LinkCounters
  deriving DecidableEq, Repr

/-- The kinds of reset, R162. -/
inductive ResetKind where
  | powerOn | resetLine | restart | clockLoss
  deriving DecidableEq, Repr

/-- Where start-up stands, R163. -/
inductive LoaderStep where
  | settling | reading | done
  deriving DecidableEq, Repr

/-- The parameter loader, R162; `guardFound` is the differing CRC found by the guard (R165). -/
structure Loader where
  station : Station
  settings : Option (List Word)
  guardWord : Word
  resetCause : ResetKind
  haltMark : Bool
  step : LoaderStep
  guardFound : Option Word
  deriving DecidableEq, Repr

/-- The supply and clock monitor, R167, R168. -/
structure Monitor where
  supplyHeld : Bool
  clockLost : Bool
  supplyLow : Bool
  deriving DecidableEq, Repr

/-- The timers: µs left of each (none: stopped); the jam timer holds the µs it has run (R80). -/
structure Timers where
  settle : Option Nat
  guard : Option Nat
  aging : Option Nat
  share : Option Nat
  history : Option Nat
  demand : Option Nat
  startWindow : Option Nat
  lockout : Option Nat
  lstopFilter : Option Nat
  maintFilter : Option Nat
  loopWait : Option Nat
  clearWindow : Option Nat
  stage : Option Nat
  jam : Option Nat
  surge : Option Nat
  silence : Option Nat
  pattern : Option Nat
  deriving DecidableEq, Repr

/-- The time mark (R162) and the µs into the running ms. -/
structure Clock where
  timeMark : BitVec 32
  micros : Nat
  deriving DecidableEq, Repr

/-- The output lines that follow the state, R20, R108. -/
structure Lines where
  convEn : Bool
  brkRel : Bool
  loopDrive : Bool
  fault : Bool
  deriving DecidableEq, Repr

/-- The levels that the outside puts on the input lines. -/
structure Inputs where
  loopOthers : Bool
  lstopPin : Bool
  maintPin : Bool
  straps : BitVec 3
  supplyMillivolts : Nat
  deriving DecidableEq, Repr

/-- The state of the block. `free` is the counter that free choices are applied to (assumption log 5);
`pending` holds the commands that wait, first in, first out. -/
structure State where
  peers : PeerTable
  seq : Sequencer
  speed : SpeedUnit
  gen : Generator
  reg : Regulator
  limiter : Limiter
  vib : VibWatch
  cause : CauseUnit
  records : RecordStore
  link : Link
  loader : Loader
  monitor : Monitor
  timers : Timers
  clock : Clock
  lines : Lines
  inputs : Inputs
  free : Nat
  pending : List Instr
  deriving DecidableEq, Repr

/-- No command faults: the manual gives every event an effect in every state, or says that it has none. -/
inductive Fault where
  deriving DecidableEq, Repr

/-- Why a command is refused. -/
inductive Refusal where
  /-- Raised by an arm of exec whose command has no meaning yet; safe (the model stops). No arm raises it now. -/
  | notModelled (mnemonic : String)
  deriving DecidableEq, Repr

/-- What a command answers. -/
abbrev Out := Host.Outcome State Fault Refusal

/-- An entry after every reset, R19. -/
def PeerEntry.empty : PeerEntry :=
  { kind := .unknown, entry := .absent, foreign := false, silence := 0, share := none, nonRunning := 0, heard := 0 }

/-- The peer table after every reset, R19. -/
def PeerTable.reset : PeerTable :=
  { entries := ⟨.empty, .empty, .empty, .empty, .empty, .empty, .empty, .empty⟩, participants := [], joinExpiries := 0 }

/-- The sequencer after every reset, R21. -/
def Sequencer.reset : Sequencer :=
  { station := .loading, intended := .run, startMark := none, confirmation := [], lstop := false, maint := false,
    selftestDone := false, lastOutcome := none, selftestTag := 0 }

/-- The speed unit after every reset, R45. -/
def SpeedUnit.reset : SpeedUnit :=
  { capture := 16777215, speed := 0, standstill := true, stageEdges := 0 }

/-- The conduction generator after every reset, R51. -/
def Generator.reset : Generator :=
  { period := none, onCount := 0, offCount := 0, phase := .off, demand := 0, answered := false, position := 0,
    strobes := 0 }

/-- The current regulator after every reset, R55. -/
def Regulator.reset : Regulator :=
  { feedback := 0, speedTarget := 0, setpoint := 0, integral := 0, demand := 0, prevAllowance := 0, trim := 0,
    reference := 0, currentIntegral := 0, conduction := 0, missCount := 0, sample := 0, overCurrent := false }

/-- The clamp record after every reset, R84. -/
def ClampRecord.reset : ClampRecord :=
  { active := false, level := 0, origin := 0, causeCode := 0, remaining := 0, remainingUs := 0 }

/-- The torque limiter after power-on, R67, R74, R75, R82, R84. -/
def Limiter.reset : Limiter :=
  { rated := 0, stageValue := 0, bandValue := 0, creepCap := 0, ceiling := 0, overloadValue := 0,
    envelope := ⟨0, 0, 0, 0⟩, band := 0, allowance := 0, limiting := .rated, account := 0, limit := false, stage := 0,
    surgeReference := 0, clamp := .reset }

/-- The vibration watch after every reset, R92. -/
def VibWatch.reset : VibWatch :=
  { count := 0, sumSquares := 0, peak := 0, latestRms := 0, latestPeak := 0, latestBand := 0, alertCount := 0,
    tripCount := 0, quietCount := 0, allowance := 0, phase := .none, patternCount := 0, failMark := false,
    amplitude := 0 }

/-- A cause after every reset, R108. -/
def CauseField.reset : CauseField :=
  { present := false, latched := false, count := 0 }

/-- The cause set after every reset, R108. -/
def CauseSet.reset : CauseSet :=
  { overcurrent := .reset, sampleLoss := .reset, overspeed := .reset, vibTrip := .reset,
    vibAlert := .reset, vibInput := .reset, jam := .reset, noBreakaway := .reset,
    overload := .reset, surge := .reset, peerSilent := .reset, peerLost := .reset,
    outOfStep := .reset, groupShort := .reset, demandLoss := .reset, peerTrip := .reset,
    loop := .reset, localStop := .reset, linkTransmit := .reset, duplicate := .reset,
    settingsGuard := .reset, supplyLow := .reset, selftestFail := .reset, foreignPeer := .reset }

/-- The action table before entry to JOINING (assumption log 8). -/
def ActionTable.reset : ActionTable :=
  { vibInput := ⟨.alert, 0⟩, surge := ⟨.alert, 0⟩, peerLost := ⟨.alert, 0⟩, outOfStep := ⟨.alert, 0⟩,
    supplyLow := ⟨.alert, 0⟩ }

/-- The cause unit after power-on, R108. -/
def CauseUnit.reset : CauseUnit :=
  { causes := .reset, actions := .reset, g := 0, context := none, clearTag := none, loopFeedback := 0,
    loopSpeed := 0 }

/-- The record store after power-on, R131, R142. -/
def RecordStore.reset : RecordStore :=
  { ring := [], slots := ⟨none, none, none, none, none, none, none, none⟩, serial := 0, current := none }

/-- The counters after every reset, R156. -/
def LinkCounters.reset : LinkCounters :=
  { receivedValid := 0, checkErrors := 0, framingErrors := 0, arbitrationLosses := 0, echoFaults := 0,
    shareOvertaken := 0, repliesDropped := 0, staleTrips := 0, wrongSenderKind := 0 }

/-- The link controller after every reset, R143. -/
def Link.reset : Link :=
  { active := false, listening := false, lineBusy := false, idle := 0, bitMicros := 0, abortBits := 0,
    tripSlot := none, clampSlot := none, shareSlot := none, rollSlot := none,
    transmitter := none, queue := [], consecutive := 0, mute := false, faultClass := none, counters := .reset }

/-- The loader at the beginning of a reset, R162. -/
def Loader.reset (cause : ResetKind) (halted : Bool) : Loader :=
  { station := 0, settings := none, guardWord := 0, resetCause := cause, haltMark := halted, step := .settling,
    guardFound := none }

/-- Every timer stopped. -/
def Timers.stopped : Timers :=
  { settle := none, guard := none, aging := none, share := none, history := none, demand := none,
    startWindow := none, lockout := none, lstopFilter := none, maintFilter := none, loopWait := none,
    clearWindow := none, stage := none, jam := none, surge := none, silence := none, pattern := none }

/-- The output lines in reset, R166, R167. -/
def Lines.released : Lines :=
  { convEn := false, brkRel := false, loopDrive := false, fault := false }

/-- The input lines as State.reset finds them (assumption log 7). -/
def Inputs.quiet : Inputs :=
  { loopOthers := false, lstopPin := false, maintPin := false, straps := 0, supplyMillivolts := 3300 }

/-- The machine right after a power-on reset has ended: LOADING, the settle time of 20 ms running (R163), every
register as its chapter gives it after power-on, the queue empty. -/
def State.reset : State :=
  { peers := .reset, seq := .reset, speed := .reset, gen := .reset, reg := .reset, limiter := .reset, vib := .reset,
    cause := .reset, records := .reset, link := .reset, loader := .reset .powerOn false,
    monitor := { supplyHeld := false, clockLost := false, supplyLow := false },
    timers := { Timers.stopped with settle := some 20000 }, clock := { timeMark := 0, micros := 0 },
    lines := .released, inputs := .quiet, free := 0, pending := [] }

end Sys2Proof.Machine
end

