-- ==== Sys2Proof/Machine/Settings.lean ====
section
/-!
DEFINITION. The working settings: the 64 words of the parameter block (spec/11 section 11.4), each setting read from
them, and the checks of R164. Times are given in the units of the settings tables; `…Us` is in µs.
-/

namespace Sys2Proof.Machine

/-- The working settings, 64 words as copied (R162). -/
abbrev Settings := List Word

/-- Word `i` of the block. -/
def Settings.at (w : Settings) (i : Nat) : Nat :=
  (w.getD i 0).toNat

/-- Bits `lo` to `lo + n - 1` of word `i`. -/
def Settings.bits (w : Settings) (i lo n : Nat) : Nat :=
  (w.at i >>> lo) % 2 ^ n

/-- A value of two words, high word first. -/
def Settings.long (w : Settings) (i : Nat) : Nat :=
  w.at i * 65536 + w.at (i + 1)

/-- One of four band words from word `i` on. -/
def Settings.banded (w : Settings) (i : Nat) (band : Fin 4) : Nat :=
  w.at (i + band.val)

def Settings.bitRateCode (w : Settings) : Nat := w.bits 0 14 2
/-- The bit time in µs of 250, 500 or 1000 kbit/s (R143). -/
def Settings.bitTime (w : Settings) : Nat :=
  match w.bitRateCode with
  | 0 => 4
  | 1 => 2
  | 2 => 1
  | code => Config.bitTimeOfUnnamedRate code
def Settings.groupSize (w : Settings) : Nat := w.bits 0 11 3
def Settings.minRun (w : Settings) : Nat := w.bits 0 8 3
def Settings.minCreep (w : Settings) : Nat := w.bits 0 5 3
def Settings.supplyStep (w : Settings) : Nat := w.bits 0 2 3
def Settings.edgeSelect (w : Settings) : Nat := w.bits 0 0 2
def Settings.signature (w : Settings) : Word := w.getD 1 0
def Settings.demandTimeout (w : Settings) : Nat := w.at 2
def Settings.clearWindow (w : Settings) : Nat := w.at 3
def Settings.slewLimit (w : Settings) : Nat := w.bits 4 8 8
def Settings.loopWait (w : Settings) : Nat := w.bits 4 0 8
def Settings.tachConstant (w : Settings) : Nat := w.long 5
def Settings.standstillTime (w : Settings) : Nat := w.at 7
def Settings.overspeedLimit (w : Settings) : Nat := w.at 8
def Settings.maxSpeed (w : Settings) : Nat := w.at 9
def Settings.creepSpeed (w : Settings) : Nat := w.at 10
def Settings.accelRate (w : Settings) : Nat := w.at 11
def Settings.decelRate (w : Settings) : Nat := w.at 12
def Settings.kp (w : Settings) : Nat := w.at 13
def Settings.ki (w : Settings) : Nat := w.at 14
def Settings.kpc (w : Settings) : Nat := w.at 15
def Settings.kic (w : Settings) : Nat := w.at 16
def Settings.kb (w : Settings) : Nat := w.at 17
/-- Held as the number minus 1 (R169). -/
def Settings.recoveryWindows (w : Settings) : Nat := w.bits 18 10 6 + 1
def Settings.trimLimit (w : Settings) : Nat := w.bits 18 0 9
def Settings.overcurrentLimit (w : Settings) : Nat := w.at 19
def Settings.maxConduction (w : Settings) : Nat := w.at 20
def Settings.carrierPeriod (w : Settings) : Nat := w.at 21
def Settings.sharePeriod (w : Settings) : Nat := w.bits 22 10 6
def Settings.vibInputAction (w : Settings) : Nat := w.bits 22 8 2
def Settings.surgeAction (w : Settings) : Nat := w.bits 22 6 2
def Settings.peerLostAction (w : Settings) : Nat := w.bits 22 4 2
def Settings.outOfStepAction (w : Settings) : Nat := w.bits 22 2 2
def Settings.supplyLowAction (w : Settings) : Nat := w.bits 22 0 2
def Settings.vibInputLevel (w : Settings) : Nat := w.at 23
def Settings.surgeLevel (w : Settings) : Nat := w.at 24
def Settings.peerLostLevel (w : Settings) : Nat := w.at 25
def Settings.outOfStepLevel (w : Settings) : Nat := w.at 26
def Settings.supplyLowLevel (w : Settings) : Nat := w.at 27
def Settings.ratedCeiling (w : Settings) : Nat := w.at 28
def Settings.b1 (w : Settings) : Nat := w.at 29
def Settings.b2 (w : Settings) : Nat := w.at 30
def Settings.b3 (w : Settings) : Nat := w.at 31
def Settings.envelope (w : Settings) : Four Nat := ⟨w.at 32, w.at 33, w.at 34, w.at 35⟩
def Settings.creepCap (w : Settings) : Nat := w.at 36
def Settings.continuousRating (w : Settings) : Nat := w.at 37
def Settings.overloadCapacity (w : Settings) : Nat := w.long 38
/-- The level of breakaway stage 1, 2 or 3; stage 0 has none (R67: 0 while the stage is 0). -/
def Settings.stageLevel (w : Settings) (stage : Nat) : Nat :=
  match stage with
  | 1 => w.at 40
  | 2 => w.at 41
  | 3 => w.at 42
  | _ => 0
def Settings.stageTime (w : Settings) : Nat := w.at 43
def Settings.rotationEdges (w : Settings) : Nat := w.bits 44 11 5
def Settings.alertPersistence (w : Settings) : Nat := w.bits 44 7 4
def Settings.tripPersistence (w : Settings) : Nat := w.bits 44 3 4
def Settings.onIsHigh (w : Settings) : Bool := w.bits 44 0 1 == 0
def Settings.jamSpeed (w : Settings) : Nat := w.bits 45 8 8
def Settings.derateStep (w : Settings) : Nat := w.bits 45 0 8
def Settings.jamTime (w : Settings) : Nat := w.at 46
def Settings.surgeInterval (w : Settings) : Nat := w.at 47
def Settings.surgeThreshold (w : Settings) : Nat := w.at 48
def Settings.clampHold (w : Settings) : Nat := w.at 49
def Settings.derateFloor (w : Settings) : Nat := w.at 50
def Settings.silenceTime (w : Settings) : Nat := w.at 51
def Settings.alertRms (w : Settings) (band : Fin 4) : Nat := w.banded 52 band
def Settings.tripRms (w : Settings) (band : Fin 4) : Nat := w.banded 56 band
def Settings.tripPeak (w : Settings) (band : Fin 4) : Nat := w.banded 60 band

/-- The share period in µs (R6); an upset may make it 0 (log 48). -/
def Settings.sharePeriodUs (w : Settings) : Nat := w.sharePeriod * 1000

/-- Standstill time in µs (R48). -/
def Settings.standstillUs (w : Settings) : Nat := w.standstillTime * 1000

/-- Overload capacity in ‰·µs (R72). -/
def Settings.capacityUs (w : Settings) : Nat := w.overloadCapacity * 1000

/-- Warning level of the supply in mV: 2.85 V plus 0.05 V times k (R168). -/
def Settings.warningLevel (w : Settings) : Nat := 2850 + 50 * w.supplyStep

/-- Action codes of spec/11 section 11.1; a block that passes R164 holds no code 3. -/
def actionOfCode (code : Nat) : Action :=
  match code with
  | 0 => .trip
  | 1 => .clamp
  | _ => .alert

/-- The action table of R110, taken from the settings. -/
def Settings.actions (w : Settings) : ActionTable :=
  { vibInput := ⟨actionOfCode w.vibInputAction, w.vibInputLevel⟩,
    surge := ⟨actionOfCode w.surgeAction, w.surgeLevel⟩,
    peerLost := ⟨actionOfCode w.peerLostAction, w.peerLostLevel⟩,
    outOfStep := ⟨actionOfCode w.outOfStepAction, w.outOfStepLevel⟩,
    supplyLow := ⟨actionOfCode w.supplyLowAction, w.supplyLowLevel⟩ }

/-- Whether an edge is of the kind named by the edge select (R46). -/
def Settings.edgeQualifies (w : Settings) (e : Edge) : Bool :=
  match w.edgeSelect with
  | 0 => e == .rising
  | 1 => e == .falling
  | 2 => true
  | _ => Config.edgeOfUnnamedSelect (e == .rising)

/-- The CRC of the 64 words (R164, R165). -/
def Settings.crc (w : Settings) : Word :=
  crc16 (bitsOfWords w)

/-- A value within an inclusive range (spec/00 section 6). -/
def within (lo hi v : Nat) : Bool :=
  decide (lo ≤ v) && decide (v ≤ hi)

/-- Settings of chapter 10 and the action table within their ranges (section 10.3, R110). -/
def Settings.groupInRange (w : Settings) : Bool :=
  within 0 2 w.bitRateCode && within 4 40 w.sharePeriod && within 2 6 w.groupSize && within 1 6 w.minRun
    && within 1 6 w.minCreep && within 200 5000 w.demandTimeout && within 5 200 w.loopWait
    && within 50 2000 w.clearWindow && within 0 7 w.supplyStep
    && within 0 2 w.vibInputAction && within 0 2 w.surgeAction && within 0 2 w.peerLostAction
    && within 0 2 w.outOfStepAction && within 0 2 w.supplyLowAction
    && within 100 1500 w.vibInputLevel && within 100 1500 w.surgeLevel && within 100 1500 w.peerLostLevel
    && within 100 1500 w.outOfStepLevel && within 100 1500 w.supplyLowLevel

/-- Settings of section 3.1 within their ranges. -/
def Settings.driveInRange (w : Settings) : Bool :=
  within 0 2 w.edgeSelect && within 1000000 4000000000 w.tachConstant && within 100 2000 w.standstillTime
    && within 1000 1400 w.overspeedLimit && within 100 1500 w.maxSpeed && within 10 300 w.creepSpeed
    && within 1 1000 w.accelRate && within 1 1000 w.decelRate && within 0 32767 w.kp && within 0 32767 w.ki
    && within 0 32767 w.kpc && within 0 32767 w.kic && within 0 32767 w.kb && within 0 500 w.trimLimit
    && within 1 200 w.slewLimit && within 1000 3000 w.overcurrentLimit && within 500 1000 w.maxConduction
    && within 500 5000 w.carrierPeriod

/-- Settings of section 4.1 within their ranges. -/
def Settings.torqueInRange (w : Settings) : Bool :=
  within 500 1500 w.ratedCeiling && within 1 1500 w.b1 && within 1 1500 w.b2 && within 1 1500 w.b3
    && within 500 2000 w.envelope.b0 && within 500 2000 w.envelope.b1 && within 500 2000 w.envelope.b2
    && within 500 2000 w.envelope.b3 && within 200 1500 w.creepCap && within 800 1200 w.continuousRating
    && within 1000000 100000000 w.overloadCapacity && within 500 2000 (w.stageLevel 1)
    && within 500 2000 (w.stageLevel 2) && within 500 2000 (w.stageLevel 3) && within 200 5000 w.stageTime
    && within 1 16 w.rotationEdges && within 1 200 w.jamSpeed && within 1000 10000 w.jamTime
    && within 20 500 w.surgeInterval && within 50 1500 w.surgeThreshold && within 100 10000 w.clampHold

/-- Settings of section 5.1 within their ranges. -/
def Settings.vibrationInRange (w : Settings) : Bool :=
  ([0, 1, 2, 3] : List (Fin 4)).all (fun b =>
      within 1 29000 (w.alertRms b) && within 1 29000 (w.tripRms b) && within 1 29000 (w.tripPeak b))
    && within 1 8 w.alertPersistence && within 1 8 w.tripPersistence && within 1 200 w.derateStep
    && within 300 1000 w.derateFloor && within 1 64 w.recoveryWindows && within 10 1000 w.silenceTime

/-- The bits of words 18 and 44 that carry no field are 0 (R170). -/
def Settings.unusedClear (w : Settings) : Bool :=
  w.bits 18 9 1 == 0 && w.bits 44 1 2 == 0

/-- The consistency check of R164. -/
def Settings.consistent (w : Settings) : Bool :=
  decide (w.b1 < w.b2) && decide (w.b2 < w.b3) && decide (w.minCreep ≤ w.minRun)
    && decide (w.minRun ≤ w.groupSize) && decide (w.derateFloor ≤ w.ratedCeiling)

/-- The ranges check of R164. -/
def Settings.inRange (w : Settings) : Bool :=
  w.groupInRange && w.driveInRange && w.torqueInRange && w.vibrationInRange && w.unusedClear

/-- The checks of R164, in its order. -/
inductive BlockCheck where
  | blank | checkWord | ranges | consistency
  deriving DecidableEq, Repr

/-- Bytes taken as words, each word high byte first (R163). -/
def wordsOfBytes : List Byte → List Word
  | hi :: lo :: rest => (hi ++ lo) :: wordsOfBytes rest
  | _ => []

/-- The first check of R164 that the 130 bytes fail, or the 64 words of a block that passes. -/
def checkBlock (bytes : List Byte) : Except BlockCheck Settings :=
  let words := wordsOfBytes bytes
  let settings : Settings := words.take 64
  if bytes.all (· == 0xFF) then .error .blank
  else if settings.crc ≠ words.getD 64 0 then .error .checkWord
  else if settings.inRange = false then .error .ranges
  else if settings.consistent = false then .error .consistency
  else .ok settings

end Sys2Proof.Machine
end

