-- ==== Sys2Proof/Machine/Flags.lean ====
section
/-!
DEFINITION. Codes (spec/11 section 11.1), kinds of state (R20), the output lines of a state (R20), the action of a
cause (R109, R110), serial order (R113), and every flag and figure that is computed from the state and not held:
participation (R16), the balancing set (R18), applicability (R67), the allowance (R68), the summary flags (R112).
-/

namespace Sys2Proof

/-- The element at a station or slot number. -/
def Eight.get {α : Type} (t : Eight α) (i : Fin 8) : α :=
  match i with
  | 0 => t.e0 | 1 => t.e1 | 2 => t.e2 | 3 => t.e3 | 4 => t.e4 | 5 => t.e5 | 6 => t.e6 | 7 => t.e7

/-- The table with one element replaced. -/
def Eight.set {α : Type} (t : Eight α) (i : Fin 8) (v : α) : Eight α :=
  match i with
  | 0 => { t with e0 := v } | 1 => { t with e1 := v } | 2 => { t with e2 := v } | 3 => { t with e3 := v }
  | 4 => { t with e4 := v } | 5 => { t with e5 := v } | 6 => { t with e6 := v } | 7 => { t with e7 := v }

/-- Every element changed, each with its number. -/
def Eight.map {α β : Type} (f : Fin 8 → α → β) (t : Eight α) : Eight β :=
  ⟨f 0 t.e0, f 1 t.e1, f 2 t.e2, f 3 t.e3, f 4 t.e4, f 5 t.e5, f 6 t.e6, f 7 t.e7⟩

/-- The numbers 0 to 7 in rising order. -/
def eightNumbers : List (Fin 8) :=
  [0, 1, 2, 3, 4, 5, 6, 7]

/-- The value of one speed band. -/
def Four.get {α : Type} (t : Four α) (i : Fin 4) : α :=
  match i with
  | 0 => t.b0 | 1 => t.b1 | 2 => t.b2 | 3 => t.b3

namespace Machine

/-- Station state codes. -/
def StationState.code : StationState → Nat
  | .loading => 0
  | .joining => 1
  | .selftest => 2
  | .stopped => 3
  | .starting => 4
  | .breakaway => 5
  | .run => 6
  | .creep => 7
  | .decel => 8
  | .tripDecel => 9
  | .tripped => 10
  | .clearing => 11
  | .standby => 12
  | .lockout => 13
  | .faultHalt => 14

/-- The state a received code names; 15 names none (R170). -/
def StationState.ofCode (code : Nat) : Option StationState :=
  match code with
  | 0 => some .loading
  | 1 => some .joining
  | 2 => some .selftest
  | 3 => some .stopped
  | 4 => some .starting
  | 5 => some .breakaway
  | 6 => some .run
  | 7 => some .creep
  | 8 => some .decel
  | 9 => some .tripDecel
  | 10 => some .tripped
  | 11 => some .clearing
  | 12 => some .standby
  | 13 => some .lockout
  | 14 => some .faultHalt
  | _ => none

/-- Contributor codes. -/
def Contributor.code : Contributor → Nat
  | .rated => 0
  | .stage => 1
  | .band => 2
  | .creep => 3
  | .ceiling => 4
  | .overload => 5
  | .vib => 6
  | .clamp => 7

/-- Outcome codes; 0 is none. -/
def OutcomeCode.code : OutcomeCode → Nat
  | .taken => 1
  | .wrongState => 2
  | .numberMismatch => 3
  | .causePresent => 4
  | .resetNeeded => 5
  | .moving => 6
  | .clearIncomplete => 7
  | .keepLimit => 8
  | .slotEmpty => 9
  | .startNotConfirmed => 10
  | .runAsCreep => 11
  | .tooFew => 12
  | .notReady => 13
  | .staleDemand => 14
  | .selftestPassed => 15
  | .selftestFailed => 16
  | .selftestAborted => 17

/-- Cause codes, R109. -/
def Cause.code : Cause → Nat
  | .overcurrent => 1
  | .sampleLoss => 2
  | .overspeed => 3
  | .vibTrip => 4
  | .vibAlert => 5
  | .vibInput => 6
  | .jam => 7
  | .noBreakaway => 8
  | .overload => 9
  | .surge => 10
  | .peerSilent => 11
  | .peerLost => 12
  | .outOfStep => 13
  | .groupShort => 14
  | .demandLoss => 15
  | .peerTrip => 16
  | .loop => 17
  | .localStop => 18
  | .linkTransmit => 19
  | .duplicate => 20
  | .settingsGuard => 21
  | .supplyLow => 22
  | .selftestFail => 23
  | .foreignPeer => 24

/-- Outcome source codes; 0 is none. -/
def OutcomeSource.code : OutcomeSource → Nat
  | .order => 1
  | .demand => 2

/-- Mode codes of the intended mode. -/
def Mode.code : Mode → Nat
  | .run => 1
  | .creep => 2

/-- Reset cause codes. -/
def ResetKind.code : ResetKind → Nat
  | .powerOn => 0
  | .resetLine => 1
  | .restart => 2
  | .clockLoss => 3

/-- Action codes. -/
def Action.code : Action → Nat
  | .trip => 0
  | .clamp => 1
  | .alert => 2

/-- Entry kind codes. -/
def PeerKind.code : PeerKind → Nat
  | .unknown => 0
  | .drive => 1
  | .other => 2

/-- Entry state codes. -/
def EntryState.code : EntryState → Nat
  | .absent => 0
  | .present => 1
  | .silent => 2
  | .lost => 3

/-- Own part codes. -/
def OwnPart.code : OwnPart → Nat
  | .origin => 0
  | .coOrigin => 1
  | .follower => 2

/-- The class code of a frame this station sends, R144. -/
def TxFrame.classCode : TxFrame → Nat
  | .trip _ => 0
  | .clamp _ => 1
  | .share _ => 4
  | .reply _ => 6
  | .roll _ => 7

/-- The participating states, R20. -/
def StationState.participating : StationState → Bool
  | .stopped | .starting | .breakaway | .run | .creep | .decel => true
  | _ => false

/-- The running states, R20. -/
def StationState.running : StationState → Bool
  | .breakaway | .run | .creep | .decel => true
  | _ => false

/-- The tripped states, R20. -/
def StationState.isTripped : StationState → Bool
  | .tripDecel | .tripped | .clearing => true
  | _ => false

/-- The states in which a TRIP-action rise is an origin trip (R111), the sensed loop makes a loop trip (R119) and a
TRIP frame or a SHARE makes a follower trip (R116, R121). -/
def StationState.canTrip : StationState → Bool
  | .selftest | .stopped | .starting | .breakaway | .run | .creep | .decel | .standby => true
  | _ => false

/-- RUN, CREEP and DECEL: the states of the balancing set (R18), of the derate (R97), of the speed regulator (R59). -/
def StationState.regulating : StationState → Bool
  | .run | .creep | .decel => true
  | _ => false

/-- BREAKAWAY, RUN and CREEP: where GROUP_SHORT and OUT_OF_STEP are watched (R35, R36). -/
def StationState.driving : StationState → Bool
  | .breakaway | .run | .creep => true
  | _ => false

/-- RUN and CREEP: where jam and surge are watched (R80, R83). -/
def StationState.cruising : StationState → Bool
  | .run | .creep => true
  | _ => false

/-- The evaluating states of the vibration watch, R93. -/
def StationState.evaluating : StationState → Bool
  | .stopped | .starting | .breakaway | .run | .creep | .decel | .tripDecel | .tripped | .clearing | .standby => true
  | _ => false

/-- From entry to JOINING onward, FAULT_HALT excepted: the blocks run (R45, R51, R82, R91). -/
def StationState.blocksRun : StationState → Bool
  | .loading | .faultHalt => false
  | _ => true

/-- From the end of joining: causes are presented (R109), SHAREs composed (R155), QUERYs served (R157). -/
def StationState.joined : StationState → Bool
  | .loading | .joining | .faultHalt => false
  | _ => true

/-- STARTING or a running state: what makes another station go to, or stay in, STANDBY (R15, R37, R40, R42). -/
def StationState.startingOrRunning : StationState → Bool
  | .starting | .breakaway | .run | .creep | .decel => true
  | _ => false

/-- The table of output lines, R20. -/
def StationState.lines : StationState → Lines
  | .breakaway | .run | .creep | .decel => { convEn := true, brkRel := true, loopDrive := false, fault := false }
  | .tripDecel => { convEn := false, brkRel := true, loopDrive := true, fault := true }
  | .tripped => { convEn := false, brkRel := false, loopDrive := true, fault := true }
  | .clearing | .faultHalt => { convEn := false, brkRel := false, loopDrive := false, fault := true }
  | .standby => { convEn := false, brkRel := true, loopDrive := false, fault := false }
  | .loading | .joining | .selftest | .stopped | .starting | .lockout =>
    { convEn := false, brkRel := false, loopDrive := false, fault := false }

/-- The causes in the order of their codes. -/
def Cause.all : List Cause :=
  [.overcurrent, .sampleLoss, .overspeed, .vibTrip, .vibAlert, .vibInput,
   .jam, .noBreakaway, .overload, .surge, .peerSilent, .peerLost,
   .outOfStep, .groupShort, .demandLoss, .peerTrip, .loop, .localStop,
   .linkTransmit, .duplicate, .settingsGuard, .supplyLow, .selftestFail, .foreignPeer]

/-- The field of one cause. -/
def CauseSet.get (t : CauseSet) : Cause → CauseField
  | .overcurrent => t.overcurrent
  | .sampleLoss => t.sampleLoss
  | .overspeed => t.overspeed
  | .vibTrip => t.vibTrip
  | .vibAlert => t.vibAlert
  | .vibInput => t.vibInput
  | .jam => t.jam
  | .noBreakaway => t.noBreakaway
  | .overload => t.overload
  | .surge => t.surge
  | .peerSilent => t.peerSilent
  | .peerLost => t.peerLost
  | .outOfStep => t.outOfStep
  | .groupShort => t.groupShort
  | .demandLoss => t.demandLoss
  | .peerTrip => t.peerTrip
  | .loop => t.loop
  | .localStop => t.localStop
  | .linkTransmit => t.linkTransmit
  | .duplicate => t.duplicate
  | .settingsGuard => t.settingsGuard
  | .supplyLow => t.supplyLow
  | .selftestFail => t.selftestFail
  | .foreignPeer => t.foreignPeer

/-- The cause set with one field replaced. -/
def CauseSet.set (t : CauseSet) (c : Cause) (v : CauseField) : CauseSet :=
  match c with
  | .overcurrent => { t with overcurrent := v }
  | .sampleLoss => { t with sampleLoss := v }
  | .overspeed => { t with overspeed := v }
  | .vibTrip => { t with vibTrip := v }
  | .vibAlert => { t with vibAlert := v }
  | .vibInput => { t with vibInput := v }
  | .jam => { t with jam := v }
  | .noBreakaway => { t with noBreakaway := v }
  | .overload => { t with overload := v }
  | .surge => { t with surge := v }
  | .peerSilent => { t with peerSilent := v }
  | .peerLost => { t with peerLost := v }
  | .outOfStep => { t with outOfStep := v }
  | .groupShort => { t with groupShort := v }
  | .demandLoss => { t with demandLoss := v }
  | .peerTrip => { t with peerTrip := v }
  | .loop => { t with loop := v }
  | .localStop => { t with localStop := v }
  | .linkTransmit => { t with linkTransmit := v }
  | .duplicate => { t with duplicate := v }
  | .settingsGuard => { t with settingsGuard := v }
  | .supplyLow => { t with supplyLow := v }
  | .selftestFail => { t with selftestFail := v }
  | .foreignPeer => { t with foreignPeer := v }

/-- The action table's row of a configurable cause, R110. -/
def ActionTable.row (t : ActionTable) : Cause → Option ActionEntry
  | .vibInput => some t.vibInput
  | .surge => some t.surge
  | .peerLost => some t.peerLost
  | .outOfStep => some t.outOfStep
  | .supplyLow => some t.supplyLow
  | _ => none

/-- The fixed action of a cause, R109. -/
def Cause.fixedAction : Cause → Action
  | .vibAlert | .overload | .peerSilent | .demandLoss | .selftestFail | .foreignPeer => .alert
  | _ => .trip

/-- The action a cause has at this station, R109, R110. -/
def ActionTable.action (t : ActionTable) (c : Cause) : Action :=
  match t.row c with
  | some e => e.action
  | none => c.fixedAction

/-- The clamp level of a configurable cause, otherwise 0 (R159). -/
def ActionTable.level (t : ActionTable) (c : Cause) : Nat :=
  match t.row c with
  | some e => e.level
  | none => 0

/-- The reset-only causes, R109. -/
def Cause.resetOnly : Cause → Bool
  | .linkTransmit | .duplicate | .settingsGuard => true
  | _ => false

/-- Serial order of trip numbers, R113. -/
def newer (n g : Word) : Bool :=
  n != 0 && (g == 0 || (decide (1 ≤ (n - g).toNat) && decide ((n - g).toNat ≤ 32767)))

/-- The successor of a trip number, R113. -/
def successor (g : Word) : Word :=
  if g = 0xFFFF then 1 else g + 1

/-- A count that stops at its largest value. -/
def bump (limit count : Nat) : Nat :=
  min limit (count + 1)

/-- x held within [lo, hi] (spec/00 section 6). -/
def held (lo hi x : Int) : Int :=
  max lo (min hi x)

/-- The working settings; none are read before they are taken (R162). -/
def State.cfg (s : State) : Settings :=
  s.loader.settings.getD []

/-- The station state. -/
def State.st (s : State) : StationState :=
  s.seq.station

/-- The field of one cause. -/
def State.causeField (s : State) (c : Cause) : CauseField :=
  s.cause.causes.get c

/-- The action a cause has at this station. -/
def State.actionOf (s : State) (c : Cause) : Action :=
  s.cause.actions.action c

/-- The entry of a station number. -/
def State.entry (s : State) (n : Station) : PeerEntry :=
  s.peers.entries.get n

/-- The sensed level of TRLOOP: active while any station, this one included, drives the loop (R118). -/
def State.loopSensed (s : State) : Bool :=
  s.lines.loopDrive || s.inputs.loopOthers

/-- The level of COND: low in LOADING and FAULT_HALT, else the level that the polarity gives to the phase (R52). -/
def State.condHigh (s : State) : Bool :=
  s.st.blocksRun && ((s.gen.phase == .on) == s.cfg.onIsHigh)

/-- Whether the station may send a start bit: active, not MUTE, sending nothing, the line idle, and a bit time
beginning, since a frame that becomes pending amid a bit waits for the next one (R147, R150; log 12). -/
def Link.startable (l : Link) : Bool :=
  l.active && !l.mute && l.transmitter.isNone && l.idle == 10 && l.bitMicros == 0

/-- Whether a slot or the reply queue holds a frame to send (R153, R154). -/
def Link.pending (l : Link) : Bool :=
  l.tripSlot.isSome || l.clampSlot.isSome || l.shareSlot.isSome || !l.queue.isEmpty || l.rollSlot.isSome

/-- SPI_CS_N is active while the loader reads the block (R163). -/
def State.spiSelected (s : State) : Bool :=
  s.loader.step == .reading

/-- The bytes the loader sends on SPI_MOSI, most significant bit first, before the memory answers: the command byte and the
two address bytes, while SPI_CS_N is active (R163). -/
def State.spiSent (s : State) : List Byte :=
  if s.spiSelected then [0x03, 0x00, 0x00] else []

/-- SPI_SCK between transfers: it idles low (R163). The 1064 clock pulses of a transfer are within one event (log 36). -/
def State.spiClockHigh (_s : State) : Bool :=
  false

/-- The station is held in reset (R167). -/
def State.inReset (s : State) : Bool :=
  s.monitor.supplyHeld || s.monitor.clockLost

/-- Ready: SELFTEST_FAIL is not latched (R16, R105). -/
def State.ready (s : State) : Bool :=
  !(s.causeField .selftestFail).latched

/-- The state a SHARE shows; none for the code 15 (R170). -/
def shareShown (p : SharePayload) : Option StationState :=
  StationState.ofCode p.state.toNat

/-- Whether a SHARE shows a state of a kind. -/
def shareShows (p : SharePayload) (kind : StationState → Bool) : Bool :=
  match shareShown p with
  | some st => kind st
  | none => false

/-- Whether an entry's last SHARE content is present and shows a state of a kind. -/
def PeerEntry.shows (e : PeerEntry) (kind : StationState → Bool) : Bool :=
  match e.share with
  | some p => shareShows p kind
  | none => false

/-- Whether another station's entry makes it a participant, R16. -/
def PeerEntry.participates (e : PeerEntry) : Bool :=
  e.kind == .drive && (e.entry == .present || e.entry == .silent) && !e.foreign
    && (match e.share with
        | some p => shareShows p StationState.participating && !p.notReady
        | none => false)

/-- Whether station `n` is a participant as the state now stands, R16. -/
def State.isParticipant (s : State) (n : Station) : Bool :=
  if n = s.loader.station then s.st.participating && s.ready
  else (s.entry n).participates

/-- The participant list that a re-evaluation gives, R17: empty in LOADING and FAULT_HALT. -/
def State.participantsNow (s : State) : List Station :=
  if s.st.blocksRun then eightNumbers.filter s.isParticipant else []

/-- The participant count of the latest re-evaluation, R17. -/
def State.count (s : State) : Nat :=
  s.peers.participants.length

/-- The participants other than this station. -/
def State.others (s : State) : List Station :=
  s.peers.participants.filter (· ≠ s.loader.station)

/-- Whether some other participant's last SHARE content shows a state of a kind. -/
def State.someOtherShows (s : State) (kind : StationState → Bool) : Bool :=
  s.others.any fun n => (s.entry n).shows kind

/-- Whether station `n` is in the balancing set, R18. -/
def State.inBalance (s : State) (n : Station) : Bool :=
  s.peers.participants.contains n &&
    (if n = s.loader.station then s.st.regulating else (s.entry n).shows StationState.regulating)

/-- The balancing set, R18. -/
def State.balancingSet (s : State) : List Station :=
  s.peers.participants.filter s.inBalance

/-- A drive entry that counts for the group: kind DRIVE, not the own entry, no foreign mark (R8, R9). -/
def State.groupDrive (s : State) (n : Station) : Bool :=
  n ≠ s.loader.station && (s.entry n).kind == .drive && !(s.entry n).foreign

/-- PEER_SILENT's condition, R8. -/
def State.peerSilentNow (s : State) : Bool :=
  eightNumbers.any fun n => s.groupDrive n && (s.entry n).entry == .silent

/-- PEER_LOST's condition, R8. -/
def State.peerLostNow (s : State) : Bool :=
  eightNumbers.any fun n => s.groupDrive n && (s.entry n).entry == .lost

/-- FOREIGN_PEER's condition, R9. -/
def State.foreignNow (s : State) : Bool :=
  eightNumbers.any fun n => (s.entry n).foreign

/-- GROUP_SHORT's condition, R35. -/
def State.groupShortNow (s : State) : Bool :=
  s.st.driving && decide (s.count < s.cfg.minCreep)

/-- OUT_OF_STEP's condition, R36. -/
def State.outOfStepNow (s : State) : Bool :=
  s.st.driving && s.peers.participants.any fun n => decide (2 ≤ (s.entry n).nonRunning)

/-- Whether a contributor applies, table of R67. -/
def Contributor.applies (c : Contributor) (st : StationState) (limit clamp : Bool) : Bool :=
  match c with
  | .rated => st != .breakaway
  | .stage => st == .breakaway
  | .band => st.regulating
  | .creep => st == .creep
  | .ceiling => true
  | .overload => limit
  | .vib => st != .breakaway
  | .clamp => clamp

/-- Whether a contributor applies in the present state. -/
def State.applies (s : State) (c : Contributor) : Bool :=
  c.applies s.st s.limiter.limit s.limiter.clamp.active

/-- The value held for a contributor, R67. -/
def State.contributorValue (s : State) (c : Contributor) : Nat :=
  match c with
  | .rated => s.limiter.rated
  | .stage => s.limiter.stageValue
  | .band => s.limiter.bandValue
  | .creep => s.limiter.creepCap
  | .ceiling => s.limiter.ceiling
  | .overload => s.limiter.overloadValue
  | .vib => s.vib.allowance
  | .clamp => s.limiter.clamp.level

/-- The contributors in the order of R67's table. -/
def Contributor.all : List Contributor :=
  [.rated, .stage, .band, .creep, .ceiling, .overload, .vib, .clamp]

/-- The smaller of the best so far and one more contributor; the earlier stays where they are equal (R68). -/
def State.lower (s : State) (best : Contributor) (c : Contributor) : Contributor :=
  if s.contributorValue c < s.contributorValue best then c else best

/-- The limiting contributor, R68: CEILING always applies. -/
def State.limitingNow (s : State) : Contributor :=
  match Contributor.all.filter s.applies with
  | first :: rest => rest.foldl s.lower first
  | [] => .ceiling

/-- The speed band of a speed, table of R70. -/
def Settings.bandOf (w : Settings) (speed : Nat) : Fin 4 :=
  if speed < w.b1 then 0 else if speed < w.b2 then 1 else if speed < w.b3 then 2 else 3

/-- The overload account as a percentage of capacity, R74. -/
def State.overloadPercent (s : State) : Nat :=
  if s.cfg.capacityUs = 0 then Config.percentOfNoCapacity s.limiter.account
  else s.limiter.account * 100 / s.cfg.capacityUs

/-- Alert present, R112. -/
def State.alertPresent (s : State) : Bool :=
  Cause.all.any fun c => s.actionOf c == .alert && (s.causeField c).present

/-- Clamp cause present, R112. -/
def State.clampCausePresent (s : State) : Bool :=
  Cause.all.any fun c => s.actionOf c == .clamp && (s.causeField c).present

/-- The latched TRIP-action causes, in the order of their codes. -/
def State.latchedTripCauses (s : State) : List Cause :=
  Cause.all.filter fun c => s.actionOf c == .trip && (s.causeField c).latched

/-- Trip cause latched, R112. -/
def State.tripCauseLatched (s : State) : Bool :=
  !s.latchedTripCauses.isEmpty

/-- Both jam conditions, R80. -/
def State.jamConditions (s : State) : Bool :=
  decide (s.speed.speed < s.cfg.jamSpeed) && decide (0 < s.limiter.allowance)
    && decide ((s.limiter.allowance : Int) * 95 ≤ s.reg.feedback * 100)

end Machine

end Sys2Proof
end

