-- ==== Sys2Proof/Machine/Clock.lean ====
section
/-!
DEFINITION. The passing of time: every running timer, the time mark (R162), the capture timer (R45), the position in
the carrier period (R51), the remaining clamp hold (R85) and the bits of the line (R147) move together, and `dueEvents`
names the block's own events that are due. The clock stands still while the part is held in reset (R167).
-/

namespace Sys2Proof.Machine

/-- The time mark and its µs after `n` µs; the mark wraps at 32 bits (spec/00 section 6). -/
def Clock.elapse (n : Nat) (c : Clock) : Clock :=
  { timeMark := c.timeMark + BitVec.ofNat 32 ((c.micros + n) / 1000), micros := (c.micros + n) % 1000 }

/-- A running timer after `n` µs; it waits at 0 for its expiry to be taken. -/
def runDown (n : Nat) (t : Option Nat) : Option Nat :=
  t.map (· - n)

/-- All timers after `n` µs; the jam timer counts up (R80). -/
def Timers.elapse (n : Nat) (t : Timers) : Timers :=
  { settle := runDown n t.settle, guard := runDown n t.guard, aging := runDown n t.aging, share := runDown n t.share,
    history := runDown n t.history, demand := runDown n t.demand, startWindow := runDown n t.startWindow,
    lockout := runDown n t.lockout, lstopFilter := runDown n t.lstopFilter, maintFilter := runDown n t.maintFilter,
    loopWait := runDown n t.loopWait, clearWindow := runDown n t.clearWindow, stage := runDown n t.stage,
    jam := t.jam.map (· + n), surge := runDown n t.surge, silence := runDown n t.silence,
    pattern := runDown n t.pattern }

/-- The remaining hold counts down by one at each ms from the installation (R85). -/
def ClampRecord.elapse (n : Nat) (c : ClampRecord) : ClampRecord :=
  if c.active then
    { c with remaining := c.remaining - (c.remainingUs + n) / 1000, remainingUs := (c.remainingUs + n) % 1000 }
  else c

/-- The bits that pass on the line (R147): while this station sends a frame, or a frame of another station has begun and
not ended, the count stands; otherwise the abort mark is completed first (R149) and every further bit is recessive, since
a frame of another station begins and ends at commands (log 12). Ten recessive bits make the controller send and receive
(R143). -/
def Link.elapse (bitTime n : Nat) (l : Link) : Link :=
  if l.transmitter.isSome || l.lineBusy then l
  else
    let bits := (l.bitMicros + n) / bitTime
    let idle := min 10 (l.idle + (bits - l.abortBits))
    { l with bitMicros := (l.bitMicros + n) % bitTime, abortBits := l.abortBits - bits, idle := idle,
             listening := l.listening || idle == 10 }

/-- `n` µs pass. -/
def State.elapse (n : Nat) (s : State) : State :=
  if s.inReset then s
  else
    let running := s.st.blocksRun
    { s with
      clock := s.clock.elapse n
      timers := s.timers.elapse n
      speed := if running then { s.speed with capture := min 16777215 (s.speed.capture + n) } else s.speed
      gen := if running then { s.gen with position := s.gen.position + n } else s.gen
      limiter := { s.limiter with clamp := s.limiter.clamp.elapse n }
      link := if s.link.active then s.link.elapse s.cfg.bitTime n else s.link }

/-- A command that is due when its condition holds. -/
def dueIf (cond : Bool) (c : Instr) : List Instr :=
  if cond then [c] else []

/-- The block's own events that are due, in the order of the table. -/
def State.dueEvents (s : State) : List Instr :=
  dueIf (s.st.blocksRun && decide (s.gen.period.any (· ≤ s.gen.position))) .conductionPeriodStart
    ++ dueIf (s.gen.phase == .on && decide (s.gen.onCount ≤ s.gen.position) && decide (0 < s.gen.offCount))
      .conductionOnEnd
    ++ dueIf (s.st.blocksRun && !s.speed.standstill && decide (s.cfg.standstillUs ≤ s.speed.capture)) .standstill
    ++ dueIf (s.timers.silence == some 0) .vibSilenceExpiry
    ++ dueIf (s.timers.pattern == some 0) (.patternSample none)
    ++ dueIf (s.timers.loopWait == some 0) .loopWaitExpiry
    ++ dueIf (s.timers.clearWindow == some 0) .clearWindowExpiry
    ++ dueIf (s.timers.aging == some 0) .agingExpiry
    ++ dueIf (s.timers.share == some 0) .shareTimerExpiry
    ++ dueIf (s.timers.history == some 0) .historyTimerExpiry
    ++ dueIf (s.timers.demand == some 0) .demandTimerExpiry
    ++ dueIf (s.timers.startWindow == some 0) .startWindowExpiry
    ++ dueIf (s.timers.stage == some 0) .stageTimerExpiry
    ++ dueIf (s.timers.jam.any (s.cfg.jamTime * 1000 ≤ ·)) .jamTimerExpiry
    ++ dueIf (s.timers.surge == some 0) .surgeTimerExpiry
    ++ dueIf (s.limiter.clamp.active && s.limiter.clamp.remaining == 0) .clampHoldExpiry
    ++ dueIf (s.timers.lockout == some 0) .lockoutTimerExpiry
    ++ dueIf (s.timers.lstopFilter == some 0) (.localInputFiltered .lstop)
    ++ dueIf (s.timers.maintFilter == some 0) (.localInputFiltered .maint)
    ++ dueIf (s.link.startable && s.link.pending) (.transmitStart .own)
    ++ dueIf (s.timers.settle == some 0) (.settleTimeExpiry s.inputs.straps)
    ++ dueIf (s.timers.guard == some 0) .guardTimerExpiry

/-- One due event, if there is any, with the state that has made the choice: where several are due at one instant the
manual gives no order (log 5). -/
def State.nextDue (s : State) : Option (Instr × State) :=
  match s.dueEvents with
  | [] => none
  | [c] => some (c, s)
  | c :: rest =>
    some ((c :: rest).getD (Config.freeChoice s.free % (c :: rest).length) c, { s with free := s.free + 1 })

end Sys2Proof.Machine
end

