-- ==== Sys2Proof/Machine/Ops.lean ====
section
/-!
DEFINITION. The shared operations of the blocks: how each block's state is changed, the allowance (R68, R69), the
participant list (R17), the balance trim (R63 to R65), records (R131 to R136), the effects of a state change on
every block, causes and trips (R111 to R122), CLAMP installation (R85), SHARE composition (R155).
-/

namespace Sys2Proof.Machine

/-- Changes the peers block alone. -/
def State.onPeers (s : State) (f : PeerTable → PeerTable) : State :=
  { s with peers := f s.peers }

/-- Changes the seq block alone. -/
def State.onSeq (s : State) (f : Sequencer → Sequencer) : State :=
  { s with seq := f s.seq }

/-- Changes the speed block alone. -/
def State.onSpeed (s : State) (f : SpeedUnit → SpeedUnit) : State :=
  { s with speed := f s.speed }

/-- Changes the gen block alone. -/
def State.onGen (s : State) (f : Generator → Generator) : State :=
  { s with gen := f s.gen }

/-- Changes the reg block alone. -/
def State.onReg (s : State) (f : Regulator → Regulator) : State :=
  { s with reg := f s.reg }

/-- Changes the limiter block alone. -/
def State.onLimiter (s : State) (f : Limiter → Limiter) : State :=
  { s with limiter := f s.limiter }

/-- Changes the vib block alone. -/
def State.onVib (s : State) (f : VibWatch → VibWatch) : State :=
  { s with vib := f s.vib }

/-- Changes the cause block alone. -/
def State.onCause (s : State) (f : CauseUnit → CauseUnit) : State :=
  { s with cause := f s.cause }

/-- Changes the records block alone. -/
def State.onRecords (s : State) (f : RecordStore → RecordStore) : State :=
  { s with records := f s.records }

/-- Changes the link block alone. -/
def State.onLink (s : State) (f : Link → Link) : State :=
  { s with link := f s.link }

/-- Changes the loader block alone. -/
def State.onLoader (s : State) (f : Loader → Loader) : State :=
  { s with loader := f s.loader }

/-- Changes the monitor block alone. -/
def State.onMonitor (s : State) (f : Monitor → Monitor) : State :=
  { s with monitor := f s.monitor }

/-- Changes the timers block alone. -/
def State.onTimers (s : State) (f : Timers → Timers) : State :=
  { s with timers := f s.timers }

/-- Changes the clock block alone. -/
def State.onClock (s : State) (f : Clock → Clock) : State :=
  { s with clock := f s.clock }

/-- Changes the lines block alone. -/
def State.onLines (s : State) (f : Lines → Lines) : State :=
  { s with lines := f s.lines }

/-- Changes the inputs block alone. -/
def State.onInputs (s : State) (f : Inputs → Inputs) : State :=
  { s with inputs := f s.inputs }

/-- The cause set changed. -/
def State.onCauses (s : State) (f : CauseSet → CauseSet) : State :=
  s.onCause fun u => { u with causes := f u.causes }

/-- One cause's field replaced. -/
def State.setCause (s : State) (c : Cause) (v : CauseField) : State :=
  s.onCauses fun t => t.set c v

/-- One peer entry changed. -/
def State.onEntry (s : State) (n : Station) (f : PeerEntry → PeerEntry) : State :=
  s.onPeers fun p => { p with entries := p.entries.set n (f (p.entries.get n)) }

/-- The counters changed. -/
def State.onCounters (s : State) (f : LinkCounters → LinkCounters) : State :=
  s.onLink fun l => { l with counters := f l.counters }

/-- The last outcome written, R44. -/
def State.writeOutcome (s : State) (source : OutcomeSource) (code : OutcomeCode) (tag : Byte) : State :=
  s.onSeq fun q => { q with lastOutcome := some ⟨source, code, tag⟩ }

/-- An outcome that answers no DEMAND arrival carries the start sequence mark (R44). -/
def State.writeMarked (s : State) (code : OutcomeCode) : State :=
  s.writeOutcome .demand code (s.seq.startMark.getD 0)

/-- A cause is no longer present; latch and count stay (R111). -/
def CauseSet.cease (t : CauseSet) (c : Cause) : CauseSet :=
  t.set c { t.get c with present := false }

/-- One cause ceases. -/
def State.cease (s : State) (c : Cause) : State :=
  s.onCauses fun t => t.cease c

/-- Several causes cease. -/
def State.ceaseAll (s : State) (cs : List Cause) : State :=
  s.onCauses fun t => cs.foldl CauseSet.cease t

/-- The latch and the count of a rise, R111. -/
def CauseSet.latchCount (t : CauseSet) (c : Cause) : CauseSet :=
  t.set c { t.get c with latched := true, count := bump 255 (t.get c).count }

/-- A cause latched and counted. -/
def State.latchCount (s : State) (c : Cause) : State :=
  s.onCauses fun t => t.latchCount c

/-- The jam conditions evaluated, R80, R81: the timer starts from 0, runs on, or is stopped and JAM ceases. -/
def State.judgeJam (s : State) : State :=
  let holds := s.st.cruising && s.jamConditions
  let starts := s.timers.jam.isNone && !(s.causeField .jam).present
  (s.onTimers fun t => { t with jam := if !holds then none else if starts then some 0 else t.jam }).onCauses
    fun t => if holds then t else t.cease .jam

/-- The allowance and the limiting contributor recomputed, R68, R69; the jam conditions follow (R80). -/
def State.recompute (s : State) : State :=
  (s.onLimiter fun l =>
    { l with allowance := s.contributorValue s.limitingNow, limiting := s.limitingNow }).judgeJam

/-- The band reselected at a change of speed, R70. -/
def State.reselectBand (s : State) : State :=
  if s.cfg.bandOf s.speed.speed = s.limiter.band then s
  else (s.onLimiter fun l =>
    { l with band := s.cfg.bandOf s.speed.speed, bandValue := l.envelope.get (s.cfg.bandOf s.speed.speed) }).recompute

/-- A member's torque feedback for the trim, R64. -/
def State.memberFeedback (s : State) (n : Station) : Int :=
  if n = s.loader.station then s.reg.feedback
  else match (s.entry n).share with
    | some p => p.feedback.toInt
    | none => 0

/-- A member's allowance for the trim, R64. -/
def State.memberAllowance (s : State) (n : Station) : Nat :=
  if n = s.loader.station then s.limiter.allowance
  else match (s.entry n).share with
    | some p => p.allowance.toNat
    | none => 0

/-- The own target: T times the own allowance divided by S, rounded down (R64). -/
def ownTarget (total : Int) (allowance sum : Nat) : Int :=
  Int.fdiv (total * allowance) sum

/-- The balance trim of R64 over the balancing set as it stands. -/
def State.trimNow (s : State) : Int :=
  let members := s.balancingSet
  let total := (members.map s.memberFeedback).sum
  let sum := (members.map s.memberAllowance).sum
  if members.length ≤ 1 ∨ sum = 0 then 0
  else held (-(s.cfg.trimLimit : Int)) s.cfg.trimLimit
    (Int.tdiv (s.cfg.kb * (ownTarget total s.limiter.allowance sum - s.reg.feedback)) 1024)

/-- The trim recomputed while this station is in the balancing set, R63. -/
def State.recomputeTrim (s : State) : State :=
  s.onReg fun r => { r with trim := if s.inBalance s.loader.station then s.trimNow else r.trim }

/-- The trim is 0 at once when this station is out of the balancing set, or in it alone (R65). -/
def State.dropTrim (s : State) : State :=
  s.onReg fun r =>
    { r with trim := if s.inBalance s.loader.station && decide (2 ≤ s.balancingSet.length) then r.trim else 0 }

/-- The participant list and the balancing set re-evaluated, R17, R18, with R65's effect on the trim. -/
def State.refreshMembers (s : State) : State :=
  (s.onPeers fun p => { p with participants := s.participantsNow }).dropTrim

/-- The open vibration window emptied, R93. -/
def VibWatch.emptied (v : VibWatch) : VibWatch :=
  { v with count := 0, sumSquares := 0, peak := 0 }

/-- M plus M divided by 8, M the larger of band 3's trip RMS and trip peak (R101). -/
def Settings.patternAmplitude (w : Settings) : Nat :=
  let m := max (w.tripRms 3) (w.tripPeak 3)
  m + m / 8

/-- Whether a state change empties the open window: entry to a non-evaluating state (R93), or the end of the test
(R104). -/
def windowEnds (old new : StationState) : Bool :=
  !new.evaluating || old == .selftest

/-- The vibration watch at a state change: R93, R98, R99, R101, R104. -/
def VibWatch.onMove (v : VibWatch) (w : Settings) (old new : StationState) : VibWatch :=
  let v := if windowEnds old new then v.emptied else v
  { v with
    quietCount := if old.regulating != new.regulating || new == .stopped then 0 else v.quietCount
    allowance := if new = .stopped then w.ratedCeiling else v.allowance
    phase := if new = .selftest then .high1 else if old = .selftest then .none else v.phase
    patternCount := if new = .selftest ∨ old = .selftest then 0 else v.patternCount
    failMark := if new = .selftest then false else v.failMark
    amplitude := if new = .selftest then w.patternAmplitude else v.amplitude }

/-- The timers at a state change: start window (R28, R31, R115), lockout timer (R39), clear window (R126), stage
timer (R75, R79), silence timer (R100), pattern (R102, R104). -/
def Timers.onMove (t : Timers) (w : Settings) (q : Sequencer) (old new : StationState) : Timers :=
  { t with
    startWindow := if old = .starting then none else t.startWindow
    lockout := if new = .tripped ∧ q.lstop = true ∧ q.maint = true then some 1000000 else none
    clearWindow := if old = .clearing then none else t.clearWindow
    stage := if new = .breakaway then some (w.stageTime * 1000) else none
    silence := if !new.running then none else if old.running then t.silence else some (w.silenceTime * 1000)
    pattern := if new = .selftest then some 100 else none }

/-- The sequencer at a state change: the confirmation set (R28, R31, R115), the intended mode (R24). -/
def Sequencer.onMove (q : Sequencer) (old new : StationState) : Sequencer :=
  { q with
    station := new
    confirmation := if old = .starting then [] else q.confirmation
    intended := if new = .run then .run else if new = .creep then .creep else q.intended }

/-- The breakaway stage at a state change: 1 at entry (R75), 0 outside BREAKAWAY (R79). -/
def Limiter.onMove (l : Limiter) (w : Settings) (new : StationState) : Limiter :=
  { l with stage := if new = .breakaway then 1 else 0,
           stageValue := if new = .breakaway then w.stageLevel 1 else 0 }

/-- The blocked regulator, R62. -/
def Regulator.blocked (r : Regulator) : Regulator :=
  { r with setpoint := 0, integral := 0, demand := 0, reference := 0, currentIntegral := 0, conduction := 0 }

/-- The generator forced to the off level, R53; the demand in hand is 0 until a step hands one (log 15). -/
def Generator.blocked (g : Generator) : Generator :=
  { g with phase := .off, demand := 0 }

/-- The regulator at the entry to RUN, CREEP or DECEL from BREAKAWAY, R59; `a` is the allowance as it stands. -/
def Regulator.fromBreakaway (speed a : Nat) (r : Regulator) : Regulator :=
  let start := min r.reference a
  { r with setpoint := speed * 1000, integral := start, demand := start, prevAllowance := a }

/-- The causes that end at a state change: NO_BREAKAWAY (R77), JAM (R81), SURGE (R83), GROUP_SHORT (R35), and OUT_OF_STEP
at every change, since the change is a re-evaluation (R17) that finds the station outside the watched states or every
non-running count at 0 (R36). -/
def StationState.endedCauses (new : StationState) : List Cause :=
  (if new = .breakaway then [] else [.noBreakaway])
    ++ (if new.cruising then [] else [.jam, .surge])
    ++ (if new.driving then [] else [.groupShort])
    ++ [.outOfStep]

/-- The blocks that a state change touches before the allowance is recomputed. -/
def State.moveBlocks (s : State) (new : StationState) : State :=
  ({ s with
    timers := s.timers.onMove s.cfg s.seq s.st new
    seq := s.seq.onMove s.st new
    lines := new.lines
    limiter := s.limiter.onMove s.cfg new
    vib := s.vib.onMove s.cfg s.st new
    speed := { s.speed with stageEdges := if new = .breakaway then 0 else s.speed.stageEdges }
    cause := { s.cause with clearTag := if s.st = .clearing then none else s.cause.clearTag }
    reg := if new.lines.convEn then s.reg else s.reg.blocked
    gen := if new.lines.convEn then s.gen else s.gen.blocked
    peers := { s.peers with
      entries := s.peers.entries.map fun _ e => { e with nonRunning := if new.driving then 0 else e.nonRunning } } }
    : State).ceaseAll new.endedCauses

/-- The regulator carried from BREAKAWAY into RUN, CREEP or DECEL, R59. -/
def State.carryReference (s : State) (old new : StationState) : State :=
  s.onReg fun r =>
    if old = .breakaway ∧ new.regulating then r.fromBreakaway s.speed.speed s.limiter.allowance else r

/-- A change of the station state with its effects on every block at the same event (R20 and the owning rules), less
what the new state leads to at once. A move to the state already held is no change. -/
def State.moveTo (s : State) (new : StationState) : State :=
  if s.st = new then s else (((s.moveBlocks new).recompute).carryReference s.st new).refreshMembers

/-- A CLAMP frame decided on, R85: ignored from a foreign origin or with hold 0, else installed when the record is
inactive or the level is equal to or below the active level. -/
def State.installClamp (s : State) (origin : Station) (p : ClampPayload) : State :=
  if (s.entry origin).foreign || p.hold == 0 then s
  else if !s.limiter.clamp.active || decide (p.level.toNat ≤ s.limiter.clamp.level) then
    (s.onLimiter fun l => { l with clamp :=
      { active := true, level := p.level.toNat, origin := origin, causeCode := p.causeCode,
        remaining := p.hold.toNat, remainingUs := 0 } }).recompute
  else s

/-- A CLAMP frame composed for a cause, R86, R112: into the CLAMP slot, or applied locally while MUTE. -/
def State.composeClamp (s : State) (c : Cause) : State :=
  let p : ClampPayload :=
    { level := BitVec.ofNat 16 (s.cause.actions.level c), hold := BitVec.ofNat 16 s.cfg.clampHold,
      causeCode := BitVec.ofNat 5 c.code }
  if s.link.mute then s.installClamp s.loader.station p
  else s.onLink fun l => { l with clampSlot := some p }

/-- A TRIP frame composed, R114: into the TRIP slot, or discarded while MUTE (R150). -/
def State.composeTrip (s : State) (number : Word) (c : Cause) (st : StationState) (feedback : Int) (speed : Nat) :
    State :=
  let p : TripPayload :=
    { number := number, causeCode := BitVec.ofNat 8 c.code, stateAtTrip := BitVec.ofNat 4 st.code,
      feedback := BitVec.ofInt 16 feedback, speed := BitVec.ofNat 16 speed }
  s.onLink fun l => { l with tripSlot := if l.mute then l.tripSlot else some p }

/-- The values a record's snapshot takes, R133. -/
def State.snapshot (s : State) : Snapshot :=
  { feedback := s.reg.feedback, reference := s.reg.reference, allowance := s.limiter.allowance,
    limiting := s.limiter.limiting, speed := s.speed.speed, vibRms := s.vib.latestRms, vibPeak := s.vib.latestPeak,
    overloadPercent := s.overloadPercent, stage := s.limiter.stage }

/-- A FILLING record closed with its tail-cut mark set (R132, R142). -/
def TripRecord.cut (r : TripRecord) : TripRecord :=
  if r.closed then r else { r with closed := true, tailCut := true }

/-- Every FILLING record cut. -/
def cutFilling (slots : Eight (Option TripRecord)) : Eight (Option TripRecord) :=
  slots.map fun _ r => r.map TripRecord.cut

/-- Whether a slot may be replaced: CLOSED and without the keep mark (R132). -/
def replaceable : Option TripRecord → Bool
  | some r => r.closed && !r.keep
  | none => false

/-- Of two slots with replaceable records, the one with the lower serial, the earlier where they are equal (R132). -/
def lowerSerial (slots : Eight (Option TripRecord)) (best i : Fin 8) : Fin 8 :=
  match slots.get best, slots.get i with
  | some a, some b => if b.serial < a.serial then i else best
  | _, _ => best

/-- The slot for a new record, R132 step 2, after step 1. -/
def chooseSlot (slots : Eight (Option TripRecord)) : Option (Fin 8) :=
  match eightNumbers.find? fun i => (slots.get i).isNone with
  | some i => some i
  | none =>
    match eightNumbers.filter fun i => replaceable (slots.get i) with
    | first :: rest => some (rest.foldl (lowerSerial slots) first)
    | [] => none

/-- The creation serial after one more opening, R131. -/
def nextSerial (serial : Nat) : Nat :=
  min 4294967295 (serial + 1)

/-- A record written into the store, steps 1 to 3 of R132; its serial comes from the counter (R131). -/
def RecordStore.insert (record : TripRecord) (r : RecordStore) : RecordStore :=
  let slots := cutFilling r.slots
  match chooseSlot slots with
  | none => { r with slots := slots }
  | some i =>
    { r with slots := slots.set i (some { record with serial := nextSerial r.serial }),
             serial := nextSerial r.serial, current := some i }

/-- The new record of a trip context, R133. -/
def State.newRecord (s : State) (ctx : TripContext) (c : Cause) (detail : Int) : TripRecord :=
  { closed := false, keep := false, serial := 0, number := ctx.number, origin := ctx.origin,
    confirmed := ctx.confirmed, ownPart := ctx.ownPart, coOrigins := [], firstCause := c, detail := detail,
    timeMark := s.clock.timeMark, stateAtTrip := ctx.stateAtTrip, snapshot := s.snapshot, subsequent := [],
    overflow := 0, history := s.records.ring, tail := [], tailCut := false }

/-- A record opened for a trip context, R132, R133. -/
def State.openRecord (s : State) (ctx : TripContext) (c : Cause) (detail : Int) : State :=
  s.onRecords (RecordStore.insert (s.newRecord ctx c detail))

/-- A change applied to the current record; none changes nothing (R131, R135). -/
def RecordStore.onCurrent (f : TripRecord → TripRecord) (r : RecordStore) : RecordStore :=
  match r.current with
  | none => r
  | some i => { r with slots := r.slots.set i ((r.slots.get i).map f) }

/-- A change handed to the current record, R131, R135. -/
def State.onCurrent (s : State) (f : TripRecord → TripRecord) : State :=
  s.onRecords (RecordStore.onCurrent f)

/-- The trip context changed, and the change handed to the current record (R113, R135). -/
def State.changeContext (s : State) (ctx : TripContext) : State :=
  (s.onCause fun u => { u with context := some ctx }).onCurrent fun r =>
    { r with number := ctx.number, origin := ctx.origin, confirmed := ctx.confirmed, ownPart := ctx.ownPart,
             coOrigins := ctx.coOrigins }

/-- G set, R113. -/
def State.setG (s : State) (g : Word) : State :=
  s.onCause fun u => { u with g := g }

/-- The context of a trip entry and its record, R113, R132; any loop wait has ended with the trip it belonged to (log 43).
The state at trip is the state held at this call, just before the trip entry; at the exit from LOCKOUT that is the model's
choice (log 26). -/
def State.beginTrip (s : State) (number : Option Word) (origin : Option Station) (confirmed : Bool) (part : OwnPart)
    (c : Cause) (detail : Int) : State :=
  let ctx : TripContext :=
    { number := number, origin := origin, confirmed := confirmed, ownPart := part, coOrigins := [],
      stateAtTrip := s.st }
  (((s.onCause fun u => { u with context := some ctx }).onTimers fun t => { t with loopWait := none }).openRecord
    ctx c detail)

/-- The self-test ended by a trip, R42, R104. -/
def State.abortSelftest (s : State) : State :=
  (s.onSeq fun q => { q with selftestDone := false }).writeOutcome .order .selftestAborted s.seq.selftestTag

/-- The state change of a trip entry, table of R115. -/
def State.tripMove (s : State) : State :=
  match s.st with
  | .selftest => s.abortSelftest.moveTo .tripped
  | .stopped | .starting | .standby => if s.speed.standstill then s.moveTo .tripped else s.moveTo .tripDecel
  | .breakaway | .run | .creep | .decel =>
    if s.speed.standstill then (s.moveTo .tripDecel).moveTo .tripped else s.moveTo .tripDecel
  | .loading | .joining | .tripDecel | .tripped | .clearing | .lockout | .faultHalt => s

/-- An origin trip, R114. -/
def State.originTrip (s : State) (c : Cause) (detail : Int) : State :=
  let n := successor s.cause.g
  let st := s.st
  (((s.setG n).beginTrip (some n) (some s.loader.station) false .origin c detail).composeTrip n c st s.reg.feedback
    s.speed.speed).tripMove

/-- A follower trip by TRIP frame (R116: origin confirmed) or by SHARE (R121: origin UNKNOWN). -/
def State.followerTrip (s : State) (n : Word) (origin : Option Station) (detail : Int) : State :=
  ((((s.setG n).latchCount .peerTrip).beginTrip (some n) origin origin.isSome .follower .peerTrip detail)).tripMove

/-- A loop trip, R119: the number is pending and the loop wait started. -/
def State.loopTrip (s : State) : State :=
  let s := (s.latchCount .loop).onCause fun u =>
    { u with loopFeedback := s.reg.feedback, loopSpeed := s.speed.speed }
  (s.beginTrip none none false .follower .loop 0).tripMove.onTimers fun t =>
    { t with loopWait := some (s.cfg.loopWait * 1000) }

/-- The sensed loop active in one of the states of R119 makes a loop trip. -/
def State.loopCheck (s : State) : State :=
  if s.st.canTrip && s.loopSensed then s.loopTrip else s

/-- The offset of a subsequent cause, R136. -/
def offsetSince (now start : BitVec 32) : Nat :=
  min 65535 (now - start).toNat

/-- A subsequent cause applied to a record, R136. -/
def TripRecord.addSubsequent (now : BitVec 32) (c : Cause) (carried : Option Word) (r : TripRecord) : TripRecord :=
  if r.subsequent.length < 4 then
    { r with subsequent := r.subsequent ++ [⟨c, offsetSince now r.timeMark, carried⟩] }
  else { r with overflow := bump 255 r.overflow }

/-- A subsequent cause, R122. In CLEARING it returns the station to TRIPPED whether or not there is a trip context: that
a rise with none, which R122 calls only latched and counted, does so too is the model's choice (log 50). -/
def State.subsequentCause (s : State) (c : Cause) (carried : Option Word) : State :=
  let s := if s.cause.context.isSome then
      s.onCurrent (TripRecord.addSubsequent s.clock.timeMark c carried) else s
  if s.st = .clearing then s.moveTo .tripped else s

/-- What a rise does beside latch and count, table of R111. -/
def State.actOnRise (s : State) (c : Cause) (detail : Int) : State :=
  match s.actionOf c with
  | .trip =>
    if s.st.canTrip then s.originTrip c detail
    else if s.st.isTripped then s.subsequentCause c none
    else s
  | .clamp => s.composeClamp c
  | .alert => s

/-- A rise: present, latched, counted and acted on (R111). -/
def State.rise (s : State) (c : Cause) (detail : Int) : State :=
  ((s.setCause c { s.causeField c with present := true }).latchCount c).actOnRise c detail

/-- A block presents a condition: from the end of joining it rises or ceases (R109, R111). -/
def State.present (s : State) (c : Cause) (cond : Bool) (detail : Int) : State :=
  if !s.st.joined then s
  else if cond then (if (s.causeField c).present then s else s.rise c detail)
  else s.cease c

/-- Each element taken once, the order left to the free choice where there is more than one (R111, log 5). -/
def State.inFreeOrder {α : Type} (f : α → State → State) : Nat → List α → State → State
  | _, [], s => s
  | _, [x], s => f x s
  | 0, x :: _ :: _, s => f x s
  | n + 1, x :: y :: rest, s =>
    let all := x :: y :: rest
    let i := Config.freeChoice s.free % all.length
    State.inFreeOrder f n (all.eraseIdx i) (f (all.getD i x) { s with free := s.free + 1 })

/-- The detail value a cause's block hands over as the cause then stands (R57, R73, R96, R100, R150, R165, R168). -/
def State.detailOf (s : State) (c : Cause) : Int :=
  match c with
  | .overcurrent => s.reg.sample.toInt
  | .vibTrip =>
    if s.cfg.tripRms s.vib.latestBand ≤ s.vib.latestRms then s.vib.latestRms else s.vib.latestPeak
  | .vibAlert => s.vib.latestRms
  | .vibInput => s.cfg.silenceTime
  | .overload => s.reg.feedback
  | .linkTransmit => (s.link.faultClass.getD 0 : Nat)
  | .settingsGuard => ((s.loader.guardFound.getD 0).toNat : Nat)
  | .supplyLow => s.cfg.supplyStep
  | _ => 0

/-- The fields of a SHARE as they stand at its composition, table of R155; an empty last outcome has tag 0 (log 46). -/
def State.sharePayload (s : State) : SharePayload :=
  { state := BitVec.ofNat 4 s.st.code, intended := BitVec.ofNat 2 s.seq.intended.code, notReady := !s.ready,
    stage := BitVec.ofNat 2 s.limiter.stage, limiting := BitVec.ofNat 3 s.limiter.limiting.code,
    feedback := BitVec.ofInt 16 s.reg.feedback, allowance := BitVec.ofNat 16 s.limiter.allowance,
    speed := BitVec.ofNat 16 s.speed.speed, g := s.cause.g, signature := s.cfg.signature,
    outcomeSource := BitVec.ofNat 2 (match s.seq.lastOutcome with | some o => o.source.code | none => 0),
    alertPresent := s.alertPresent, clampCausePresent := s.clampCausePresent,
    tripCauseLatched := s.tripCauseLatched,
    vibrationDerating := decide (s.vib.allowance < s.cfg.ratedCeiling),
    overloadLimiting := s.limiter.limit, mutePending := decide (0 < s.link.consecutive),
    outcomeCode := BitVec.ofNat 8 (match s.seq.lastOutcome with | some o => o.code.code | none => 0),
    outcomeTag := match s.seq.lastOutcome with | some o => o.tag | none => 0 }

/-- A frame replaced in the SHARE slot is counted (R153). -/
def Link.placeShare (l : Link) (p : SharePayload) : Link :=
  { l with shareSlot := some p,
           counters := if l.shareSlot.isSome then
               { l.counters with shareOvertaken := bump 65535 l.counters.shareOvertaken } else l.counters }

/-- A point of SHARE composition, R63, R155: the trim first, then, unless MUTE, the SHARE into its slot and into the
own entry (R2). -/
def State.composeShare (s : State) : State :=
  let s := s.recomputeTrim
  (s.onEntry s.loader.station fun e => { e with share := if s.link.mute then e.share else some s.sharePayload }).onLink
    fun l => if l.mute then l else l.placeShare s.sharePayload

/-- A ROLL composed into its slot with the values held, R13; none while MUTE. -/
def State.composeRoll (s : State) : State :=
  let p : RollPayload :=
    { signature := s.cfg.signature, g := s.cause.g, state := BitVec.ofNat 4 s.st.code,
      resetCause := BitVec.ofNat 2 s.loader.resetCause.code, haltMark := s.loader.haltMark }
  s.onLink fun l => { l with rollSlot := if l.mute then l.rollSlot else some p }

/-- Entry to MUTE, R150: the transmitter, the slots and the queue are emptied, and a CLAMP from the transmitter, then
one from its slot, is applied locally (R86). -/
def State.enterMute (s : State) : State :=
  if s.link.mute then s
  else
    let held := (match s.link.transmitter with | some (.clamp p) => [p] | _ => [])
      ++ (match s.link.clampSlot with | some p => [p] | none => [])
    let quiet := s.onLink fun l =>
      { l with transmitter := none, tripSlot := none, clampSlot := none, shareSlot := none, rollSlot := none,
               queue := [], mute := true }
    held.foldl (fun s p => s.installClamp s.loader.station p) quiet

end Sys2Proof.Machine
end

