-- ==== Sys2Proof/Machine/Sequencing.lean ====
section
/-!
DEFINITION. What a state leads to at once (R28, R32, R33, R35), what a re-evaluation of the participant list leads to
(R17, R31, R34 to R37), and the arrival of a frame up to its owner (R3, R8 to R12, R151, R152).
-/

namespace Sys2Proof.Machine

/-- Entry to STOPPED; the loop already active makes a loop trip (R119). -/
def State.enterStopped (s : State) : State :=
  (s.moveTo .stopped).loopCheck

/-- Entry to STANDBY; the loop already active makes a loop trip (R119). -/
def State.enterStandby (s : State) : State :=
  (s.moveTo .standby).loopCheck

/-- Entry to SELFTEST with the tag its outcome will carry, R42, R101. -/
def State.enterSelftest (s : State) (tag : Byte) : State :=
  ((s.onSeq fun q => { q with selftestTag := tag }).moveTo .selftest).loopCheck

/-- GROUP_SHORT evaluated, R35. -/
def State.checkGroupShort (s : State) : State :=
  s.present .groupShort s.groupShortNow 0

/-- The state of a mode. -/
def Mode.state : Mode → StationState
  | .run => .run
  | .creep => .creep

/-- Entry to RUN or CREEP, R24, R35. -/
def State.enterMode (s : State) (m : Mode) : State :=
  (s.moveTo m.state).checkGroupShort

/-- The mode entered for an intended mode: CREEP for want of participants (R23, R32). -/
def State.modeFor (s : State) (m : Mode) : Mode :=
  if m = .run ∧ s.count < s.cfg.minRun then .creep else m

/-- The end of breakaway by rotation, R32. -/
def State.leaveBreakaway (s : State) : State :=
  s.enterMode (s.modeFor s.seq.intended)

/-- Entry to BREAKAWAY, R28, R75; a participant already showing RUN, CREEP or DECEL ends it at once (R32). Whether the
station's own last SHARE counts there is left open: the model reads the other participants' alone (log 43). -/
def State.enterBreakaway (s : State) : State :=
  let s := (s.moveTo .breakaway).checkGroupShort
  if s.st = .breakaway ∧ s.someOtherShows StationState.regulating then s.leaveBreakaway else s

/-- Entry to DECEL; at standstill on to STOPPED at the same event (R33). -/
def State.enterDecel (s : State) : State :=
  let s := s.moveTo .decel
  if s.speed.standstill then s.enterStopped else s

/-- Entry to STARTING, R28. -/
def State.enterStarting (s : State) : State :=
  let s := s.moveTo .starting
  let s := (s.onSeq fun q => { q with confirmation := s.others }).onTimers fun t =>
    { t with startWindow := some (3 * s.cfg.sharePeriodUs) }
  if s.seq.confirmation.isEmpty then s.enterBreakaway else s

/-- A count change delivered to the sequencer, less GROUP_SHORT: R31 in STARTING, mode substitution R34. -/
def State.countChanged (s : State) : State :=
  match s.st with
  | .starting =>
    if s.count < s.cfg.minCreep then (s.writeMarked .tooFew).enterStopped
    else if s.count < s.cfg.minRun ∧ s.seq.intended = .run then
      (s.onSeq fun q => { q with intended := .creep }).writeMarked .runAsCreep
    else s
  | .breakaway =>
    if s.count < s.cfg.minRun ∧ s.seq.intended = .run then
      (s.onSeq fun q => { q with intended := .creep }).writeMarked .runAsCreep
    else s
  | .run => if s.count < s.cfg.minRun then (s.writeMarked .runAsCreep).moveTo .creep else s
  | _ => s

/-- GROUP_SHORT (at a count change, R35) and OUT_OF_STEP (R36) evaluated; two rises are taken in free order (R111),
and both causes end with the states they belong to. -/
def State.checkGroup (s : State) (countChange : Bool) : State :=
  let watched : List (Cause × Bool) :=
    (if countChange then [(.groupShort, s.groupShortNow)] else []) ++ [(.outOfStep, s.outOfStepNow)]
  let s := s.ceaseAll ((watched.filter fun p => !p.2).map (·.1))
  let rising := (watched.filter fun p => p.2 && !(s.causeField p.1).present).map (·.1)
  let s := State.inFreeOrder (fun c s => s.rise c 0) rising.length rising s
  if s.st.driving then s else s.ceaseAll [.groupShort, .outOfStep]

/-- STANDBY left when no participant is starting or running, R37. -/
def State.standbyExit (s : State) : State :=
  if s.st = .standby ∧ s.someOtherShows StationState.startingOrRunning = false then
    (if s.seq.selftestDone then s.enterStopped else s.enterSelftest 0)
  else s

/-- A re-evaluation of the participant list at an event of a peer, R17, with all that follows from it. -/
def State.reevaluate (s : State) : State :=
  let before := s.count
  let waiting := !s.seq.confirmation.isEmpty
  let s := s.refreshMembers
  let s := if s.st = .starting then s.onSeq fun q =>
      { q with confirmation := q.confirmation.filter s.peers.participants.contains } else s
  let changed := s.count != before
  let emptied := waiting && s.seq.confirmation.isEmpty
  let s := if changed then s.countChanged else s
  let s := (s.checkGroup changed).standbyExit
  if emptied && s.st == .starting then s.enterBreakaway else s

/-- PEER_SILENT, PEER_LOST and FOREIGN_PEER presented as they stand, R8, R9. -/
def State.peerCauses (s : State) : State :=
  ((s.present .peerSilent s.peerSilentNow 0).present .peerLost s.peerLostNow 0).present .foreignPeer s.foreignNow 0

/-- The kind of an entry after a frame of a class, table of R3. -/
def kindAfter (cls : BitVec 3) (k : PeerKind) : PeerKind :=
  if cls = classRoll ∨ cls = classShare then .drive
  else if cls = classClamp ∨ cls = classReply then k
  else if k = .drive then .drive else .other

/-- An entry refreshed by a valid frame of its station, R3. -/
def PeerEntry.refreshed (cls : BitVec 3) (e : PeerEntry) : PeerEntry :=
  { e with silence := 0, entry := .present, heard := bump 65535 e.heard, kind := kindAfter cls e.kind }

/-- Whether two entries differ in what R17 names: entry state, kind, foreign mark. -/
def PeerEntry.standingDiffers (a b : PeerEntry) : Bool :=
  a.entry != b.entry || a.kind != b.kind || a.foreign != b.foreign

/-- A frame's refresh of its origin's entry, with the re-evaluations of R3 where the entry's standing changes. -/
def State.refreshPeer (s : State) (origin : Station) (cls : BitVec 3) : State :=
  let old := s.entry origin
  let s := s.onEntry origin (PeerEntry.refreshed cls)
  if (s.entry origin).standingDiffers old then s.peerCauses.reevaluate else s

/-- Whether a frame is withheld from its owner for its sender's kind, R152 step 3. -/
def withheld (cls : BitVec 3) (k : PeerKind) : Bool :=
  ((cls == classOrder || cls == classDemand || cls == classQuery) && k == .drive)
    || (cls == classClamp && k == .other)

/-- The line at the last end bit of a frame: six recessive bits have been read since its check word, the frame no longer
holds the line, and an abort mark of this station lies before the frame (R147 to R149, log 12). -/
def Link.frameEnds (l : Link) : Link :=
  { l with idle := 6, bitMicros := 0, abortBits := 0, lineBusy := false }

/-- A valid frame counted at its last end bit, R151. -/
def State.countValid (s : State) : State :=
  s.onLink fun l =>
    { l.frameEnds with counters := { l.counters with receivedValid := bump 65535 l.counters.receivedValid } }

/-- The line after bits of which the controller receives no valid frame, with the idle count they leave: the frame no
longer holds the line, and an abort mark of this station lies before it (R147 to R149, log 12). -/
def Link.lineRead (idle : Nat) (l : Link) : Link :=
  { l with idle := idle, bitMicros := 0, abortBits := 0, lineBusy := false, listening := l.listening || idle == 10 }

/-- The line after a frame that an inactive controller does not read (R143): the frame no longer holds it. -/
def Link.unread (l : Link) : Link :=
  { l with lineBusy := false }

/-- A valid frame on the line: while inactive its end alone is of note; a controller that has not yet read ten recessive bits receives no
frame and counts over its bits, the check word's last ones included (R143, R147, log 12); else the frame is counted and
handled. -/
def State.hears (s : State) (f : Frame) (handle : State → State) : State :=
  if !s.link.active then s.onLink Link.unread
  else if !s.link.listening then s.onLink fun l => l.lineRead (idleAfter l.idle f.lineBits)
  else handle s.countValid

/-- Entry to FAULT_HALT from JOINING, R11: the link is silenced and emptied, the block's own timers stop (R6, R82,
R165), the speed unit stands at its reset values (R45). -/
def State.haltFromJoining (s : State) : State :=
  let s := s.moveTo .faultHalt
  let s := s.onLink fun l =>
    { l with active := false, listening := false, lineBusy := false, abortBits := 0,
             tripSlot := none, clampSlot := none, shareSlot := none, rollSlot := none, transmitter := none,
             queue := [] }
  (s.onTimers fun t => { t with aging := none, guard := none, surge := none }).onSpeed fun _ => .reset

/-- A duplicate of the own number, R11, R12. -/
def State.duplicate (s : State) : State :=
  if s.st = .joining then s.haltFromJoining
  else if s.st.joined then (s.present .duplicate true 0).enterMute
  else s

/-- A frame that neither is a SHARE nor a ROLL arrives, R151, R152: counted, duplicate, refresh, withheld or owner. -/
def State.frameArrives (s : State) (f : Frame) (owner : State → State) : State :=
  s.hears f fun s =>
    if f.origin = s.loader.station then s.duplicate
    else
      let s := s.refreshPeer f.origin f.cls
      if withheld f.cls (s.entry f.origin).kind then
        s.onCounters fun k => { k with wrongSenderKind := bump 65535 k.wrongSenderKind }
      else owner s

/-- A value learned during JOINING, R14. -/
def State.learnG (s : State) (n : Word) : State :=
  if newer n s.cause.g then s.setG n else s

end Sys2Proof.Machine
end

