-- ==== Sys2Proof/Machine/Current.lean ====
section
/-!
DEFINITION. The current regulator and the conduction generator: CURRENT_SAMPLE_ARRIVAL (R54, R56 to R62, R66, R71 to
R73, R83), CONDUCTION_PERIOD_START (R52, R66), CONDUCTION_ON_END (R52).
-/

namespace Sys2Proof.Machine

/-- The converter's saturation code, R57. -/
def saturationCode : Word := 0x8000

/-- A sample arrival answers the period and ends SAMPLE_LOSS, R54, R66. -/
def State.answerPeriod (s : State) : State :=
  ((s.onGen fun g => { g with answered := true }).onReg fun r => { r with missCount := 0 }).cease .sampleLoss

/-- Stage 1: the sample word gives F, R57. -/
def Regulator.takeSample (w : Settings) (sample : Word) (r : Regulator) : Regulator :=
  { r with
    sample := sample
    feedback := if sample = saturationCode then r.feedback else sample.toInt
    overCurrent := sample == saturationCode || decide ((w.overcurrentLimit : Int) < sample.toInt) }

/-- Stage 1 with OVERCURRENT presented, R57. -/
def State.stageOne (s : State) (sample : Word) : State :=
  let s := s.onReg (Regulator.takeSample s.cfg sample)
  s.present .overcurrent s.reg.overCurrent sample.toInt

/-- The carrier period in µs (R51). -/
def State.periodUs (s : State) : Nat :=
  s.gen.period.getD 0

/-- The account and the limit after one step, R72, R73. -/
def Limiter.heat (w : Settings) (feedback : Int) (period : Nat) (l : Limiter) : Limiter :=
  let account := (held 0 w.capacityUs (l.account + (feedback - w.continuousRating) * period)).toNat
  { l with
    account := account
    limit := if l.limit then !decide (account < w.overloadCapacity * 500) else account == w.capacityUs }

/-- The surge check of part 4, R83. -/
def State.checkSurge (s : State) : State :=
  let excess := s.reg.feedback - s.limiter.surgeReference
  if s.st.cruising && decide ((s.cfg.surgeThreshold : Int) < excess) then s.present .surge true excess else s

/-- Stage 2: the torque limiter's step work, parts 1 to 4 of R71. -/
def State.stageTwo (s : State) : State :=
  let s := s.onLimiter (Limiter.heat s.cfg s.reg.feedback s.periodUs)
  (((s.present .overload s.limiter.limit s.reg.feedback).recompute).judgeJam).checkSurge

/-- The speed target of the state, table of R58. -/
def State.stateTarget (s : State) : Nat :=
  match s.st with
  | .run => s.reg.speedTarget
  | .creep => s.cfg.creepSpeed
  | _ => 0

/-- Stage 3: the setpoint toward its target, both in thousandths of ‰, R58. -/
def ramp (rise fall target setpoint : Nat) : Nat :=
  if setpoint < target then min target (setpoint + rise)
  else if target < setpoint then max target (setpoint - fall)
  else setpoint

/-- Stage 4: the integral, R59; `d` is D of the previous step and `a` the allowance read at this step. -/
def integrate (ki : Nat) (e : Int) (integral d prev a : Nat) : Nat :=
  let inc := Int.tdiv (ki * e) 1024
  (held 0 a (if 0 < inc ∧ d = prev then (integral : Int) else integral + inc)).toNat

/-- Stage 4: the demand, R59. -/
def torqueDemand (kp : Nat) (e : Int) (integral a : Nat) : Nat :=
  (held 0 a (Int.tdiv (kp * e) 1024 + integral)).toNat

/-- Stages 3 and 4 in RUN, CREEP and DECEL, R58, R59. -/
def Regulator.speedLoop (w : Settings) (period target speed a : Nat) (r : Regulator) : Regulator :=
  let setpoint := ramp (w.accelRate * period / 1000) (w.decelRate * period / 1000) (target * 1000) r.setpoint
  let e : Int := ((setpoint / 1000 : Nat) : Int) - speed
  let integral := integrate w.ki e r.integral r.demand r.prevAllowance a
  { r with setpoint := setpoint, integral := integral, demand := torqueDemand w.kp e integral a }

/-- Stage 5: the reference toward its target by at most the slew limit, and never above the allowance, R60. -/
def slew (limit target a reference : Nat) : Nat :=
  min a (if reference ≤ target then min target (reference + limit) else max target (reference - limit))

/-- Stage 6: the current integral and the conduction demand, R61. -/
def Regulator.currentLoop (w : Settings) (r : Regulator) : Regulator :=
  let ec : Int := r.reference - r.feedback
  let ic := (held 0 w.maxConduction (r.currentIntegral + Int.tdiv (w.kic * ec) 1024)).toNat
  { r with currentIntegral := ic, conduction := (held 0 w.maxConduction (Int.tdiv (w.kpc * ec) 1024 + ic)).toNat }

/-- The target of the reference in RUN, CREEP and DECEL, R60. -/
def Regulator.balancedTarget (a : Nat) (r : Regulator) : Nat :=
  (held 0 a (r.demand + r.trim)).toNat

/-- Stages 3 to 6, R58 to R62: blocked while CONV_EN is inactive. -/
def State.regulate (s : State) : State :=
  let a := s.limiter.allowance
  if !s.lines.convEn then s.onReg Regulator.blocked
  else if s.st = .breakaway then
    s.onReg fun r => ({ r with reference := slew s.cfg.slewLimit a a r.reference }).currentLoop s.cfg
  else
    s.onReg fun r =>
      let r := r.speedLoop s.cfg s.periodUs s.stateTarget s.speed.speed a
      ({ r with reference := slew s.cfg.slewLimit (r.balancedTarget a) a r.reference }).currentLoop s.cfg

/-- Stage 7 and the end of the step: the demand handed to the generator, the allowance of this step kept (R55, R61). -/
def State.handOver (s : State) : State :=
  (s.onGen fun g => { g with demand := s.reg.conduction }).onReg fun r =>
    { r with prevAllowance := s.limiter.allowance }

/-- A control step, R56. -/
def State.controlStep (s : State) (sample : Word) : State :=
  ((((s.answerPeriod).stageOne sample).stageTwo).regulate).handOver

/-- CURRENT_SAMPLE_ARRIVAL: one control step from entry to JOINING onward; in LOADING and FAULT_HALT the word is
discarded (R54, R56). -/
def execCurrentSampleArrival (sample : Word) (s : State) : Out :=
  .next (if s.st.blocksRun then s.controlStep sample else s)

/-- The counts latched at a period start, R52. A demand above 1000, which only a max conduction altered by an upset gives
(log 9), makes H larger than P, and the manual gives no L for it: the model's choice is that H stays so and L is 0. -/
def Generator.latch (enabled : Bool) (g : Generator) : Generator :=
  let period := g.period.getD 0
  let h := if enabled then g.demand * period / 1000 else 0
  { g with onCount := h, offCount := period - h, phase := if h = 0 then .off else .on, position := 0,
           strobes := g.strobes + 1, answered := false }

/-- The miss count after the miss test, table of R66. -/
def missCountAfter (enabled answered : Bool) (count : Nat) : Nat :=
  if enabled && !answered then bump 3 count else 0

/-- CONDUCTION_PERIOD_START: latch, strobe and miss test (R52, R66) while the generator runs (R51). -/
def execConductionPeriodStart (s : State) : Out :=
  .next (if !s.st.blocksRun then s
    else
      let missed := missCountAfter s.lines.convEn s.gen.answered s.reg.missCount
      let s := (s.onGen (Generator.latch s.lines.convEn)).onReg fun r => { r with missCount := missed }
      if missed = 3 then s.present .sampleLoss true 0 else s)

/-- CONDUCTION_ON_END: the on-count runs out and the phase becomes OFF (R52); with an off-count of 0 the on level is
shown for the whole period. -/
def execConductionOnEnd (s : State) : Out :=
  .next (if s.st.blocksRun && decide (0 < s.gen.offCount) then s.onGen fun g => { g with phase := .off } else s)

end Sys2Proof.Machine
end

