-- ==== Sys2Proof/Machine/Demand.lean ====
section
/-!
DEFINITION. DEMAND_FRAME: R22 for every DEMAND, then the handling by state of R23 to R26.
-/

namespace Sys2Proof.Machine

/-- The mode of a DEMAND: none is STOP; a code that names no mode is taken as STOP (R22, R170). -/
def demandMode (code : BitVec 2) : Option Mode :=
  match code.toNat with
  | 1 => some .run
  | 2 => some .creep
  | _ => none

/-- The mode being followed, table of R22; none is STOP. The states of R26's second row follow no mode. -/
def State.followed (s : State) : Option Mode :=
  match s.st with
  | .starting | .breakaway => some s.seq.intended
  | .run => some .run
  | .creep => some .creep
  | _ => none

/-- An outcome that answers this DEMAND, R23. -/
def State.answerDemand (s : State) (code : OutcomeCode) (p : DemandPayload) : State :=
  s.writeOutcome .demand code p.sequence

/-- The start sequence mark taken from a DEMAND. -/
def State.mark (s : State) (p : DemandPayload) : State :=
  s.onSeq fun q => { q with startMark := some p.sequence }

/-- What every DEMAND does, R22: CEILING (R70), the speed target capped at max speed (R55), the demand timer,
DEMAND_LOSS. -/
def State.noteDemand (s : State) (p : DemandPayload) : State :=
  ((((s.onLimiter fun l => { l with ceiling := p.ceiling.toNat }).recompute).onReg
    fun r => { r with speedTarget := min p.speedTarget.toNat s.cfg.maxSpeed }).onTimers
      fun t => { t with demand := some (s.cfg.demandTimeout * 1000) }).cease .demandLoss

/-- The intended mode set. -/
def State.intend (s : State) (m : Mode) : State :=
  s.onSeq fun q => { q with intended := m }

/-- The outcome of a mode entered for a mode demanded, start table of R23. -/
def startOutcome (demanded entered : Mode) : OutcomeCode :=
  if demanded = entered then .taken else .runAsCreep

/-- A DEMAND RUN or CREEP in STOPPED, R23. -/
def State.demandStart (s : State) (m : Mode) (p : DemandPayload) : State :=
  if s.seq.startMark = some p.sequence then s.answerDemand .staleDemand p
  else if !s.ready then s.answerDemand .notReady p
  else if s.count < s.cfg.minCreep then s.answerDemand .tooFew p
  else
    let entered := s.modeFor m
    (((s.intend entered).mark p).answerDemand (startOutcome m entered) p).enterStarting

/-- A DEMAND in DECEL, R25. -/
def State.demandResume (s : State) (m : Mode) (p : DemandPayload) : State :=
  if s.seq.startMark = some p.sequence then s.answerDemand .staleDemand p
  else if !s.ready then s.answerDemand .notReady p
  else if s.count < s.cfg.minCreep then s.answerDemand .tooFew p
  else
    let entered := s.modeFor m
    ((s.mark p).answerDemand (startOutcome m entered) p).enterMode entered

/-- A change of mode in STARTING or BREAKAWAY, table of R24. -/
def State.demandIntended (s : State) (m : Mode) (p : DemandPayload) : State :=
  let entered := s.modeFor m
  (s.intend entered).answerDemand (startOutcome m entered) p

/-- A change of mode in RUN or CREEP, table of R24. -/
def State.demandChange (s : State) (m : Mode) (p : DemandPayload) : State :=
  let entered := s.modeFor m
  let s := s.answerDemand (startOutcome m entered) p
  if s.st = entered.state then s else s.enterMode entered

/-- A DEMAND STOP, R24. -/
def State.demandStop (s : State) (p : DemandPayload) : State :=
  match s.st with
  | .starting => (s.answerDemand .taken p).enterStopped
  | .breakaway | .run | .creep => (s.answerDemand .taken p).enterDecel
  | _ => s

/-- A DEMAND RUN or CREEP by state, R23 to R26. -/
def State.demandGo (s : State) (m : Mode) (p : DemandPayload) : State :=
  match s.st with
  | .stopped => s.demandStart m p
  | .decel => s.demandResume m p
  | .starting | .breakaway =>
    let s := s.mark p
    if s.followed = some m then s else s.demandIntended m p
  | .run | .creep =>
    let s := s.mark p
    if s.followed = some m then s else s.demandChange m p
  | .selftest => s.answerDemand .wrongState p
  | .joining | .tripDecel | .tripped | .clearing | .standby | .lockout => s.mark p
  | .loading | .faultHalt => s

/-- A DEMAND delivered to the sequencer, R22 to R26. -/
def State.takeDemand (s : State) (p : DemandPayload) : State :=
  let s := s.noteDemand p
  match demandMode p.mode with
  | none => s.demandStop p
  | some m => s.demandGo m p

/-- DEMAND_FRAME, R152 and R22. -/
def execDemandFrame (origin : Station) (demand : DemandPayload) (s : State) : Out :=
  .next (s.frameArrives ⟨classDemand, origin, demand.words⟩ fun s => s.takeDemand demand)

end Sys2Proof.Machine
end

