-- ==== Sys2Proof/Machine/Expiries.lean ====
section
/-!
DEFINITION. The expiries of the block's own timers: AGING_EXPIRY (R7, R13, R15), SHARE_TIMER_EXPIRY (R155),
HISTORY_TIMER_EXPIRY (R129, R137), DEMAND_TIMER_EXPIRY (R27), START_WINDOW_EXPIRY (R30), STAGE_TIMER_EXPIRY (R77),
JAM_TIMER_EXPIRY (R81), SURGE_TIMER_EXPIRY (R82), CLAMP_HOLD_EXPIRY (R87), LOCKOUT_TIMER_EXPIRY (R39).
An expiry of a timer that does not run does nothing (log 3).
-/

namespace Sys2Proof.Machine

/-- The entry state at an aging expiry, table of R7. -/
def entryStateAt (silence : Nat) (e : EntryState) : EntryState :=
  if 10 ≤ silence then .lost else if 3 ≤ silence then .silent else e

/-- One entry aged, R7. -/
def PeerEntry.aged (e : PeerEntry) : PeerEntry :=
  if e.entry = .absent then e
  else { e with silence := bump 10 e.silence, entry := entryStateAt (bump 10 e.silence) e.entry }

/-- Every entry but the own aged, R2, R7. -/
def State.ageEntries (s : State) : State :=
  s.onPeers fun p =>
    { p with entries := p.entries.map fun n e => if n = s.loader.station then e else e.aged }

/-- Whether some entry's standing differs between two tables (R17). -/
def standingsDiffer (a b : Eight PeerEntry) : Bool :=
  eightNumbers.any fun n => (a.get n).standingDiffers (b.get n)

/-- One aging with the re-evaluations of R8 and R17 where an entry changes state. -/
def State.age (s : State) : State :=
  let old := s.peers.entries
  let s := s.ageEntries
  if standingsDiffer s.peers.entries old then s.peerCauses.reevaluate else s

/-- A drive entry of the group, PRESENT or SILENT, whose last SHARE shows TRIP_DECEL or TRIPPED: first row of R15. -/
def State.someDriveTripped (s : State) : Bool :=
  eightNumbers.any fun n =>
    s.groupDrive n && ((s.entry n).entry == .present || (s.entry n).entry == .silent)
      && (s.entry n).shows fun st => st == .tripDecel || st == .tripped

/-- The state entered at join end, table of R15. -/
def State.joinEndState (s : State) : StationState :=
  if s.loopSensed || s.someDriveTripped then .tripped
  else if s.someOtherShows StationState.startingOrRunning then .standby
  else .selftest

/-- Whether a cause's condition holds as its block then stands (R8, R9, R57, R66, R50, R73, R150, R165, R168); the
conditions that only rise at an event of their own do not stand before the end of joining. -/
def State.conditionNow (s : State) (c : Cause) : Bool :=
  match c with
  | .overcurrent => s.reg.overCurrent
  | .sampleLoss => s.reg.missCount == 3
  | .overspeed => decide (s.cfg.overspeedLimit < s.speed.speed)
  | .overload => s.limiter.limit
  | .peerSilent => s.peerSilentNow
  | .peerLost => s.peerLostNow
  | .foreignPeer => s.foreignNow
  | .localStop => s.seq.lstop
  | .linkTransmit => s.link.faultClass.isSome
  | .settingsGuard => s.loader.guardFound.isSome
  | .supplyLow => s.monitor.supplyLow
  | .vibTrip | .vibAlert | .vibInput | .jam | .noBreakaway | .surge | .outOfStep | .groupShort | .demandLoss
  | .peerTrip | .loop | .duplicate | .selftestFail => false

/-- Every condition presented as it stands at the end of joining, R109; several rises are taken in free order (R111). -/
def State.presentAll (s : State) : State :=
  let standing := Cause.all.filter s.conditionNow
  State.inFreeOrder (fun c s => s.present c true (s.detailOf c)) standing.length standing s

/-- The end of joining, R15: the state, the ROLL slot emptied (R13), the share and history timers (R129, R155), the
first SHARE, then the causes as they stand (log 24). -/
def State.joinEnd (s : State) : State :=
  let target := s.joinEndState
  let s := (s.onLink fun l => { l with rollSlot := none }).onSeq fun q => { q with selftestTag := 0 }
  let s := (s.moveTo target).onTimers fun t =>
    { t with share := some s.cfg.sharePeriodUs, history := some s.cfg.sharePeriodUs }
  s.composeShare.presentAll

/-- The aging expiries of JOINING, R13, R15. -/
def State.joinStep (s : State) : State :=
  if s.st ≠ .joining then s
  else
    let s := s.onPeers fun p => { p with joinExpiries := p.joinExpiries + 1 }
    if s.peers.joinExpiries < 4 then s.composeRoll else s.joinEnd

/-- AGING_EXPIRY: the timer restarts, the entries age, and joining goes on or ends (R6, R7, R13, R15). With a share period
that an upset has altered to 0 it restarts at 0 and is due again at once, the model's choice (log 48). -/
def execAgingExpiry (s : State) : Out :=
  .next (if s.timers.aging.isNone then s
    else ((s.onTimers fun t => { t with aging := some s.cfg.sharePeriodUs }).age).joinStep)

/-- SHARE_TIMER_EXPIRY: the timer restarts and a SHARE is composed, R155; a share period altered to 0: log 48. -/
def execShareTimerExpiry (s : State) : Out :=
  .next (if s.timers.share.isNone then s
    else (s.onTimers fun t => { t with share := some s.cfg.sharePeriodUs }).composeShare)

/-- The history entry of an expiry, R128. -/
def State.historyEntry (s : State) : HistoryEntry :=
  { timeMark := s.clock.timeMark, state := s.st, feedback := s.reg.feedback, reference := s.reg.reference,
    allowance := s.limiter.allowance, limiting := s.limiter.limiting, speed := s.speed.speed,
    vibRms := s.vib.latestRms, vibPeak := s.vib.latestPeak }

/-- An entry appended to the ring, which holds at most 48 (R129). -/
def appendRing (ring : List HistoryEntry) (e : HistoryEntry) : List HistoryEntry :=
  (if ring.length < 48 then ring else ring.drop (ring.length - 47)) ++ [e]

/-- An entry appended to a FILLING record's tail; the sixteenth closes the record (R137). -/
def TripRecord.appendTail (e : HistoryEntry) (r : TripRecord) : TripRecord :=
  if r.closed then r
  else { r with tail := r.tail ++ [e], closed := decide (16 ≤ r.tail.length + 1) }

/-- A history entry taken into the store, R129. -/
def RecordStore.take (testing : Bool) (e : HistoryEntry) (r : RecordStore) : RecordStore :=
  { r with ring := if testing then r.ring else appendRing r.ring e,
           slots := r.slots.map fun _ x => x.map (TripRecord.appendTail e) }

/-- HISTORY_TIMER_EXPIRY, R129; a share period altered to 0: log 48. -/
def execHistoryTimerExpiry (s : State) : Out :=
  .next (if s.timers.history.isNone then s
    else (s.onTimers fun t => { t with history := some s.cfg.sharePeriodUs }).onRecords
      (RecordStore.take (s.st == .selftest) s.historyEntry))

/-- The state change at demand loss, table of R27. -/
def State.loseDemand (s : State) : State :=
  match s.st with
  | .starting => s.enterStopped
  | .breakaway | .run | .creep => s.enterDecel
  | _ => s

/-- DEMAND_TIMER_EXPIRY, R27. -/
def execDemandTimerExpiry (s : State) : Out :=
  .next (if s.timers.demand.isNone then s
    else
      let s := s.onTimers fun t => { t with demand := none }
      if s.st.startingOrRunning then (s.present .demandLoss true 0).loseDemand else s)

/-- START_WINDOW_EXPIRY in STARTING, R30. -/
def execStartWindowExpiry (s : State) : Out :=
  .next (if s.timers.startWindow.isNone then s
    else
      let s := s.onTimers fun t => { t with startWindow := none }
      if s.st = .starting then (s.writeMarked .startNotConfirmed).enterStopped else s)

/-- The breakaway stage raised: its level, its timer, the edge count and the allowance (R77, R78). -/
def State.setStage (s : State) (stage : Nat) : State :=
  (((s.onLimiter fun l => { l with stage := stage, stageValue := s.cfg.stageLevel stage }).onTimers
    fun t => { t with stage := some (s.cfg.stageTime * 1000) }).onSpeed
      fun u => { u with stageEdges := 0 }).recompute

/-- STAGE_TIMER_EXPIRY in BREAKAWAY, R77. -/
def execStageTimerExpiry (s : State) : Out :=
  .next (if s.timers.stage.isNone then s
    else if s.st ≠ .breakaway then s.onTimers fun t => { t with stage := none }
    else if s.limiter.stage < 3 then s.setStage (s.limiter.stage + 1)
    else (s.onTimers fun t => { t with stage := none }).present .noBreakaway true s.speed.stageEdges)

/-- JAM_TIMER_EXPIRY, R81. -/
def execJamTimerExpiry (s : State) : Out :=
  .next (if s.timers.jam.isNone then s
    else (s.onTimers fun t => { t with jam := none }).present .jam true s.speed.speed)

/-- SURGE's end test at a surge timer expiry, R82. -/
def State.testSurge (s : State) : State :=
  if (s.causeField .surge).present
      && !decide ((s.cfg.surgeThreshold : Int) < s.reg.feedback - s.limiter.surgeReference) then
    s.cease .surge
  else s

/-- SURGE_TIMER_EXPIRY, R82; a surge interval altered to 0: log 48. -/
def execSurgeTimerExpiry (s : State) : Out :=
  .next (if s.timers.surge.isNone then s
    else ((s.onTimers fun t => { t with surge := some (s.cfg.surgeInterval * 1000) }).testSurge).onLimiter
      fun l => { l with surgeReference := s.reg.feedback })

/-- Of two CLAMP-action causes, the one with the lower level, the earlier code where they are equal (R87). -/
def State.lowerClamp (s : State) (best c : Cause) : Cause :=
  if s.cause.actions.level c < s.cause.actions.level best then c else best

/-- The present CLAMP-action cause to re-send for, R87. -/
def State.clampToResend (s : State) : Option Cause :=
  match Cause.all.filter fun c => s.actionOf c == .clamp && (s.causeField c).present with
  | [] => none
  | first :: rest => some (rest.foldl s.lowerClamp first)

/-- The record after its hold has expired: level, origin and cause code stay for reading (R84, log 41). -/
def ClampRecord.expired (c : ClampRecord) : ClampRecord :=
  { c with active := false, remaining := 0, remainingUs := 0 }

/-- CLAMP_HOLD_EXPIRY: the record becomes inactive, then the re-sending of R87. -/
def execClampHoldExpiry (s : State) : Out :=
  .next (if !s.limiter.clamp.active then s
    else
      let s := (s.onLimiter fun l => { l with clamp := l.clamp.expired }).recompute
      match s.clampToResend with
      | none => s
      | some c => s.composeClamp c)

/-- LOCKOUT_TIMER_EXPIRY in TRIPPED, R39. -/
def execLockoutTimerExpiry (s : State) : Out :=
  .next (if s.timers.lockout.isNone then s
    else
      let s := s.onTimers fun t => { t with lockout := none }
      if s.st = .tripped then s.moveTo .lockout else s)

end Sys2Proof.Machine
end

