-- ==== Sys2Proof/Machine/Loop.lean ====
section
/-!
DEFINITION. The trip loop and the clear: LOOP_SENSE_CHANGE (R118, R119, R126), LOOP_WAIT_EXPIRY (R119),
CLEAR_WINDOW_EXPIRY (R126), and the settling of a pending trip number (R119, R135).
-/

namespace Sys2Proof.Machine

/-- The loop wait stopped, R119. -/
def State.stopLoopWait (s : State) : State :=
  s.onTimers fun t => { t with loopWait := none }

/-- A pending number settled by a frame: G and the context take the number, the wait is stopped (R119). -/
def State.settleNumber (s : State) (ctx : TripContext) (n : Word) (origin : Option Station) : State :=
  ((s.setG n).changeContext
    { ctx with number := some n, origin := origin, confirmed := origin.isSome }).stopLoopWait

/-- LOOP_SENSE_CHANGE: the other stations' drive of TRLOOP changes; a change of the sensed level is acted on by the
table of R118 (log 6). -/
def execLoopSenseChange (othersDrive : Bool) (s : State) : Out :=
  let before := s.loopSensed
  let s := s.onInputs fun i => { i with loopOthers := othersDrive }
  .next (if !before && s.loopSensed then s.loopCheck
    else if before && !s.loopSensed && s.st == .clearing then s.enterStopped
    else s)

/-- The context after the loop wait has expired: this station numbers the trip itself (R119). -/
def TripContext.ownNumber (station : Station) (n : Word) (ctx : TripContext) : TripContext :=
  { ctx with number := some n, origin := some station, confirmed := false, ownPart := .origin }

/-- The loop wait has expired, R119. -/
def State.numberLoopTrip (s : State) : State :=
  match s.cause.context with
  | none => s
  | some ctx =>
    if ctx.number.isSome then s
    else
      let n := successor s.cause.g
      ((s.setG n).changeContext (ctx.ownNumber s.loader.station n)).composeTrip n .loop ctx.stateAtTrip
        s.cause.loopFeedback s.cause.loopSpeed

/-- LOOP_WAIT_EXPIRY: the running loop wait stops and the pending trip is numbered here, R119. -/
def execLoopWaitExpiry (s : State) : Out :=
  .next (if s.timers.loopWait.isNone then s else s.stopLoopWait.numberLoopTrip)

/-- CLEAR_WINDOW_EXPIRY: CLEARING returns to TRIPPED with CLEAR_INCOMPLETE and the clear tag, R126. -/
def execClearWindowExpiry (s : State) : Out :=
  .next (if s.timers.clearWindow.isNone then s
    else
      let tag := s.cause.clearTag.getD 0
      let s := s.onTimers fun t => { t with clearWindow := none }
      if s.st = .clearing then (s.moveTo .tripped).writeOutcome .order .clearIncomplete tag else s)

end Sys2Proof.Machine
end

