-- ==== Sys2Proof/Machine/Frames.lean ====
section
/-!
DEFINITION. The frames of the group: TRIP_FRAME (R14, R116, R117, R119), CLAMP_FRAME (R85), SHARE_FRAME (R4, R9, R29,
R32, R63, R78, R119, R121), ROLL_FRAME (R5, R9, R14), REPLY_FRAME (R3).
-/

namespace Sys2Proof.Machine

/-- A stale TRIP frame is counted, R116. -/
def State.countStale (s : State) : State :=
  s.onCounters fun k => { k with staleTrips := bump 65535 k.staleTrips }

/-- The first TRIP frame for the context number, first row of R117. -/
def TripContext.confirm (station sender : Station) (ctx : TripContext) : TripContext :=
  { ctx with
    origin := some sender
    confirmed := true
    ownPart := if sender ≠ station ∧ ctx.ownPart = .origin then .coOrigin else ctx.ownPart }

/-- A later TRIP frame for the context number, second row of R117. -/
def TripContext.addCoOrigin (sender : Station) (causeCode : Byte) (ctx : TripContext) : TripContext :=
  if ctx.origin = some sender ∨ ctx.coOrigins.any (·.station == sender) then ctx
  else { ctx with coOrigins := ctx.coOrigins ++ [⟨sender, causeCode⟩] }

/-- A newer number learned while tripped, third row of R117: PEER_TRIP as a subsequent cause (R122). -/
def State.peerTripSubsequent (s : State) (n : Word) : State :=
  ((s.setG n).latchCount .peerTrip).subsequentCause .peerTrip (some n)

/-- A TRIP frame in a tripped state, R117; with the number pending, the table of R119. -/
def State.tripWhileTripped (s : State) (sender : Station) (p : TripPayload) : State :=
  match s.cause.context with
  | none => if newer p.number s.cause.g then s.peerTripSubsequent p.number else s.countStale
  | some ctx =>
    if ctx.number.isNone then
      if newer p.number s.cause.g then s.settleNumber ctx p.number (some sender) else s.countStale
    else if ctx.number = some p.number then
      if ctx.confirmed then
        (if ctx.addCoOrigin sender p.causeCode = ctx then s else s.changeContext (ctx.addCoOrigin sender p.causeCode))
      else s.changeContext (ctx.confirm s.loader.station sender)
    else if newer p.number s.cause.g then s.peerTripSubsequent p.number
    else s.countStale

/-- A TRIP frame delivered to the cause unit, R116. -/
def State.takeTrip (s : State) (sender : Station) (p : TripPayload) : State :=
  if s.st = .joining then (if sender = s.loader.station then s else s.learnG p.number)
  else if s.st.canTrip then
    if newer p.number s.cause.g then s.followerTrip p.number (some sender) p.causeCode.toNat else s.countStale
  else if s.st = .lockout then (if newer p.number s.cause.g then s.setG p.number else s.countStale)
  else if s.st.isTripped then s.tripWhileTripped sender p
  else s

/-- TRIP_FRAME. -/
def execTripFrame (origin : Station) (trip : TripPayload) (s : State) : Out :=
  .next (s.frameArrives ⟨classTrip, origin, trip.words⟩ fun s => s.takeTrip origin trip)

/-- CLAMP_FRAME, R85. -/
def execClampFrame (origin : Station) (clamp : ClampPayload) (s : State) : Out :=
  .next (s.frameArrives ⟨classClamp, origin, clamp.words⟩ fun s => s.installClamp origin clamp)

/-- STOPPED and STARTING: what the non-running count counts (R4). -/
def StationState.notYetRunning : StationState → Bool
  | .stopped | .starting => true
  | _ => false

/-- RUN, CREEP and DECEL end breakaway (R32); STARTING, BREAKAWAY, RUN and CREEP confirm (R29). -/
def StationState.confirms : StationState → Bool
  | .starting | .breakaway | .run | .creep => true
  | _ => false

/-- TRIP_DECEL and TRIPPED: what R121 and R119 follow. -/
def StationState.showsTrip : StationState → Bool
  | .tripDecel | .tripped => true
  | _ => false

/-- An entry after a SHARE, R3, R4, R9. -/
def PeerEntry.takeShare (signature : Word) (p : SharePayload) (e : PeerEntry) : PeerEntry :=
  { e.refreshed classShare with
    share := some p
    foreign := p.signature != signature
    nonRunning := if shareShows p StationState.notYetRunning then bump 255 e.nonRunning else 0 }

/-- An entry after a ROLL, R3, R5, R9. -/
def PeerEntry.takeRoll (signature : Word) (p : RollPayload) (e : PeerEntry) : PeerEntry :=
  { e.refreshed classRoll with share := none, foreign := p.signature != signature, nonRunning := 0 }

/-- Whether a SHARE calls for following, R121; `origin`'s entry is as R4 left it. -/
def State.callsForFollowing (s : State) (origin : Station) (p : SharePayload) : Bool :=
  !(s.entry origin).foreign && shareShows p StationState.showsTrip && newer p.g s.cause.g

/-- Start confirmation, R29. -/
def State.confirmStart (s : State) (origin : Station) (p : SharePayload) : State :=
  if s.st = .starting ∧ s.seq.confirmation.contains origin ∧ shareShows p StationState.confirms then
    let s := s.onSeq fun q => { q with confirmation := q.confirmation.filter (· ≠ origin) }
    if s.seq.confirmation.isEmpty then s.enterBreakaway else s
  else s

/-- Peer rotation, R32. -/
def State.peerRotation (s : State) (origin : Station) (p : SharePayload) : State :=
  if s.st = .breakaway ∧ s.peers.participants.contains origin ∧ shareShows p StationState.regulating then
    s.leaveBreakaway
  else s

/-- Stage following, R78. -/
def State.followStage (s : State) (origin : Station) (p : SharePayload) : State :=
  if s.st = .breakaway ∧ s.peers.participants.contains origin ∧ shareShows p (· == .breakaway)
      ∧ s.limiter.stage < p.stage.toNat then
    s.setStage p.stage.toNat
  else s

/-- The trim at a SHARE of a member of the balancing set, R63. -/
def State.trimAtShare (s : State) (origin : Station) : State :=
  if s.inBalance origin then s.recomputeTrim else s

/-- A pending number settled by a SHARE, R119. -/
def State.settleByShare (s : State) (origin : Station) (p : SharePayload) : State :=
  match s.cause.context with
  | none => s
  | some ctx =>
    if s.st.isTripped && ctx.number.isNone && s.callsForFollowing origin p then s.settleNumber ctx p.g none else s

/-- G learned from a SHARE or a ROLL in JOINING, R14. -/
def State.learnFrom (s : State) (origin : Station) (g : Word) : State :=
  if s.st = .joining && !(s.entry origin).foreign then s.learnG g else s

/-- The readers of a SHARE, after the peer table, when no follower trip is made (log 18, 19). -/
def State.readShare (s : State) (origin : Station) (p : SharePayload) : State :=
  (((((s.reevaluate.learnFrom origin p.g).confirmStart origin p).peerRotation origin p).followStage origin
    p).trimAtShare origin).settleByShare origin p

/-- A SHARE of another station, R4 and its readers. -/
def State.takeShare (s : State) (origin : Station) (p : SharePayload) : State :=
  let s := (s.onEntry origin (PeerEntry.takeShare s.cfg.signature p)).peerCauses
  if s.st.canTrip && s.callsForFollowing origin p then s.refreshMembers.followerTrip p.g none 0
  else s.readShare origin p

/-- SHARE_FRAME. -/
def execShareFrame (origin : Station) (share : SharePayload) (s : State) : Out :=
  .next (s.hears ⟨classShare, origin, share.words⟩ fun s =>
    if origin = s.loader.station then s.duplicate else s.takeShare origin share)

/-- A ROLL of another station, R5, R9, R14. -/
def State.takeRoll (s : State) (origin : Station) (p : RollPayload) : State :=
  (((s.onEntry origin (PeerEntry.takeRoll s.cfg.signature p)).peerCauses).reevaluate).learnFrom origin p.g

/-- ROLL_FRAME. -/
def execRollFrame (origin : Station) (roll : RollPayload) (s : State) : Out :=
  .next (s.hears ⟨classRoll, origin, roll.words⟩ fun s =>
    if origin = s.loader.station then s.duplicate else s.takeRoll origin roll)

/-- REPLY_FRAME: the sender's entry is refreshed and nothing more, R3, R152. -/
def execReplyFrame (origin : Station) (words : List Word) (s : State) : Out :=
  .next (s.frameArrives ⟨classReply, origin, words⟩ id)

end Sys2Proof.Machine
end

