-- ==== Sys2Proof/Machine/LinkTx.lean ====
section
/-!
DEFINITION. The sending side of the link and discarded frames: FRAME_DISCARD (R147, R151), TRANSMIT_START (R147, R153),
ARBITRATION_LOSS (R148, R153), ECHO_FAULT (R149, R150), TRANSMIT_SUCCESS (R149, R152).
-/

namespace Sys2Proof.Machine

/-- The counter that a discarded frame adds to, table of R151. -/
def LinkCounters.countDiscard (fault : FrameFault) (k : LinkCounters) : LinkCounters :=
  match fault with
  | .checkWord => { k with checkErrors := bump 65535 k.checkErrors }
  | .wrongInsertedBit | .lengthAboveEight | .dominantEndBit | .lengthNotAllowed =>
    { k with framingErrors := bump 65535 k.framingErrors }

/-- FRAME_DISCARD: the bits read from a start bit on give the first fault of R151's table; nothing else changes but the
idle count, which goes on over the bits after the fault, and the line, which the frame no longer holds (R147). A
controller that has not yet read ten recessive bits reads the bits only, and an inactive one nothing (R143). -/
def execFrameDiscard (bits : List Bool) (s : State) : Out :=
  .next (if !s.link.active then s.onLink Link.unread
    else if !s.link.listening then s.onLink fun l => l.lineRead (idleAfter l.idle bits)
    else match receive bits with
      | .discarded fault used =>
        s.onLink fun l =>
          { l.lineRead (idleAfter (idleAtDiscard bits fault used) (bits.drop used)) with
            counters := l.counters.countDiscard fault }
      | .valid _ | .noStart => s)

/-- The frame of the lowest class among those pending goes to the transmitter; a REPLY stays at the head of the queue
(R153, R154). -/
def Link.choose (l : Link) : Link :=
  match l.tripSlot, l.clampSlot, l.shareSlot, l.queue, l.rollSlot with
  | some p, _, _, _, _ => { l with transmitter := some (.trip p), tripSlot := none, idle := 0 }
  | none, some p, _, _, _ => { l with transmitter := some (.clamp p), clampSlot := none, idle := 0 }
  | none, none, some p, _, _ => { l with transmitter := some (.share p), shareSlot := none, idle := 0 }
  | none, none, none, p :: _, _ => { l with transmitter := some (.reply p), idle := 0 }
  | none, none, none, [], some p => { l with transmitter := some (.roll p), rollSlot := none, idle := 0 }
  | none, none, none, [], none => l

/-- The start bit of another station's frame, R147: the frame holds the line until its end, and the idle count of an
active controller is set to 0 (R143, log 12). A station that sends a bit of its own contends (R148) or completes its
abort mark (R149), and reads no start bit. -/
def Link.frameBegins (l : Link) : Link :=
  if l.transmitter.isSome || 0 < l.abortBits then l
  else if l.active then { l with lineBusy := true, idle := 0, bitMicros := 0 }
  else { l with lineBusy := true }

/-- TRANSMIT_START, R147: at idle, where a bit time begins, the station takes its frame and sends the start bit, and a
frame that finds the line not idle, or a bit under way, waits; or another station's start bit is read. The part held in
reset reads none (R167). -/
def execTransmitStart (s : State) (start : StartBit := .own) : Out :=
  .next (match start with
    | .own => if s.link.startable then s.onLink Link.choose else s
    | .another => if s.inReset then s else s.onLink Link.frameBegins)

/-- A SHARE discarded on its return, R153, R156. -/
def LinkCounters.countOvertaken (k : LinkCounters) : LinkCounters :=
  { k with shareOvertaken := bump 65535 k.shareOvertaken }

/-- The frame in the transmitter after an arbitration loss or an echo fault, table of R153; `joining` says whether the
end of joining is still to come. -/
def Link.returnFrame (joining : Bool) (l : Link) : Link :=
  let l := { l with idle := 0, bitMicros := 0 }
  match l.transmitter with
  | none => l
  | some (.trip p) =>
    { l with transmitter := none, tripSlot := if l.tripSlot.isSome then l.tripSlot else some p }
  | some (.clamp p) =>
    { l with transmitter := none, clampSlot := if l.clampSlot.isSome then l.clampSlot else some p }
  | some (.share p) =>
    if l.shareSlot.isSome then { l with transmitter := none, counters := l.counters.countOvertaken }
    else { l with transmitter := none, shareSlot := some p }
  | some (.reply _) => { l with transmitter := none }
  | some (.roll p) =>
    { l with transmitter := none,
             rollSlot := if !joining then l.rollSlot else if l.rollSlot.isSome then l.rollSlot else some p }

/-- ARBITRATION_LOSS, R148: counted, the frame stays pending, and the rest of the winner's frame is received. -/
def execArbitrationLoss (s : State) : Out :=
  .next (if s.link.transmitter.isNone then s
    else s.onLink fun l =>
      { l.returnFrame (s.st == .joining) with
        lineBusy := true
        counters := { (l.returnFrame (s.st == .joining)).counters with
          arbitrationLosses := bump 65535 l.counters.arbitrationLosses } })

/-- An echo fault counted, and the abort mark of eight dominant bits begun, R149. -/
def Link.countEcho (l : Link) : Link :=
  { l with abortBits := 8, consecutive := bump 4 l.consecutive,
           counters := { l.counters with echoFaults := bump 65535 l.counters.echoFaults } }

/-- The fourth consecutive echo fault: MUTE, then LINK_TRANSMIT with the class code as its detail (R150, log 23). -/
def State.muteOnEcho (s : State) (classCode : Nat) : State :=
  ((s.onLink fun l => { l with idle := 0, bitMicros := 0, faultClass := some classCode }).enterMute).present
    .linkTransmit true classCode

/-- ECHO_FAULT, R149, R150. -/
def execEchoFault (s : State) : Out :=
  .next (match s.link.transmitter with
    | none => s
    | some f =>
      let s := s.onLink Link.countEcho
      if 4 ≤ s.link.consecutive then s.muteOnEcho f.classCode
      else s.onLink (Link.returnFrame (s.st == .joining)))

/-- The frame sent leaves the transmitter, or the head of the reply queue (R149, R153, R154). -/
def Link.sent (f : TxFrame) (l : Link) : Link :=
  { l with transmitter := none, consecutive := 0,
           queue := match f with
             | .reply _ => l.queue.tail
             | .trip _ | .clamp _ | .share _ | .roll _ => l.queue }

/-- The own echo delivered: the own entry counts it (R2, R10), and a TRIP or CLAMP reaches its owner (R152). -/
def State.takeEcho (s : State) (f : TxFrame) : State :=
  let own := s.loader.station
  let s := s.countValid.onEntry own fun e => { e with heard := bump 65535 e.heard }
  match f with
  | .trip p => s.takeTrip own p
  | .clamp p => s.installClamp own p
  | .share _ | .reply _ | .roll _ => s

/-- TRANSMIT_SUCCESS, R149, R152. -/
def execTransmitSuccess (s : State) : Out :=
  .next (match s.link.transmitter with
    | none => s
    | some f => (s.onLink (Link.sent f)).takeEcho f)

end Sys2Proof.Machine
end

