-- ==== Sys2Proof/Machine/Loader.lean ====
section
/-!
DEFINITION. Start-up, the settings guard and the supply monitor: SETTLE_TIME_EXPIRY (R163), PARAMETER_READ_COMPLETE
(R164, R13 and each block's entry to JOINING), GUARD_TIMER_EXPIRY and SETTINGS_UPSET (R165), SUPPLY_LEVEL_CROSSING
(R168).
-/

namespace Sys2Proof.Machine

/-- SETTLE_TIME_EXPIRY: the straps are read and the SPI read begins, R162, R163. -/
def execSettleTimeExpiry (straps : BitVec 3) (s : State) : Out :=
  .next (if s.timers.settle.isNone ∨ s.st ≠ .loading then s
    else ((s.onTimers fun t => { t with settle := none }).onInputs fun i => { i with straps := straps }).onLoader
      fun l => { l with station := Fin.ofNat 8 straps.toNat, step := .reading })

/-- The allowance record filled at entry to JOINING, R67; the kept account is held within the new capacity (R74). -/
def Limiter.fill (w : Settings) (l : Limiter) : Limiter :=
  { l with
    rated := w.ratedCeiling, stageValue := 0, bandValue := w.envelope.b0, creepCap := w.creepCap,
    ceiling := w.ratedCeiling, overloadValue := w.continuousRating, envelope := w.envelope, band := 0,
    account := min l.account w.capacityUs }

/-- The first period start, made at entry to JOINING (R51, R52): CONV_EN is inactive, and no miss test is made (R66). -/
def Generator.start (period : Nat) (g : Generator) : Generator :=
  { g with period := some period, onCount := 0, offCount := period, phase := .off, position := 0,
           strobes := g.strobes + 1, answered := false }

/-- The timers started at entry to JOINING: aging (R6), guard (R165), surge (R82), the filters of active pins (R38). -/
def Timers.start (w : Settings) (i : Inputs) (t : Timers) : Timers :=
  { t with
    aging := some w.sharePeriodUs, guard := some w.sharePeriodUs, surge := some (w.surgeInterval * 1000),
    lstopFilter := if i.lstopPin then some 10000 else none,
    maintFilter := if i.maintPin then some 10000 else none }

/-- The own entry from entry to JOINING on, R2. -/
def PeerEntry.own (e : PeerEntry) : PeerEntry :=
  { e with kind := .drive, entry := .present, foreign := false, silence := 0, nonRunning := 0 }

/-- Every block takes its values from the working settings, R164. -/
def State.takeSettings (s : State) (w : Settings) : State :=
  { s with
    loader := { s.loader with settings := some w, guardWord := w.crc, step := .done }
    limiter := s.limiter.fill w
    vib := { s.vib with allowance := w.ratedCeiling }
    cause := { s.cause with actions := w.actions }
    gen := s.gen.start w.carrierPeriod
    link := { s.link with active := true, listening := false, idle := 0, bitMicros := 0,
                          abortBits := 0 }
    timers := s.timers.start w s.inputs
    monitor := { s.monitor with supplyLow := decide (s.inputs.supplyMillivolts < w.warningLevel) } }

/-- Entry to JOINING, R13, R164. -/
def State.enterJoining (s : State) (w : Settings) : State :=
  let s := s.takeSettings w
  ((s.onEntry s.loader.station PeerEntry.own).moveTo .joining).composeRoll

/-- A block that fails a check: FAULT_HALT, R164. -/
def State.haltFromLoading (s : State) : State :=
  (s.onLoader fun l => { l with step := .done }).moveTo .faultHalt

/-- PARAMETER_READ_COMPLETE: the 130 bytes are judged (R163, R164). Outside the read of start-up the event has no
place, and a transfer is always of 130 bytes (log 36). -/
def execParameterReadComplete (bytes : List Byte) (s : State) : Out :=
  .next (if s.st ≠ .loading ∨ s.loader.step ≠ .reading ∨ bytes.length ≠ 130 then s
    else match checkBlock bytes with
      | .error _ => s.haltFromLoading
      | .ok w => s.enterJoining w)

/-- GUARD_TIMER_EXPIRY, R165: equal, the timer restarts; different, it stops and SETTINGS_GUARD becomes present. -/
def execGuardTimerExpiry (s : State) : Out :=
  .next (if s.timers.guard.isNone then s
    else if s.cfg.crc = s.loader.guardWord then s.onTimers fun t => { t with guard := some s.cfg.sharePeriodUs }
    else
      let found := s.cfg.crc
      ((s.onTimers fun t => { t with guard := none }).onLoader fun l => { l with guardFound := some found }).present
        .settingsGuard true found.toNat)

/-- SETTINGS_UPSET: one word of the stored settings is altered, R165. The manual does not say whether an altered supply
warning step makes the monitor compare at once; the model's choice is that it compares at the next crossing (log 44). -/
def execSettingsUpset (index : Fin 64) (value : Word) (s : State) : Out :=
  .next (s.onLoader fun l => { l with settings := l.settings.map fun w => w.set index.val value })

/-- SUPPLY_LOW's condition after a crossing, R168: below the level it holds, from 20 mV above it no longer. -/
def lowAfter (level millivolts : Nat) (low : Bool) : Bool :=
  if millivolts < level then true else if level + 20 ≤ millivolts then false else low

/-- SUPPLY_LEVEL_CROSSING: the comparison runs from entry to JOINING, where the settings are taken, until the next reset,
in FAULT_HALT entered from JOINING too (R168). -/
def execSupplyLevelCrossing (millivolts : Nat) (s : State) : Out :=
  let s := s.onInputs fun i => { i with supplyMillivolts := millivolts }
  .next (if s.loader.settings.isNone then s
    else
      let s := s.onMonitor fun m => { m with supplyLow := lowAfter s.cfg.warningLevel millivolts m.supplyLow }
      s.present .supplyLow s.monitor.supplyLow s.cfg.supplyStep)

end Sys2Proof.Machine
end

