-- ==== Sys2Proof/Machine/LocalInputs.lean ====
section
/-!
DEFINITION. The local inputs: LOCAL_INPUT_EDGE (R38), LOCAL_INPUT_FILTERED (R38, R39, LOCAL_STOP of R109) and the
exit from LOCKOUT (R40, R123).
-/

namespace Sys2Proof.Machine

/-- The level of a pin. -/
def State.pin (s : State) : LocalInput → Bool
  | .lstop => s.inputs.lstopPin
  | .maint => s.inputs.maintPin

/-- The filtered level of an input, R38. -/
def State.filtered (s : State) : LocalInput → Bool
  | .lstop => s.seq.lstop
  | .maint => s.seq.maint

/-- The filter of an input. -/
def State.filter (s : State) : LocalInput → Option Nat
  | .lstop => s.timers.lstopFilter
  | .maint => s.timers.maintFilter

/-- A pin set. -/
def Inputs.setPin (i : LocalInput) (level : Bool) (x : Inputs) : Inputs :=
  match i with
  | .lstop => { x with lstopPin := level }
  | .maint => { x with maintPin := level }

/-- A filtered level set. -/
def Sequencer.setFiltered (i : LocalInput) (level : Bool) (q : Sequencer) : Sequencer :=
  match i with
  | .lstop => { q with lstop := level }
  | .maint => { q with maint := level }

/-- A filter set. -/
def Timers.setFilter (i : LocalInput) (v : Option Nat) (t : Timers) : Timers :=
  match i with
  | .lstop => { t with lstopFilter := v }
  | .maint => { t with maintFilter := v }

/-- The 10 ms of R38. -/
def filterUs : Nat := 10000

/-- LOCAL_INPUT_EDGE: the pin takes its new level; its filter starts, or stops when the pin is back at the filtered
level (R38). Before the end of LOADING no filtered level is taken (log 14). -/
def execLocalInputEdge (i : LocalInput) (level : Bool) (s : State) : Out :=
  .next (if s.pin i = level then s
    else
      let s := s.onInputs (Inputs.setPin i level)
      if s.loader.settings.isNone then s
      else s.onTimers (Timers.setFilter i (if level = s.filtered i then none else some filterUs)))

/-- The lockout timer after a change of a filtered level, R39. -/
def State.judgeLockout (s : State) : State :=
  if s.st ≠ .tripped then s
  else if s.seq.lstop && s.seq.maint then
    (if s.timers.lockout.isNone then s.onTimers fun t => { t with lockout := some 1000000 } else s)
  else s.onTimers fun t => { t with lockout := none }

/-- A latch cleared unless its cause is reset-only, R40. -/
def CauseSet.unlatch (t : CauseSet) : CauseSet :=
  Cause.all.foldl (fun t c => if c.resetOnly then t else t.set c { t.get c with latched := false }) t

/-- Whether a reset-only cause is latched, R40, R124. -/
def State.resetOnlyLatched (s : State) : Bool :=
  Cause.all.any fun c => c.resetOnly && (s.causeField c).latched

/-- What is taken at the exit from LOCKOUT beside the state: the sensed loop (R119) and each TRIP-action cause still
present (R123). -/
def State.exitRises (s : State) : List (Option Cause) :=
  (if s.loopSensed then [none] else [])
    ++ (Cause.all.filter fun c => s.actionOf c == .trip && (s.causeField c).present).map some

/-- One of them: the loop trip of R119, or the cause latched, counted and acted on as at a rise (R123). -/
def State.exitRise (c : Option Cause) (s : State) : State :=
  match c with
  | none => s.loopCheck
  | some c => (s.latchCount c).actOnRise c (s.detailOf c)

/-- The latch of SELFTEST_FAIL cleared, R105. -/
def CauseSet.readied (t : CauseSet) : CauseSet :=
  t.set .selftestFail { t.get .selftestFail with latched := false }

/-- The exit from LOCKOUT, table of R40, with R123's relatching; several trips are taken in free order (log 5, 26). On
the exit to TRIPPED the latches are kept but for that of SELFTEST_FAIL, which R105 has cleared at each exit, the station
being ready again (R40); taking R105 over the words of R40's first row is the model's choice (log 45). The state at trip
of an origin or loop trip made here is the STANDBY or STOPPED just entered, the state before the trip entry (R113, R119,
R133), and not the LOCKOUT held before this event, as R114's step 3 may be read: the model's choice (log 26). -/
def State.lockoutExit (s : State) : State :=
  if s.resetOnlyLatched then (s.onCauses CauseSet.readied).moveTo .tripped
  else
    let target := if s.someOtherShows StationState.startingOrRunning then StationState.standby else .stopped
    let s := (s.onCauses CauseSet.unlatch).moveTo target
    let rises := s.exitRises
    State.inFreeOrder State.exitRise rises.length rises s

/-- The filtered levels acted on in TRIPPED and LOCKOUT, R39, R40. -/
def State.actOnFiltered (s : State) : State :=
  let s := s.judgeLockout
  if s.st = .lockout ∧ s.seq.maint = false ∧ s.seq.lstop = false then s.lockoutExit else s

/-- LOCAL_INPUT_FILTERED: the filter has run out, and the filtered level becomes the pin's (R38); LOCAL_STOP follows
the filtered LSTOP level (R109). -/
def execLocalInputFiltered (i : LocalInput) (s : State) : Out :=
  .next (if (s.filter i).isNone then s
    else
      let s := (s.onTimers (Timers.setFilter i none)).onSeq (Sequencer.setFiltered i (s.pin i))
      let s := match i with
        | .lstop => s.present .localStop s.seq.lstop 0
        | .maint => s
      s.actOnFiltered)

end Sys2Proof.Machine
end

