-- ==== Sys2Proof/Machine/Resets.lean ====
section
/-!
DEFINITION. The beginning and the end of a reset (R166, R167; the values of each chapter after power-on and after the
other resets: R19, R21, R45, R51, R55, R67, R74, R84, R92, R108, R142, R143, R162), and the commands that reset:
RESET_LINE_PULSE, BROWN_OUT, BROWN_OUT_END, CLOCK_LOSS, CLOCK_RETURN. ORDER RESTART (R43) uses the same two.
-/

namespace Sys2Proof.Machine

/-- The reset cause of a reset that begins now: POWER_ON stands until the end of LOADING (R167). -/
def State.resetCauseFor (s : State) (kind : ResetKind) : ResetKind :=
  if s.st = .loading ∧ s.loader.resetCause = .powerOn then .powerOn else kind

/-- The halt mark of a reset that begins now, R162. -/
def State.haltMarkFor (s : State) (kind : ResetKind) : Bool :=
  kind != .powerOn && s.st == .faultHalt

/-- The torque limiter at the beginning of a reset: the account and the limit are kept by the other resets (R74). -/
def Limiter.atReset (kind : ResetKind) (l : Limiter) : Limiter :=
  if kind = .powerOn then .reset else { Limiter.reset with account := l.account, limit := l.limit }

/-- The cause unit at the beginning of a reset: G is kept by the other resets (R108). -/
def CauseUnit.atReset (kind : ResetKind) (u : CauseUnit) : CauseUnit :=
  if kind = .powerOn then .reset else { CauseUnit.reset with g := u.g }

/-- The record store at the beginning of a reset, R142. -/
def RecordStore.atReset (kind : ResetKind) (r : RecordStore) : RecordStore :=
  if kind = .powerOn then .reset
  else { ring := [], slots := cutFilling r.slots, serial := r.serial, current := none }

/-- Every block at the values of a reset of a kind, R166; the input levels and the queue are not the part's (log 29,
40). -/
def State.beginReset (s : State) (kind : ResetKind) : State :=
  { s with
    peers := .reset, seq := .reset, speed := .reset, gen := .reset, reg := .reset
    limiter := s.limiter.atReset kind
    vib := .reset
    cause := s.cause.atReset kind
    records := s.records.atReset kind
    link := .reset
    loader := .reset (s.resetCauseFor kind) (s.haltMarkFor kind)
    monitor := { s.monitor with supplyLow := false }
    timers := .stopped
    lines := { Lines.released with loopDrive := s.monitor.clockLost && !s.monitor.supplyHeld } }

/-- The end of a reset, unless the part is still held (R167): the time mark starts from 0 and the settle time runs
(R162, R163). -/
def State.endReset (s : State) : State :=
  if s.inReset then s
  else
    { s with
      clock := { timeMark := 0, micros := 0 }
      timers := { s.timers with settle := some 20000 }
      lines := .released }

/-- Whether a low pulse of RESET_N is taken, table of R166; between 0.5 ms and 2 ms it is free (log 10). -/
def State.pulseTaken (s : State) (lowMicroseconds : Nat) : Bool :=
  if 2000 ≤ lowMicroseconds then true
  else if lowMicroseconds < 500 then false
  else Config.pulseTaken s.free

/-- RESET_LINE_PULSE: a taken pulse makes the reset at its release, R166. -/
def execResetLinePulse (lowMicroseconds : Nat) (s : State) : Out :=
  let taken := s.pulseTaken lowMicroseconds
  let s := if 500 ≤ lowMicroseconds ∧ lowMicroseconds < 2000 then { s with free := s.free + 1 } else s
  .next (if taken then (s.beginReset .resetLine).endReset else s)

/-- BROWN_OUT: the part is held in reset, TRLOOP released (R167). -/
def execBrownOut (s : State) : Out :=
  .next (if s.monitor.supplyHeld then s
    else (s.onMonitor fun m => { m with supplyHeld := true }).beginReset .powerOn)

/-- BROWN_OUT_END: the supply has stood above 2.70 V for 1 ms (R167); a clock still lost then drives TRLOOP. -/
def execBrownOutEnd (millivolts : Nat) (s : State) : Out :=
  .next (if !s.monitor.supplyHeld || decide (millivolts ≤ 2700) then s
    else
      let s := (s.onInputs fun i => { i with supplyMillivolts := millivolts }).onMonitor
        fun m => { m with supplyHeld := false }
      (s.onLines fun _ => { Lines.released with loopDrive := s.monitor.clockLost }).endReset)

/-- CLOCK_LOSS: the part is held in reset with TRLOOP driven, but for a brown-out (R167). -/
def execClockLoss (s : State) : Out :=
  .next (if s.monitor.clockLost then s
    else (s.onMonitor fun m => { m with clockLost := true }).beginReset .clockLoss)

/-- CLOCK_RETURN: the first REFCLK edge ends the reset (R167). -/
def execClockReturn (s : State) : Out :=
  .next (if !s.monitor.clockLost then s else (s.onMonitor fun m => { m with clockLost := false }).endReset)

end Sys2Proof.Machine
end

