-- ==== Sys2Proof/Machine/Orders.lean ====
section
/-!
DEFINITION. The ORDER frames: ORDER_SELFTEST (R42), ORDER_RESTART (R43), CLEAR_TRIP (R124, R125), KEEP_RECORD (R139),
RELEASE_RECORD (R140), DISCARD_RECORDS (R141), ORDER_UNDEFINED_KIND (R41, R170).
-/

namespace Sys2Proof.Machine

/-- Whether an ORDER addresses this station, R41. -/
def State.addressed (s : State) (target : BitVec 4) : Bool :=
  target.toNat == s.loader.station.val || target.toNat == 15

/-- An answer to an ORDER, R41. -/
def State.answerOrder (s : State) (code : OutcomeCode) (p : OrderPayload) : State :=
  s.writeOutcome .order code p.tag

/-- An ORDER of a kind (section 11.1) up to the block that acts on it, R41, R152. -/
def State.orderArrives (s : State) (origin : Station) (kind : BitVec 4) (p : OrderPayload) (act : State → State) :
    State :=
  s.frameArrives ⟨classOrder, origin, p.words kind⟩ fun s => if s.addressed p.target then act s else s

/-- ORDER SELFTEST, R42: taken in STOPPED. -/
def State.orderSelftest (p : OrderPayload) (s : State) : State :=
  if s.st = .stopped then (s.answerOrder .taken p).enterSelftest p.tag else s.answerOrder .wrongState p

/-- ORDER_SELFTEST. -/
def execOrderSelftest (origin : Station) (order : OrderPayload) (s : State) : Out :=
  .next (s.orderArrives origin 1 order (State.orderSelftest order))

/-- The states in which a RESTART is taken, R43. -/
def StationState.takesRestart : StationState → Bool
  | .stopped | .tripped | .standby | .lockout => true
  | _ => false

/-- ORDER RESTART, R43, R166: the reset begins and ends at this event. -/
def State.orderRestart (p : OrderPayload) (s : State) : State :=
  if s.st.takesRestart then (s.beginReset .restart).endReset else s.answerOrder .wrongState p

/-- ORDER_RESTART. -/
def execOrderRestart (origin : Station) (order : OrderPayload) (s : State) : Out :=
  .next (s.orderArrives origin 2 order (State.orderRestart order))

/-- Whether the context's number is pending, R124. -/
def State.numberPending (s : State) : Bool :=
  match s.cause.context with
  | some ctx => ctx.number.isNone
  | none => false

/-- A latched TRIP-action cause that is still present, R124. -/
def State.latchedAndPresent (s : State) : Bool :=
  s.latchedTripCauses.any fun c => (s.causeField c).present

/-- The answer to a CLEAR_TRIP for the trip number `n`, table of R124. -/
def State.clearAnswer (s : State) (n : Word) : OutcomeCode :=
  if s.st = .tripDecel then .moving
  else if s.st ≠ .tripped then .wrongState
  else if s.numberPending || n != s.cause.g then .numberMismatch
  else if s.resetOnlyLatched then .resetNeeded
  else if s.latchedAndPresent then .causePresent
  else .taken

/-- Every latch cleared, R125; no reset-only cause is latched then. -/
def CauseSet.unlatchAll (t : CauseSet) : CauseSet :=
  Cause.all.foldl (fun t c => t.set c { t.get c with latched := false }) t

/-- A CLEAR_TRIP taken, R125; the loop may fall by this release (R126). -/
def State.beginClear (s : State) (p : OrderPayload) : State :=
  let s := (s.onCauses CauseSet.unlatchAll).moveTo .clearing
  let s := (s.onTimers fun t => { t with clearWindow := some (s.cfg.clearWindow * 1000) }).onCause
    fun u => { u with clearTag := some p.tag }
  let s := s.answerOrder .taken p
  if s.loopSensed then s else s.enterStopped

/-- ORDER CLEAR_TRIP, R124. -/
def State.clearTrip (p : OrderPayload) (s : State) : State :=
  if s.clearAnswer p.argument = .taken then s.beginClear p else s.answerOrder (s.clearAnswer p.argument) p

/-- CLEAR_TRIP. -/
def execClearTrip (origin : Station) (order : OrderPayload) (s : State) : Out :=
  .next (s.orderArrives origin 3 order (State.clearTrip order))

/-- The record that an argument names, R139, R140: none when it is above 7 or the slot is EMPTY. -/
def State.namedRecord (s : State) (argument : Word) : Option (Fin 8 × TripRecord) :=
  if 7 < argument.toNat then none
  else (s.records.slots.get (Fin.ofNat 8 argument.toNat)).map fun r => (Fin.ofNat 8 argument.toNat, r)

/-- How many records bear the keep mark, R139. -/
def keptCount (slots : Eight (Option TripRecord)) : Nat :=
  (eightNumbers.filter fun i => (slots.get i).any (·.keep)).length

/-- A record's keep mark written. -/
def State.setKeep (s : State) (i : Fin 8) (keep : Bool) : State :=
  s.onRecords fun r => { r with slots := r.slots.set i ((r.slots.get i).map fun x => { x with keep := keep }) }

/-- ORDER KEEP_RECORD, table of R139. -/
def State.keepRecord (p : OrderPayload) (s : State) : State :=
  if s.st = .joining then s.answerOrder .wrongState p
  else match s.namedRecord p.argument with
    | none => s.answerOrder .slotEmpty p
    | some (i, r) =>
      if r.keep then s.answerOrder .taken p
      else if 4 ≤ keptCount s.records.slots then s.answerOrder .keepLimit p
      else (s.setKeep i true).answerOrder .taken p

/-- KEEP_RECORD. -/
def execKeepRecord (origin : Station) (order : OrderPayload) (s : State) : Out :=
  .next (s.orderArrives origin 4 order (State.keepRecord order))

/-- ORDER RELEASE_RECORD, table of R140. -/
def State.releaseRecord (p : OrderPayload) (s : State) : State :=
  if s.st = .joining then s.answerOrder .wrongState p
  else match s.namedRecord p.argument with
    | none => s.answerOrder .slotEmpty p
    | some (i, _) => (s.setKeep i false).answerOrder .taken p

/-- RELEASE_RECORD. -/
def execReleaseRecord (origin : Station) (order : OrderPayload) (s : State) : Out :=
  .next (s.orderArrives origin 5 order (State.releaseRecord order))

/-- A slot after a discard, R141: what R132 could replace becomes EMPTY. -/
def discardSlot (r : Option TripRecord) : Option TripRecord :=
  if replaceable r then none else r

/-- The store after a discard, R141; a current record that is emptied becomes none (R131). -/
def RecordStore.discard (r : RecordStore) : RecordStore :=
  let slots := r.slots.map fun _ x => discardSlot x
  { r with slots := slots,
           current := match r.current with
             | some i => if (slots.get i).isSome then some i else none
             | none => none }

/-- ORDER DISCARD_RECORDS, R141: taken wherever ORDERs are dispatched. -/
def State.discardRecords (p : OrderPayload) (s : State) : State :=
  (s.onRecords RecordStore.discard).answerOrder .taken p

/-- DISCARD_RECORDS. -/
def execDiscardRecords (origin : Station) (order : OrderPayload) (s : State) : Out :=
  .next (s.orderArrives origin 6 order (State.discardRecords order))

/-- ORDER_UNDEFINED_KIND: ignored, no outcome (R41, R170); the frame is counted and refreshes its sender's entry. -/
def execOrderUndefinedKind (origin : Station) (kind : BitVec 4) (order : OrderPayload) (s : State) : Out :=
  .next (s.orderArrives origin kind order id)

end Sys2Proof.Machine
end

