-- ==== Sys2Proof/Machine/Speed.lean ====
section
/-!
DEFINITION. The speed unit: the tach edge (R46, R47, R50, R70, R76; its command stands in Passage) and STANDSTILL (R48,
R33, R115).
-/

namespace Sys2Proof.Machine

/-- The capture timer's overflow value, R45. -/
def captureOverflow : Nat := 16777215

/-- The speed of a period, R47. -/
def speedOf (constant period : Nat) : Nat :=
  min 1500 (constant / period)

/-- The speed unit at an accepted edge, R47. -/
def SpeedUnit.accept (constant : Nat) (u : SpeedUnit) : SpeedUnit :=
  { speed := if u.capture < captureOverflow then speedOf constant u.capture else u.speed,
    standstill := false, capture := 0, stageEdges := bump 255 u.stageEdges }

/-- A change of speed delivered to its readers: OVERSPEED (R50), the speed band (R70), the jam conditions (R80). Every
accepted edge and every STANDSTILL counts as a change of speed here, one that leaves speed as it was too: the model's
choice, which shows only where an upset has altered b1 to b3 or the jam speed (log 49). -/
def State.speedChanged (s : State) : State :=
  ((s.present .overspeed (decide (s.cfg.overspeedLimit < s.speed.speed)) 0).reselectBand).judgeJam

/-- Local rotation in BREAKAWAY, R76, R32. -/
def State.checkRotation (s : State) : State :=
  if s.st = .breakaway ∧ s.cfg.rotationEdges ≤ s.speed.stageEdges then s.leaveBreakaway else s

/-- A tach edge at the speed unit: ignored when it does not qualify or is noise (R46), else accepted (R47). -/
def State.tachEdge (s : State) (edge : Edge) : State :=
  if !s.st.blocksRun || !s.cfg.edgeQualifies edge || decide (s.speed.capture < 50) then s
  else ((s.onSpeed (SpeedUnit.accept s.cfg.tachConstant)).speedChanged).checkRotation

/-- The standstill flag handed to its readers, R48: DECEL to STOPPED (R33), TRIP_DECEL to TRIPPED (R115). -/
def State.standstillReached (s : State) : State :=
  match s.st with
  | .decel => s.enterStopped
  | .tripDecel => s.moveTo .tripped
  | _ => s

/-- STANDSTILL: the capture timer has reached the standstill time while the flag is clear (R48). -/
def execStandstill (s : State) : Out :=
  .next (if !s.st.blocksRun || s.speed.standstill then s
    else
      ((s.onSpeed fun u =>
        { u with capture := min captureOverflow (max u.capture s.cfg.standstillUs), standstill := true,
                 speed := 0 }).speedChanged).standstillReached)

end Sys2Proof.Machine
end

