-- ==== Sys2Proof/Machine/Vibration.lean ====
section
/-!
DEFINITION. The vibration watch: VIB_SAMPLE_ARRIVAL (R91, R93 to R98), VIB_SILENCE_EXPIRY (R100), PATTERN_SAMPLE
(R102, R103, R42, R105).
-/

namespace Sys2Proof.Machine

/-- The integer root bit by bit: `b` counts the bits still to try. -/
def isqrtBits (n : Nat) : Nat → Nat → Nat
  | 0, root => root
  | b + 1, root =>
    if (root + 2 ^ b) * (root + 2 ^ b) ≤ n then isqrtBits n b (root + 2 ^ b) else isqrtBits n b root

/-- The largest integer whose square does not exceed `n`, for `n` below 2 to the 34 (R94). -/
def isqrt (n : Nat) : Nat :=
  isqrtBits n 17 0

/-- A sample taken into the open window, R93. -/
def VibWatch.take (x : Int) (v : VibWatch) : VibWatch :=
  { v with count := v.count + 1, sumSquares := v.sumSquares + x.natAbs * x.natAbs, peak := max v.peak x.natAbs }

/-- The figures of a full window, part 1 of R94. -/
def VibWatch.figures (v : VibWatch) : Figures :=
  { rms := isqrt (v.sumSquares / 256), peak := v.peak }

/-- Part 3: the alert comparison, R95. -/
def State.judgeAlert (s : State) (fig : Figures) (band : Fin 4) : State :=
  if s.cfg.alertRms band ≤ fig.rms then
    let n := bump s.cfg.alertPersistence s.vib.alertCount
    let s := s.onVib fun v => { v with alertCount := n }
    if n = s.cfg.alertPersistence then s.present .vibAlert true fig.rms else s
  else (s.onVib fun v => { v with alertCount := 0 }).cease .vibAlert

/-- Part 4: the trip comparison, R96. -/
def State.judgeTrip (s : State) (fig : Figures) (band : Fin 4) : State :=
  if s.cfg.tripRms band ≤ fig.rms ∨ s.cfg.tripPeak band ≤ fig.peak then
    let n := bump s.cfg.tripPersistence s.vib.tripCount
    let s := s.onVib fun v => { v with tripCount := n }
    if n = s.cfg.tripPersistence then
      s.present .vibTrip true (if s.cfg.tripRms band ≤ fig.rms then fig.rms else fig.peak)
    else s
  else (s.onVib fun v => { v with tripCount := 0 }).cease .vibTrip

/-- A write of the vibration allowance into VIB; one that leaves the value as it stands is not made (R97). -/
def State.writeVib (s : State) (allowance : Nat) : State :=
  if s.vib.allowance = allowance then s
  else (s.onVib fun v => { v with allowance := allowance }).recompute

/-- Part 5: derate (R97) and recovery (R98), in a derating state. -/
def State.derate (s : State) (fig : Figures) (band : Fin 4) : State :=
  if !s.st.regulating then s
  else
    let s := if (s.causeField .vibAlert).present then
        s.writeVib (max s.cfg.derateFloor (s.vib.allowance - s.cfg.derateStep)) else s
    if s.cfg.alertRms band ≤ fig.rms then s.onVib fun v => { v with quietCount := 0 }
    else if s.cfg.recoveryWindows ≤ s.vib.quietCount + 1 then
      (s.onVib fun v => { v with quietCount := 0 }).writeVib
        (min s.cfg.ratedCeiling (s.vib.allowance + s.cfg.derateStep))
    else s.onVib fun v => { v with quietCount := v.quietCount + 1 }

/-- The completion of an external window, parts 1 to 5 of R94; the accumulators are then emptied (R93). -/
def State.completeWindow (s : State) : State :=
  let fig := s.vib.figures
  let band := s.cfg.bandOf s.speed.speed
  let s := s.onVib fun v => { v with latestRms := fig.rms, latestPeak := fig.peak, latestBand := band }
  (((s.judgeAlert fig band).judgeTrip fig band).derate fig band).onVib VibWatch.emptied

/-- The silence timer restarted if it runs, and VIB_INPUT ended, R91. -/
def State.hearConverter (s : State) : State :=
  (s.onTimers fun t =>
    { t with silence := t.silence.map fun _ => s.cfg.silenceTime * 1000 }).cease .vibInput

/-- A sample into the open window in an evaluating state, R93. -/
def State.takeVibSample (s : State) (sample : Word) : State :=
  if !s.st.evaluating then s
  else
    let s := s.onVib (VibWatch.take sample.toInt)
    if 256 ≤ s.vib.count then s.completeWindow else s

/-- VIB_SAMPLE_ARRIVAL: a word whose stop bit is low is discarded, as is every word in LOADING and FAULT_HALT (R91). -/
def execVibSampleArrival (sample : Word) (stopHigh : Bool) (s : State) : Out :=
  .next (if stopHigh && s.st.blocksRun then (s.hearConverter).takeVibSample sample else s)

/-- VIB_SILENCE_EXPIRY: the timer stops and VIB_INPUT becomes present (R100). -/
def execVibSilenceExpiry (s : State) : Out :=
  .next (if s.timers.silence.isNone then s
    else (s.onTimers fun t => { t with silence := none }).present .vibInput true s.cfg.silenceTime)

/-- The pattern sample of a phase, table of R102. -/
def VibWatch.patternValue (v : VibWatch) : Int :=
  match v.phase with
  | .high1 | .high2 => if v.patternCount % 2 = 0 then v.amplitude else -(v.amplitude : Int)
  | .zero | .none => 0

/-- Whether a test window meets its criterion, R102. -/
def criterionMet (w : Settings) (phase : TestPhase) (fig : Figures) : Bool :=
  match phase with
  | .high1 | .high2 => decide (w.tripRms 3 ≤ fig.rms) && decide (w.tripPeak 3 ≤ fig.peak)
  | .zero | .none => fig.rms == 0 && fig.peak == 0

/-- The phase after a test window, R102, R103. -/
def TestPhase.next : TestPhase → TestPhase
  | .high1 => .high2
  | .high2 => .zero
  | .zero | .none => .none

/-- The sequencer's act on the verdict, R42, R105. -/
def State.selftestReport (s : State) (passed : Bool) : State :=
  let s := s.onSeq fun q => { q with selftestDone := true }
  let s := if passed then
      s.setCause .selftestFail { s.causeField .selftestFail with present := false, latched := false }
    else s.present .selftestFail true 0
  let s := s.writeOutcome .order (if passed then .selftestPassed else .selftestFailed) s.seq.selftestTag
  if s.someOtherShows StationState.startingOrRunning then s.enterStandby else s.enterStopped

/-- The completion of a test window, R102; the ZERO window ends the test (R103). -/
def State.completeTestWindow (s : State) (fig : Figures) : State :=
  let phase := s.vib.phase
  let failed := s.vib.failMark || !criterionMet s.cfg phase fig
  let s := s.onVib fun v => { v.emptied with failMark := failed, patternCount := 0, phase := phase.next }
  if phase = .zero then s.selftestReport (!failed) else s

/-- PATTERN_SAMPLE: one pattern sample into the accumulators every 100 µs of SELFTEST (R102). `figures` are those a
faulty path forms for a window this sample completes; none on a sound path (log 27). -/
def execPatternSample (figures : Option Figures) (s : State) : Out :=
  .next (if s.st ≠ .selftest ∨ s.vib.phase = .none then s
    else
      let s := (s.onVib fun v => { (v.take v.patternValue) with patternCount := v.patternCount + 1 }).onTimers
        fun t => { t with pattern := some 100 }
      if 256 ≤ s.vib.patternCount then s.completeTestWindow (figures.getD s.vib.figures) else s)

end Sys2Proof.Machine
end

