-- ==== Sys2Proof/Machine/Passage.lean ====
section
/-!
DEFINITION. Time passing within one command: the block's own events are taken as they come due (R45, R48, R80, R81 and
every timer's own rule). TACH_EDGE (R46, R47), whose operand says how much time passes before the edge.
-/

namespace Sys2Proof.Machine

/-- The state that an answer leaves. -/
def landed (s : State) (o : Out) : State :=
  match o with
  | .next t => t
  | .fault _ | .refused _ => s

/-- One of the block's own events taken: the meaning of its command. -/
def State.takeOwn (s : State) (c : Instr) : State :=
  landed s (match c with
    | .conductionPeriodStart => execConductionPeriodStart s
    | .conductionOnEnd => execConductionOnEnd s
    | .standstill => execStandstill s
    | .vibSilenceExpiry => execVibSilenceExpiry s
    | .patternSample figures => execPatternSample figures s
    | .loopWaitExpiry => execLoopWaitExpiry s
    | .clearWindowExpiry => execClearWindowExpiry s
    | .agingExpiry => execAgingExpiry s
    | .shareTimerExpiry => execShareTimerExpiry s
    | .historyTimerExpiry => execHistoryTimerExpiry s
    | .demandTimerExpiry => execDemandTimerExpiry s
    | .startWindowExpiry => execStartWindowExpiry s
    | .stageTimerExpiry => execStageTimerExpiry s
    | .jamTimerExpiry => execJamTimerExpiry s
    | .surgeTimerExpiry => execSurgeTimerExpiry s
    | .clampHoldExpiry => execClampHoldExpiry s
    | .lockoutTimerExpiry => execLockoutTimerExpiry s
    | .localInputFiltered input => execLocalInputFiltered input s
    | .transmitStart start => execTransmitStart s start
    | .settleTimeExpiry straps => execSettleTimeExpiry straps s
    | .guardTimerExpiry => execGuardTimerExpiry s
    | _ => .next s)

/-- The own events due at one instant, one after the other, at most `n` of them. -/
def State.takeDue : Nat → State → State
  | 0, s => s
  | n + 1, s =>
    match s.nextDue with
    | none => s
    | some (c, t) => State.takeDue n (t.takeOwn c)

/-- How many kinds of own events there are, and so how many are taken at one instant at most: taking one ends or restarts
what made it due (log 2). A timer that restarts at 0 after an upset may take several of these turns (log 48). -/
def ownKinds : Nat := 22

/-- `n` µs pass, and every own event is taken at its instant; those due at the last instant wait (log 4). -/
def State.pass : Nat → State → State
  | 0, s => s
  | n + 1, s => State.pass n ((s.takeDue ownKinds).elapse 1)

/-- TACH_EDGE: `elapsed` µs pass, then the edge (log 4). -/
def execTachEdge (edge : Edge) (elapsed : Nat) (s : State) : Out :=
  .next ((s.pass elapsed).tachEdge edge)

end Sys2Proof.Machine
end

