-- ==== Sys2Proof/Machine/Queries.lean ====
section
/-!
DEFINITION. The query responder: how a QUERY is taken (R157), the reply status (R158), the items (R159 to R161) in the
word layouts of spec/11 section 11.5, and the eleven QUERY commands.
-/

namespace Sys2Proof.Machine

/-- What a reply reports, R158. -/
inductive Answer where
  | ok (data : List Word)
  | noSuchItem
  | indexRange
  | absent (data : List Word)
  deriving DecidableEq, Repr

/-- Reply status codes, spec/11 section 11.1. -/
def Answer.status : Answer → BitVec 2
  | .ok _ => 0
  | .noSuchItem => 1
  | .indexRange => 2
  | .absent _ => 3

/-- The data words of a reply, R158. -/
def Answer.data : Answer → List Word
  | .ok d | .absent d => d
  | .noSuchItem | .indexRange => []

/-- A reply to a QUERY: its tag and item as received, the status and the data (R157). -/
def Answer.reply (a : Answer) (item : BitVec 4) (q : QueryPayload) : ReplyPayload :=
  { tag := q.tag, item := 0#4 ++ item, status := a.status, data := a.data }

/-- A QUERY at the responder, table of R157. -/
def State.takeQuery (s : State) (item : BitVec 4) (q : QueryPayload) (a : Answer) : State :=
  if q.target.toNat ≠ s.loader.station.val then s
  else if s.st = .joining ∨ s.link.mute = true then s
  else if 4 ≤ s.link.queue.length then
    s.onCounters fun k => { k with repliesDropped := bump 65535 k.repliesDropped }
  else s.onLink fun l => { l with queue := l.queue ++ [a.reply item q] }

/-- A QUERY frame up to its reply, R152, R157; the answer is composed from the state at the arrival. -/
def State.query (s : State) (origin : Station) (item : BitVec 4) (q : QueryPayload) (answer : State → Answer) : State :=
  s.frameArrives ⟨classQuery, origin, q.words item⟩ fun s => s.takeQuery item q (answer s)

/-- A number as one word. -/
def word (n : Nat) : Word :=
  BitVec.ofNat 16 n

/-- A signed number as one word: its low 16 bits, which is the number itself but for a SURGE detail above 32767
(log 47). -/
def signedWord (n : Int) : Word :=
  BitVec.ofInt 16 n

/-- A 32-bit number as two words, high then low. -/
def longWords (v : BitVec 32) : List Word :=
  [v.extractLsb' 16 16, v.extractLsb' 0 16]

/-- An answer for an index and a sub-index within their ranges, R158. -/
def ranged (q : QueryPayload) (indices subs : Nat × Nat) (a : Answer) : Answer :=
  if indices.1 ≤ q.index.toNat ∧ q.index.toNat ≤ indices.2 ∧ subs.1 ≤ q.sub.toNat ∧ q.sub.toNat ≤ subs.2 then a
  else .indexRange

/-- The lowest code of a latched TRIP-action cause, or 0 (R159). -/
def State.lowestLatched (s : State) : Nat :=
  match s.latchedTripCauses with
  | c :: _ => c.code
  | [] => 0

/-- The six words of STATUS. While the last outcome is empty R44 gives source and code as none and says nothing of the
tag: the model shows 0 (log 46). -/
def State.statusWords (s : State) : List Word :=
  let st : BitVec 4 := BitVec.ofNat 4 s.st.code
  let cause : BitVec 2 := BitVec.ofNat 2 s.loader.resetCause.code
  let source : BitVec 2 := BitVec.ofNat 2 (match s.seq.lastOutcome with | some o => o.source.code | none => 0)
  let code : BitVec 5 := BitVec.ofNat 5 (match s.seq.lastOutcome with | some o => o.code.code | none => 0)
  let tag : Byte := match s.seq.lastOutcome with | some o => o.tag | none => 0
  let lowest : Byte := BitVec.ofNat 8 s.lowestLatched
  [st ++ 0#2 ++ cause ++ 0#7 ++ BitVec.ofBool s.loader.haltMark, s.cause.g] ++ longWords s.clock.timeMark
    ++ [source ++ 0#1 ++ code ++ tag,
        lowest ++ 0#3 ++ BitVec.ofBool s.alertPresent ++ BitVec.ofBool s.clampCausePresent
          ++ BitVec.ofBool s.tripCauseLatched ++ BitVec.ofBool s.link.mute ++ BitVec.ofBool (!s.ready)]

/-- STATUS, R159. -/
def answerStatus (q : QueryPayload) (s : State) : Answer :=
  ranged q (0, 0) (0, 0) (.ok s.statusWords)

/-- QUERY_STATUS. -/
def execQueryStatus (origin : Station) (query : QueryPayload) (s : State) : Out :=
  .next (s.query origin 1 query (answerStatus query))

/-- The two words of CAUSE. -/
def State.causeWords (s : State) (c : Cause) : List Word :=
  let f := s.causeField c
  let action : BitVec 2 := BitVec.ofNat 2 (s.actionOf c).code
  let count : Byte := BitVec.ofNat 8 f.count
  [BitVec.ofBool f.present ++ BitVec.ofBool f.latched ++ action ++ 0#4 ++ count, word (s.cause.actions.level c)]

/-- The cause of a code 1 to 24. -/
def causeOfCode (code : Nat) : Cause :=
  Cause.all.getD (code - 1) .overcurrent

/-- CAUSE, R159. -/
def answerCause (q : QueryPayload) (s : State) : Answer :=
  ranged q (1, 24) (0, 0) (.ok (s.causeWords (causeOfCode q.index.toNat)))

/-- QUERY_CAUSE. -/
def execQueryCause (origin : Station) (query : QueryPayload) (s : State) : Out :=
  .next (s.query origin 2 query (answerCause query))

/-- PEER, sub-index 0. -/
def PeerEntry.words (e : PeerEntry) : List Word :=
  let kind : BitVec 2 := BitVec.ofNat 2 e.kind.code
  let entry : BitVec 2 := BitVec.ofNat 2 e.entry.code
  let silence : BitVec 4 := BitVec.ofNat 4 e.silence
  [kind ++ entry ++ BitVec.ofBool e.foreign ++ BitVec.ofBool e.share.isSome ++ 0#6 ++ silence, word e.nonRunning,
   word e.heard]

/-- A part of an entry, R158, R159. -/
def PeerEntry.part (e : PeerEntry) (sub : Nat) : Answer :=
  match sub with
  | 0 => .ok e.words
  | 1 => match e.share with
    | some p => .ok (p.words.take 6)
    | none => .absent []
  | _ => match e.share with
    | some p => .ok (p.words.drop 6)
    | none => .absent []

/-- PEER, R159. -/
def answerPeer (q : QueryPayload) (s : State) : Answer :=
  ranged q (0, 7) (0, 2) ((s.entry (Fin.ofNat 8 q.index.toNat)).part q.sub.toNat)

/-- QUERY_PEER. -/
def execQueryPeer (origin : Station) (query : QueryPayload) (s : State) : Out :=
  .next (s.query origin 3 query (answerPeer query))

/-- Bit c set when contributor c applies. -/
def State.applyBits (s : State) : Byte :=
  BitVec.ofNat 8 ((Contributor.all.map fun c => if s.applies c then 2 ^ c.code else 0).sum)

/-- The three parts of ALLOWANCE. A percentage above 65535, which an upset capacity can give (log 9), does not fit the
last word of part 1: its low 16 bits are sent, the model's choice (log 47). -/
def State.allowanceWords (s : State) (index : Nat) : List Word :=
  match index with
  | 0 => [word s.limiter.rated, word s.limiter.stageValue, word s.limiter.bandValue, word s.limiter.creepCap,
          word s.limiter.ceiling, word s.limiter.overloadValue]
  | 1 =>
    let limiting : BitVec 3 := BitVec.ofNat 3 s.limiter.limiting.code
    let band : BitVec 2 := BitVec.ofNat 2 s.limiter.band.val
    [word s.vib.allowance, word s.limiter.clamp.level, word s.limiter.allowance,
     limiting ++ band ++ 0#3 ++ s.applyBits, word s.overloadPercent]
  | _ =>
    let c := s.limiter.clamp
    let origin : BitVec 3 := BitVec.ofNat 3 c.origin.val
    [BitVec.ofBool c.active ++ 0#4 ++ origin ++ 0#3 ++ c.causeCode, word c.level, word c.remaining]

/-- ALLOWANCE, R159. -/
def answerAllowance (q : QueryPayload) (s : State) : Answer :=
  ranged q (0, 2) (0, 0) (.ok (s.allowanceWords q.index.toNat))

/-- QUERY_ALLOWANCE. -/
def execQueryAllowance (origin : Station) (query : QueryPayload) (s : State) : Out :=
  .next (s.query origin 4 query (answerAllowance query))

/-- The nine counters in the order of R156. -/
def LinkCounters.words (k : LinkCounters) : List Word :=
  [word k.receivedValid, word k.checkErrors, word k.framingErrors, word k.arbitrationLosses, word k.echoFaults,
   word k.shareOvertaken, word k.repliesDropped, word k.staleTrips, word k.wrongSenderKind]

/-- The counters of a part, R159. -/
def LinkCounters.part (k : LinkCounters) (index : Nat) : List Word :=
  if index = 0 then k.words.take 6 else k.words.drop 6

/-- COUNTERS, R159. -/
def answerCounters (q : QueryPayload) (s : State) : Answer :=
  ranged q (0, 1) (0, 0) (.ok (s.link.counters.part q.index.toNat))

/-- QUERY_COUNTERS. -/
def execQueryCounters (origin : Station) (query : QueryPayload) (s : State) : Out :=
  .next (s.query origin 5 query (answerCounters query))

/-- One of the three parts of a history entry, R160. -/
def HistoryEntry.part (e : HistoryEntry) (part : Nat) : List Word :=
  match part with
  | 0 =>
    let st : BitVec 4 := BitVec.ofNat 4 e.state.code
    let limiting : BitVec 3 := BitVec.ofNat 3 e.limiting.code
    longWords e.timeMark ++ [st ++ 0#9 ++ limiting, word e.speed]
  | 1 => [signedWord e.feedback, word e.reference, word e.allowance]
  | _ => [word e.vibRms, word e.vibPeak]

/-- A ring position, R160. -/
def ringPart (ring : List HistoryEntry) (position part : Nat) : Answer :=
  match ring[position]? with
  | some e => .ok (e.part part)
  | none => .absent []

/-- HISTORY, R160. -/
def answerHistory (q : QueryPayload) (s : State) : Answer :=
  ranged q (0, 47) (0, 2) (ringPart s.records.ring q.index.toNat q.sub.toNat)

/-- QUERY_HISTORY. -/
def execQueryHistory (origin : Station) (query : QueryPayload) (s : State) : Out :=
  .next (s.query origin 10 query (answerHistory query))

/-- The trip number, 0 while pending, and the low 16 bits of the serial, R161. -/
def TripRecord.ident (r : TripRecord) : List Word :=
  [r.number.getD 0, word r.serial]

/-- A record item's answer: ABSENT without data for an EMPTY slot; the number and serial before what it reports (R158,
R161). `none` is a part that is not filled. -/
def recordAnswer (r : Option TripRecord) (part : TripRecord → Option (List Word)) : Answer :=
  match r with
  | none => .absent []
  | some r => match part r with
    | some d => .ok (r.ident ++ d)
    | none => .absent r.ident

/-- The slot a QUERY names. -/
def State.slot (s : State) (index : Nat) : Option TripRecord :=
  s.records.slots.get (Fin.ofNat 8 index)

/-- A record position: the history below 48, then the tail (R160). -/
def TripRecord.entryAt (r : TripRecord) (position : Nat) : Option HistoryEntry :=
  if position < 48 then r.history[position]? else r.tail[position - 48]?

/-- RECORD_ENTRY, R160. -/
def answerRecordEntry (q : QueryPayload) (s : State) : Answer :=
  ranged q (0, 7) (0, 191) (recordAnswer (s.slot q.index.toNat) fun r =>
    (r.entryAt (q.sub.toNat % 64)).map fun e => e.part (q.sub.toNat / 64))

/-- QUERY_RECORD_ENTRY. -/
def execQueryRecordEntry (origin : Station) (query : QueryPayload) (s : State) : Out :=
  .next (s.query origin 9 query (answerRecordEntry query))

/-- Slot state codes of a record: 1 FILLING, 2 CLOSED. -/
def TripRecord.slotCode (r : TripRecord) : Nat :=
  if r.closed then 2 else 1

/-- Origin codes: a station, or 8 for UNKNOWN. -/
def originCode (o : Option Station) : Nat :=
  match o with
  | some n => n.val
  | none => 8

/-- The parts of RECORD_HEAD after the number and serial. A SURGE detail above 32767, which R130 admits, does not fit the
signed word of section 11.5: its low 16 bits are sent, the model's choice (log 47). -/
def TripRecord.headWords (r : TripRecord) (sub : Nat) : List Word :=
  match sub with
  | 0 =>
    let slot : BitVec 2 := BitVec.ofNat 2 r.slotCode
    let part : BitVec 2 := BitVec.ofNat 2 r.ownPart.code
    let origin : BitVec 4 := BitVec.ofNat 4 (originCode r.origin)
    let cause : Byte := BitVec.ofNat 8 r.firstCause.code
    let st : BitVec 4 := BitVec.ofNat 4 r.stateAtTrip.code
    let history : BitVec 6 := BitVec.ofNat 6 r.history.length
    let tail : BitVec 5 := BitVec.ofNat 5 r.tail.length
    let cos : BitVec 3 := BitVec.ofNat 3 r.coOrigins.length
    [slot ++ BitVec.ofBool r.keep ++ part ++ origin ++ BitVec.ofBool r.confirmed ++ BitVec.ofBool r.tailCut ++ 0#5,
     cause ++ 0#4 ++ st, signedWord r.detail, history ++ tail ++ 0#2 ++ cos]
  | _ =>
    let held : BitVec 3 := BitVec.ofNat 3 r.subsequent.length
    let overflow : Byte := BitVec.ofNat 8 r.overflow
    longWords r.timeMark ++ [0#5 ++ held ++ overflow]

/-- RECORD_HEAD, R161. -/
def answerRecordHead (q : QueryPayload) (s : State) : Answer :=
  ranged q (0, 7) (0, 1) (recordAnswer (s.slot q.index.toNat) fun r => some (r.headWords q.sub.toNat))

/-- QUERY_RECORD_HEAD. -/
def execQueryRecordHead (origin : Station) (query : QueryPayload) (s : State) : Out :=
  .next (s.query origin 6 query (answerRecordHead query))

/-- The parts of RECORD_SNAP after the number and serial. A percentage above 100, which only an upset capacity gives
(log 9), does not fit its field of seven bits when it is above 127: its low seven bits are sent, the model's choice
(log 47). -/
def Snapshot.words (x : Snapshot) (sub : Nat) : List Word :=
  match sub with
  | 0 => [signedWord x.feedback, word x.reference, word x.allowance, word x.speed]
  | _ =>
    let limiting : BitVec 3 := BitVec.ofNat 3 x.limiting.code
    let stage : BitVec 2 := BitVec.ofNat 2 x.stage
    let percent : BitVec 7 := BitVec.ofNat 7 x.overloadPercent
    [word x.vibRms, word x.vibPeak, limiting ++ stage ++ 0#4 ++ percent]

/-- RECORD_SNAP, R161. -/
def answerRecordSnap (q : QueryPayload) (s : State) : Answer :=
  ranged q (0, 7) (0, 1) (recordAnswer (s.slot q.index.toNat) fun r => some (r.snapshot.words q.sub.toNat))

/-- QUERY_RECORD_SNAP. -/
def execQueryRecordSnap (origin : Station) (query : QueryPayload) (s : State) : Out :=
  .next (s.query origin 7 query (answerRecordSnap query))

/-- A co-origin entry as a byte: station and cause code (the low five bits of the code received, log 31). -/
def CoOrigin.byte (c : CoOrigin) : Byte :=
  let station : BitVec 3 := BitVec.ofNat 3 c.station.val
  station ++ c.causeCode.extractLsb' 0 5

/-- Two bytes of a list as a word, entry `i` in the high byte; unused entries 0. -/
def bytePair (bytes : List Byte) (i : Nat) : Word :=
  bytes.getD i 0 ++ bytes.getD (i + 1) 0

/-- A subsequent cause in full, R161. -/
def Subsequent.words (x : Subsequent) : List Word :=
  [word x.cause.code, word x.offset, x.number.getD 0]

/-- The parts of RECORD_LIST after the number and serial; none for an entry beyond those held. -/
def TripRecord.listWords (r : TripRecord) (sub : Nat) : Option (List Word) :=
  match sub with
  | 0 =>
    let bytes := r.coOrigins.map CoOrigin.byte
    some [bytePair bytes 0, bytePair bytes 2, bytePair bytes 4, bytes.getD 6 0 ++ 0#8]
  | 1 =>
    let bytes := r.subsequent.map fun x => (BitVec.ofNat 8 x.cause.code : Byte)
    some [bytePair bytes 0, bytePair bytes 2]
  | n + 2 => (r.subsequent[n]?).map Subsequent.words

/-- RECORD_LIST, R161. -/
def answerRecordList (q : QueryPayload) (s : State) : Answer :=
  ranged q (0, 7) (0, 5) (recordAnswer (s.slot q.index.toNat) fun r => r.listWords q.sub.toNat)

/-- QUERY_RECORD_LIST. -/
def execQueryRecordList (origin : Station) (query : QueryPayload) (s : State) : Out :=
  .next (s.query origin 8 query (answerRecordList query))

/-- QUERY_NO_SUCH_ITEM, R158, R170. -/
def execQueryNoSuchItem (origin : Station) (item : BitVec 4) (query : QueryPayload) (s : State) : Out :=
  .next (s.query origin item query fun _ => .noSuchItem)

end Sys2Proof.Machine
end

