-- ==== Sys2Proof/Machine/Dispatch.lean ====
section
/-!
DEFINITION. One arm per command, each a direct call of its meaning.
-/

namespace Sys2Proof.Machine

/-- The effect of one command on everything but the queue. -/
def exec (i : Instr) (s : State) : Host.Outcome State Fault Refusal :=
  match i with
  | .currentSampleArrival sample => Sys2Proof.Machine.execCurrentSampleArrival sample s
  | .conductionPeriodStart => Sys2Proof.Machine.execConductionPeriodStart s
  | .conductionOnEnd => Sys2Proof.Machine.execConductionOnEnd s
  | .tachEdge edge elapsed => Sys2Proof.Machine.execTachEdge edge elapsed s
  | .standstill => Sys2Proof.Machine.execStandstill s
  | .vibSampleArrival sample stopHigh => Sys2Proof.Machine.execVibSampleArrival sample stopHigh s
  | .vibSilenceExpiry => Sys2Proof.Machine.execVibSilenceExpiry s
  | .patternSample figures => Sys2Proof.Machine.execPatternSample figures s
  | .loopSenseChange othersDrive => Sys2Proof.Machine.execLoopSenseChange othersDrive s
  | .loopWaitExpiry => Sys2Proof.Machine.execLoopWaitExpiry s
  | .clearWindowExpiry => Sys2Proof.Machine.execClearWindowExpiry s
  | .agingExpiry => Sys2Proof.Machine.execAgingExpiry s
  | .shareTimerExpiry => Sys2Proof.Machine.execShareTimerExpiry s
  | .historyTimerExpiry => Sys2Proof.Machine.execHistoryTimerExpiry s
  | .demandTimerExpiry => Sys2Proof.Machine.execDemandTimerExpiry s
  | .startWindowExpiry => Sys2Proof.Machine.execStartWindowExpiry s
  | .stageTimerExpiry => Sys2Proof.Machine.execStageTimerExpiry s
  | .jamTimerExpiry => Sys2Proof.Machine.execJamTimerExpiry s
  | .surgeTimerExpiry => Sys2Proof.Machine.execSurgeTimerExpiry s
  | .clampHoldExpiry => Sys2Proof.Machine.execClampHoldExpiry s
  | .lockoutTimerExpiry => Sys2Proof.Machine.execLockoutTimerExpiry s
  | .localInputEdge input active => Sys2Proof.Machine.execLocalInputEdge input active s
  | .localInputFiltered input => Sys2Proof.Machine.execLocalInputFiltered input s
  | .demandFrame origin demand => Sys2Proof.Machine.execDemandFrame origin demand s
  | .orderSelftest origin order => Sys2Proof.Machine.execOrderSelftest origin order s
  | .orderRestart origin order => Sys2Proof.Machine.execOrderRestart origin order s
  | .clearTrip origin order => Sys2Proof.Machine.execClearTrip origin order s
  | .keepRecord origin order => Sys2Proof.Machine.execKeepRecord origin order s
  | .releaseRecord origin order => Sys2Proof.Machine.execReleaseRecord origin order s
  | .discardRecords origin order => Sys2Proof.Machine.execDiscardRecords origin order s
  | .orderUndefinedKind origin kind order => Sys2Proof.Machine.execOrderUndefinedKind origin kind order s
  | .tripFrame origin trip => Sys2Proof.Machine.execTripFrame origin trip s
  | .clampFrame origin clamp => Sys2Proof.Machine.execClampFrame origin clamp s
  | .shareFrame origin share => Sys2Proof.Machine.execShareFrame origin share s
  | .rollFrame origin roll => Sys2Proof.Machine.execRollFrame origin roll s
  | .replyFrame origin words => Sys2Proof.Machine.execReplyFrame origin words s
  | .queryStatus origin query => Sys2Proof.Machine.execQueryStatus origin query s
  | .queryCause origin query => Sys2Proof.Machine.execQueryCause origin query s
  | .queryPeer origin query => Sys2Proof.Machine.execQueryPeer origin query s
  | .queryAllowance origin query => Sys2Proof.Machine.execQueryAllowance origin query s
  | .queryCounters origin query => Sys2Proof.Machine.execQueryCounters origin query s
  | .queryHistory origin query => Sys2Proof.Machine.execQueryHistory origin query s
  | .queryRecordEntry origin query => Sys2Proof.Machine.execQueryRecordEntry origin query s
  | .queryRecordHead origin query => Sys2Proof.Machine.execQueryRecordHead origin query s
  | .queryRecordSnap origin query => Sys2Proof.Machine.execQueryRecordSnap origin query s
  | .queryRecordList origin query => Sys2Proof.Machine.execQueryRecordList origin query s
  | .queryNoSuchItem origin item query => Sys2Proof.Machine.execQueryNoSuchItem origin item query s
  | .frameDiscard bits => Sys2Proof.Machine.execFrameDiscard bits s
  | .transmitStart start => Sys2Proof.Machine.execTransmitStart s start
  | .arbitrationLoss => Sys2Proof.Machine.execArbitrationLoss s
  | .echoFault => Sys2Proof.Machine.execEchoFault s
  | .transmitSuccess => Sys2Proof.Machine.execTransmitSuccess s
  | .settleTimeExpiry straps => Sys2Proof.Machine.execSettleTimeExpiry straps s
  | .parameterReadComplete bytes => Sys2Proof.Machine.execParameterReadComplete bytes s
  | .guardTimerExpiry => Sys2Proof.Machine.execGuardTimerExpiry s
  | .settingsUpset index value => Sys2Proof.Machine.execSettingsUpset index value s
  | .supplyLevelCrossing millivolts => Sys2Proof.Machine.execSupplyLevelCrossing millivolts s
  | .resetLinePulse lowMicroseconds => Sys2Proof.Machine.execResetLinePulse lowMicroseconds s
  | .brownOut => Sys2Proof.Machine.execBrownOut s
  | .brownOutEnd millivolts => Sys2Proof.Machine.execBrownOutEnd millivolts s
  | .clockLoss => Sys2Proof.Machine.execClockLoss s
  | .clockReturn => Sys2Proof.Machine.execClockReturn s

end Sys2Proof.Machine
end

