-- ==== Sys2Proof/Safety.lean ====
section
/-!
DEFINITION. The invariants of the block, as predicates on State: outputs (R20, R53, R62, R118, R167), the allowance
(R68, R69), the participant list (R17), the peer table (R2, R7), the vibration accumulators (R92, R93, R102), the
records and the trip context (R117, R128, R130 to R132, R137, R139).
-/

namespace Sys2Proof.Machine

/-- The regulator at the values of a blocked converter, R62. -/
def Regulator.isBlocked (r : Regulator) : Prop :=
  r.setpoint = 0 ∧ r.integral = 0 ∧ r.demand = 0 ∧ r.reference = 0 ∧ r.currentIntegral = 0 ∧ r.conduction = 0

/-- The generator showing the off level with no demand in hand, R53, R62. -/
def Generator.isBlocked (g : Generator) : Prop :=
  g.phase = .off ∧ g.demand = 0

/-- The part as it is held in reset, R167. -/
def State.Held (s : State) : Prop :=
  s.st = .loading ∧ s.link = .reset ∧ s.timers = .stopped ∧ s.loader.step = .settling ∧ s.loader.settings = none
    ∧ s.limiter.clamp.active = false
    ∧ s.lines = { Lines.released with loopDrive := s.monitor.clockLost && !s.monitor.supplyHeld }

/-- The output lines follow the state (R20), but while the part is held in reset (R167); while CONV_EN is inactive the
regulator and the generator are blocked (R53, R62). -/
def State.OutputsOk (s : State) : Prop :=
  (s.inReset = false → s.lines = s.st.lines) ∧ (s.inReset = true → s.Held)
    ∧ (s.lines.convEn = false → s.reg.isBlocked ∧ s.gen.isBlocked)

/-- The allowance and the limiting contributor are those of R68 for the values held. -/
def State.AllowanceOk (s : State) : Prop :=
  s.limiter.limiting = s.limitingNow ∧ s.limiter.allowance = s.contributorValue s.limitingNow

/-- The participant list is the one that a re-evaluation would give, R17. -/
def State.ParticipantsOk (s : State) : Prop :=
  s.peers.participants = s.participantsNow

/-- The entry state goes with the silence count, R7. -/
def PeerEntry.Ok (e : PeerEntry) : Prop :=
  match e.entry with
  | .absent => True
  | .present => e.silence ≤ 2
  | .silent => 3 ≤ e.silence ∧ e.silence ≤ 9
  | .lost => e.silence = 10

/-- The own entry from entry to JOINING on, R2. -/
def PeerEntry.OwnOk (e : PeerEntry) : Prop :=
  e.kind = .drive ∧ e.entry = .present ∧ e.foreign = false ∧ e.silence = 0 ∧ e.nonRunning = 0

/-- Every entry is as R7 leaves it, and the own entry as R2 states while the blocks run. -/
def State.PeersOk (s : State) : Prop :=
  (∀ n, (s.entry n).Ok) ∧ (s.st.blocksRun = true → (s.entry s.loader.station).OwnOk)

/-- A co-origin list holds each station at most once and never the origin; none while the origin is not confirmed
(R113, R117). -/
def coOriginsOk (origin : Option Station) (confirmed : Bool) (list : List CoOrigin) : Prop :=
  (list.map (·.station)).Nodup ∧ (∀ o, origin = some o → o ∉ list.map (·.station))
    ∧ (confirmed = false → list = [])

/-- A trip context as R113, R117 and R119 leave it. -/
def TripContext.Ok (ctx : TripContext) : Prop :=
  coOriginsOk ctx.origin ctx.confirmed ctx.coOrigins ∧ (ctx.number = none → ctx.confirmed = false)

/-- A record of the table: R130, R131, R136, R137. -/
def TripRecord.Ok (counter : Nat) (r : TripRecord) : Prop :=
  r.history.length ≤ 48 ∧ r.tail.length ≤ 16 ∧ (r.closed = false → r.tail.length < 16)
    ∧ (r.closed = true → r.tail.length < 16 → r.tailCut = true)
    ∧ r.subsequent.length ≤ 4 ∧ r.overflow ≤ 255 ∧ 1 ≤ r.serial ∧ r.serial ≤ counter
    ∧ coOriginsOk r.origin r.confirmed r.coOrigins

/-- The store: R128, R131, R132, R137, R139. A FILLING record is the current record, so there is at most one. -/
def RecordStore.Ok (r : RecordStore) : Prop :=
  r.ring.length ≤ 48 ∧ r.serial ≤ 4294967295
    ∧ (∀ i x, r.slots.get i = some x → x.Ok r.serial)
    ∧ (∀ i x, r.slots.get i = some x → x.closed = false → r.current = some i)
    ∧ (∀ i, r.current = some i → (r.slots.get i).isSome = true)
    ∧ keptCount r.slots ≤ 4

/-- The records and the trip context. -/
def State.RecordsOk (s : State) : Prop :=
  s.records.Ok ∧ ∀ ctx, s.cause.context = some ctx → ctx.Ok

/-- An open window of `n` samples none of which is larger than `top` in magnitude, R93. -/
def VibWatch.WindowOk (top : Nat) (v : VibWatch) : Prop :=
  v.sumSquares ≤ v.count * (top * top) ∧ v.peak ≤ top

/-- The accumulators of the vibration watch, R92, R93, R102: at most 255 samples in the open window, so that the sum of
squares has a bound of its own. In an evaluating state they are external samples, at most 32768 in magnitude; in SELFTEST
pattern samples, at most the amplitude, which settings altered by an upset can bring to 65535 and an eighth of it (log 9);
in every other state the window is empty. -/
def State.VibrationOk (s : State) : Prop :=
  s.vib.count ≤ 255 ∧ s.vib.patternCount ≤ 255 ∧ s.vib.amplitude ≤ 73726
    ∧ (s.st.evaluating = true → s.vib.WindowOk 32768)
    ∧ (s.st = .selftest → s.vib.count = s.vib.patternCount ∧ s.vib.WindowOk s.vib.amplitude)
    ∧ (s.st.evaluating = false → s.st ≠ .selftest →
        s.vib.count = 0 ∧ s.vib.sumSquares = 0 ∧ s.vib.peak = 0)
    ∧ (s.st ≠ .selftest → s.vib.patternCount = 0)

/-- `u` is the state in which a frame of another station reaches its owner: the controller receives (R143), the frame has
been counted, the sender's entry refreshed, and the frame is not withheld (R3, R151, R152). -/
def State.Reaches (s u : State) (origin : Station) (cls : BitVec 3) : Prop :=
  s.link.active = true ∧ s.link.listening = true ∧ origin ≠ s.loader.station ∧ u = s.countValid.refreshPeer origin cls
    ∧ withheld cls (u.entry origin).kind = false

/-- The state entered by a trip entry, table of R115. -/
def tripTarget (st : StationState) (standstill : Bool) : StationState :=
  if st = .selftest ∨ standstill = true then .tripped else .tripDecel

/-- A tripped station: the converter blocked and disabled, the loop driven (R20, R53, R62, R115). -/
def State.Stopped (s : State) : Prop :=
  s.lines.convEn = false ∧ s.lines.loopDrive = true ∧ s.reg.isBlocked ∧ s.gen.isBlocked

/-- A SHARE of a participant that stays one, with nothing else to act on at its arrival: the participant list and its
count stay as they are, enough for CREEP, and no other participant is out of step (R16, R17, R31, R35, R36). -/
def State.ShareKeepsGroup (s : State) (origin : Station) (p : SharePayload) : Prop :=
  s.ParticipantsOk ∧ origin ∈ s.peers.participants ∧ p.signature = s.cfg.signature ∧ p.notReady = false
    ∧ shareShows p StationState.participating = true ∧ s.cfg.minCreep ≤ s.count
    ∧ ∀ n ∈ s.peers.participants, n ≠ origin → (s.entry n).nonRunning < 2

/-- Which conditions stand at the end of joining (R8, R9, R50, R57, R66, R73, R109, R150, R165, R168); the other causes
are present only from an event after it. -/
def State.Stands (s : State) : Cause → Prop
  | .overcurrent => s.reg.overCurrent = true
  | .sampleLoss => s.reg.missCount = 3
  | .overspeed => s.cfg.overspeedLimit < s.speed.speed
  | .overload => s.limiter.limit = true
  | .peerSilent => ∃ n, n ≠ s.loader.station ∧ (s.entry n).kind = .drive ∧ (s.entry n).foreign = false
      ∧ (s.entry n).entry = .silent
  | .peerLost => ∃ n, n ≠ s.loader.station ∧ (s.entry n).kind = .drive ∧ (s.entry n).foreign = false
      ∧ (s.entry n).entry = .lost
  | .foreignPeer => ∃ n, (s.entry n).foreign = true
  | .localStop => s.seq.lstop = true
  | .linkTransmit => s.link.faultClass ≠ none
  | .settingsGuard => s.loader.guardFound ≠ none
  | .supplyLow => s.monitor.supplyLow = true
  | .vibTrip | .vibAlert | .vibInput | .jam | .noBreakaway | .surge | .outOfStep | .groupShort | .demandLoss
  | .peerTrip | .loop | .duplicate | .selftestFail => False

/-- The detail value of a TRIP-action cause that stands at the end of joining, as its block then holds it (R57, R150,
R165, R168); a cause whose rule states none gives 0 (R133; log 25). -/
def State.standingDetail (s : State) : Cause → Int
  | .overcurrent => s.reg.sample.toInt
  | .linkTransmit => (s.link.faultClass.getD 0 : Nat)
  | .settingsGuard => ((s.loader.guardFound.getD 0).toNat : Nat)
  | .supplyLow => s.cfg.supplyStep
  | _ => 0

/-- The CLAMP frame of a cause, R112. -/
def State.clampOf (s : State) (c : Cause) : ClampPayload :=
  { level := BitVec.ofNat 16 (s.cause.actions.level c), hold := BitVec.ofNat 16 s.cfg.clampHold,
    causeCode := BitVec.ofNat 5 c.code }

/-- Whether a CLAMP of this station's own is ignored, R85: a foreign origin, hold 0, or a level above the active one. -/
def State.IgnoresOwnClamp (s : State) (p : ClampPayload) : Prop :=
  (s.entry s.loader.station).foreign = true ∨ p.hold = 0
    ∨ (s.limiter.clamp.active = true ∧ s.limiter.clamp.level < p.level.toNat)

/-- The clamp record that a CLAMP of this station's own makes where it is installed, R85. -/
def State.ownClamp (s : State) (p : ClampPayload) : ClampRecord :=
  { active := true, level := p.level.toNat, origin := s.loader.station, causeCode := p.causeCode,
    remaining := p.hold.toNat, remainingUs := 0 }

/-- A SHARE that calls for following where G is `g`, R121: without the foreign mark, TRIP_DECEL or TRIPPED, a newer
number. -/
def State.CallsFrom (s : State) (g : Word) (p : SharePayload) : Prop :=
  p.signature = s.cfg.signature ∧ (p.state = 9 ∨ p.state = 10) ∧ newer p.g g = true

/-- The state in which a frame of another station has been counted and `e` is its sender's entry, before anything is
made of it (R3 to R5, R9, R151). -/
def State.withEntry (s : State) (origin : Station) (e : PeerEntry) : State :=
  { s with
    link := { s.link with
      idle := 6, bitMicros := 0, abortBits := 0, lineBusy := false
      counters := { s.link.counters with receivedValid := min 65535 (s.link.counters.receivedValid + 1) } }
    peers := { s.peers with entries := s.peers.entries.set origin e } }

/-- The answer of an item code, section 11.1. -/
def answerOf (item : BitVec 4) (q : QueryPayload) (s : State) : Answer :=
  match item.toNat with
  | 1 => answerStatus q s
  | 2 => answerCause q s
  | 3 => answerPeer q s
  | 4 => answerAllowance q s
  | 5 => answerCounters q s
  | 6 => answerRecordHead q s
  | 7 => answerRecordSnap q s
  | 8 => answerRecordList q s
  | 9 => answerRecordEntry q s
  | 10 => answerHistory q s
  | _ => .noSuchItem

end Sys2Proof.Machine
end

