-- ==== Sys2Proof/Certificates/Slice0/Obligations.lean ====
section
/-!
DEFINITION. The statements for the provers. A statement about a command says which next state exec answers, for every
state and operands that meet its hypotheses; where the next state is written as a record update of the old one, every
part that the update does not name is unchanged. Numbers of assumption-log entries stand where a statement rests on one.
-/

open Sys2Proof Sys2Proof.Machine

/-- One step runs the command at the front of the queue on the queue's rest (log 1). -/
def Obligations.StepRunsFrontCommand : Prop :=
  ∀ (c : Instr) (rest : List Instr) (s : State),
    step { s with pending := c :: rest } = exec c { s with pending := rest }

/-- On an empty queue a step takes one of the block's own events that is due, and with none due 1 µs passes (the model's
choice, log 2; which of several is taken is left free, log 5; a timer that restarts at 0 after an upset is due again at
once, log 48). What the passing of `n` µs changes, each amount spelled out: the time mark (R162), every running timer,
the jam timer (R80), the capture timer held at overflow (R45), the place in the carrier period (R51), the remaining hold
(R85) and the bits of the line (R143, R147): while this station sends no frame and no frame of another station is on the
line, the abort mark is completed first (R149), every further bit is counted as recessive up to 10, and at 10 the
controller listens (frames of others begin and end at commands, log 12); nothing while the part is held in reset (R167).
Time passes in amounts that add up. How time passes is the model's choice (log 2). Which own events are due, each once:
the period start when the place in the carrier period has reached the period (R51), the end of the on-count when the
place has reached it and an off-count follows (R52; log 38), STANDSTILL when the capture timer has reached the
standstill time with the flag clear (R48), the expiry of each timer that stands at 0, the jam timer's at the jam time
(R81), the clamp hold's with no ms remaining (R85), a filtered input's when its 10 ms are over (R38), and the start bit
of a pending frame at idle where a bit time begins (R147). -/
def Obligations.IdleStepLetsTimePass : Prop :=
  (∀ s : State, s.pending = [] →
     (s.dueEvents = [] → step s = .next (s.elapse 1))
     ∧ (∀ c, s.dueEvents = [c] → step s = exec c s)
     ∧ (2 ≤ s.dueEvents.length → ∃ c ∈ s.dueEvents, step s = exec c { s with free := s.free + 1 }))
  ∧ (∀ s : State, s.dueEvents.Nodup ∧ ∀ c : Instr, c ∈ s.dueEvents ↔
       (c = .conductionPeriodStart ∧ s.st.blocksRun = true ∧ ∃ p, s.gen.period = some p ∧ p ≤ s.gen.position)
       ∨ (c = .conductionOnEnd ∧ s.gen.phase = .on ∧ s.gen.onCount ≤ s.gen.position ∧ 0 < s.gen.offCount)
       ∨ (c = .standstill ∧ s.st.blocksRun = true ∧ s.speed.standstill = false
           ∧ s.cfg.standstillTime * 1000 ≤ s.speed.capture)
       ∨ (c = .vibSilenceExpiry ∧ s.timers.silence = some 0) ∨ (c = .patternSample none ∧ s.timers.pattern = some 0)
       ∨ (c = .loopWaitExpiry ∧ s.timers.loopWait = some 0) ∨ (c = .clearWindowExpiry ∧ s.timers.clearWindow = some 0)
       ∨ (c = .agingExpiry ∧ s.timers.aging = some 0) ∨ (c = .shareTimerExpiry ∧ s.timers.share = some 0)
       ∨ (c = .historyTimerExpiry ∧ s.timers.history = some 0) ∨ (c = .demandTimerExpiry ∧ s.timers.demand = some 0)
       ∨ (c = .startWindowExpiry ∧ s.timers.startWindow = some 0) ∨ (c = .stageTimerExpiry ∧ s.timers.stage = some 0)
       ∨ (c = .jamTimerExpiry ∧ ∃ n, s.timers.jam = some n ∧ s.cfg.jamTime * 1000 ≤ n)
       ∨ (c = .surgeTimerExpiry ∧ s.timers.surge = some 0)
       ∨ (c = .clampHoldExpiry ∧ s.limiter.clamp.active = true ∧ s.limiter.clamp.remaining = 0)
       ∨ (c = .lockoutTimerExpiry ∧ s.timers.lockout = some 0)
       ∨ (c = .localInputFiltered .lstop ∧ s.timers.lstopFilter = some 0)
       ∨ (c = .localInputFiltered .maint ∧ s.timers.maintFilter = some 0)
       ∨ (c = .transmitStart .own ∧ s.link.active = true ∧ s.link.mute = false ∧ s.link.transmitter = none
           ∧ s.link.idle = 10 ∧ s.link.bitMicros = 0
           ∧ (s.link.tripSlot ≠ none ∨ s.link.clampSlot ≠ none ∨ s.link.shareSlot ≠ none ∨ s.link.queue ≠ []
              ∨ s.link.rollSlot ≠ none))
       ∨ (c = .settleTimeExpiry s.inputs.straps ∧ s.timers.settle = some 0)
       ∨ (c = .guardTimerExpiry ∧ s.timers.guard = some 0))
  ∧ (∀ (n : Nat) (s : State),
       (s.inReset = true → s.elapse n = s)
       ∧ (s.inReset = false →
           s.elapse n =
             { s with
               clock :=
                 { timeMark := s.clock.timeMark + BitVec.ofNat 32 ((s.clock.micros + n) / 1000),
                   micros := (s.clock.micros + n) % 1000 }
               timers :=
                 { settle := s.timers.settle.map (· - n), guard := s.timers.guard.map (· - n),
                   aging := s.timers.aging.map (· - n), share := s.timers.share.map (· - n),
                   history := s.timers.history.map (· - n), demand := s.timers.demand.map (· - n),
                   startWindow := s.timers.startWindow.map (· - n), lockout := s.timers.lockout.map (· - n),
                   lstopFilter := s.timers.lstopFilter.map (· - n), maintFilter := s.timers.maintFilter.map (· - n),
                   loopWait := s.timers.loopWait.map (· - n), clearWindow := s.timers.clearWindow.map (· - n),
                   stage := s.timers.stage.map (· - n), jam := s.timers.jam.map (· + n),
                   surge := s.timers.surge.map (· - n), silence := s.timers.silence.map (· - n),
                   pattern := s.timers.pattern.map (· - n) }
               speed := { s.speed with
                 capture := if s.st.blocksRun then min 16777215 (s.speed.capture + n) else s.speed.capture }
               gen := { s.gen with position := if s.st.blocksRun then s.gen.position + n else s.gen.position }
               limiter := { s.limiter with clamp :=
                 if s.limiter.clamp.active then
                   { s.limiter.clamp with
                     remaining := s.limiter.clamp.remaining - (s.limiter.clamp.remainingUs + n) / 1000,
                     remainingUs := (s.limiter.clamp.remainingUs + n) % 1000 }
                 else s.limiter.clamp }
               link :=
                 if s.link.active = true ∧ s.link.transmitter = none ∧ s.link.lineBusy = false then
                   let bits := (s.link.bitMicros + n) / s.cfg.bitTime
                   { s.link with
                     bitMicros := (s.link.bitMicros + n) % s.cfg.bitTime
                     abortBits := s.link.abortBits - bits
                     idle := min 10 (s.link.idle + (bits - s.link.abortBits))
                     listening := s.link.listening || decide (10 ≤ s.link.idle + (bits - s.link.abortBits)) }
                 else s.link })
       ∧ (s.cfg.bitRateCode = 0 → s.cfg.bitTime = 4) ∧ (s.cfg.bitRateCode = 1 → s.cfg.bitTime = 2)
       ∧ (s.cfg.bitRateCode = 2 → s.cfg.bitTime = 1)
       ∧ ∀ m, (s.elapse m).elapse n = s.elapse (m + n))

/-- No command faults or is refused, and none touches the queue: the model's own form, for the manual gives the block no
queue (log 1) and no fault, and no reset drops what waits (log 40). A command at an event that has no place changes
nothing: the expiry of a timer or a filter that does not run, of the hold of an inactive clamp record, and the events of
the converter and of the speed unit in LOADING and FAULT_HALT, and standstill with the flag set (log 3); a pattern
sample outside the self-test; a parameter read that start-up does not wait for (log 36); an event of a frame with the
transmitter empty, and a start of one when the line is not idle or a bit is under way (log 12). -/
def Obligations.EveryCommandAnswersNext : Prop :=
  (∀ (c : Instr) (s : State), ∃ t, exec c s = .next t ∧ t.pending = s.pending)
  ∧ ∀ (s : State) (straps : BitVec 3) (figures : Option Figures) (bytes : List Byte),
      (s.timers.settle = none → exec (.settleTimeExpiry straps) s = .next s)
      ∧ (s.timers.guard = none → exec .guardTimerExpiry s = .next s)
      ∧ (s.timers.aging = none → exec .agingExpiry s = .next s)
      ∧ (s.timers.share = none → exec .shareTimerExpiry s = .next s)
      ∧ (s.timers.history = none → exec .historyTimerExpiry s = .next s)
      ∧ (s.timers.demand = none → exec .demandTimerExpiry s = .next s)
      ∧ (s.timers.startWindow = none → exec .startWindowExpiry s = .next s)
      ∧ (s.timers.lockout = none → exec .lockoutTimerExpiry s = .next s)
      ∧ (s.timers.lstopFilter = none → exec (.localInputFiltered .lstop) s = .next s)
      ∧ (s.timers.maintFilter = none → exec (.localInputFiltered .maint) s = .next s)
      ∧ (s.timers.loopWait = none → exec .loopWaitExpiry s = .next s)
      ∧ (s.timers.clearWindow = none → exec .clearWindowExpiry s = .next s)
      ∧ (s.timers.stage = none → exec .stageTimerExpiry s = .next s)
      ∧ (s.timers.jam = none → exec .jamTimerExpiry s = .next s)
      ∧ (s.timers.surge = none → exec .surgeTimerExpiry s = .next s)
      ∧ (s.timers.silence = none → exec .vibSilenceExpiry s = .next s)
      ∧ (s.limiter.clamp.active = false → exec .clampHoldExpiry s = .next s)
      ∧ (s.st ≠ .selftest ∨ s.vib.phase = .none → exec (.patternSample figures) s = .next s)
      ∧ (s.st.blocksRun = false → exec .conductionPeriodStart s = .next s ∧ exec .conductionOnEnd s = .next s
          ∧ exec .standstill s = .next s)
      ∧ (s.speed.standstill = true → exec .standstill s = .next s)
      ∧ (s.st ≠ .loading ∨ s.loader.step ≠ .reading ∨ bytes.length ≠ 130 →
          exec (.parameterReadComplete bytes) s = .next s)
      ∧ (s.link.transmitter = none → exec .arbitrationLoss s = .next s ∧ exec .echoFault s = .next s
          ∧ exec .transmitSuccess s = .next s)
      ∧ (s.link.idle ≠ 10 ∨ s.link.bitMicros ≠ 0 → exec (.transmitStart .own) s = .next s)

/-- The state right after a power-on reset has ended, in the values that the chapters give (R19, R21, R45, R51, R55,
R67, R74, R75, R82, R84, R92, R108, R131, R142, R143, R156, R162, R163). -/
def Obligations.PowerOnState : Prop :=
  let s := State.reset
  (∀ n, s.entry n = { kind := .unknown, entry := .absent, foreign := false, silence := 0, share := none,
                      nonRunning := 0, heard := 0 })
    ∧ s.peers.participants = [] ∧ s.timers.aging = none
    ∧ s.st = .loading ∧ s.seq.intended = .run ∧ s.seq.startMark = none ∧ s.seq.confirmation = []
    ∧ s.timers.startWindow = none ∧ s.timers.demand = none ∧ s.timers.lockout = none
    ∧ s.seq.lstop = false ∧ s.seq.maint = false ∧ s.seq.selftestDone = false ∧ s.seq.lastOutcome = none
    ∧ s.speed = { capture := 16777215, speed := 0, standstill := true, stageEdges := 0 }
    ∧ s.gen.period = none ∧ s.gen.onCount = 0 ∧ s.gen.offCount = 0 ∧ s.gen.phase = .off ∧ s.gen.demand = 0
    ∧ s.condHigh = false
    ∧ s.reg.feedback = 0 ∧ s.reg.speedTarget = 0 ∧ s.reg.setpoint = 0 ∧ s.reg.integral = 0 ∧ s.reg.demand = 0
    ∧ s.reg.prevAllowance = 0 ∧ s.reg.trim = 0 ∧ s.reg.reference = 0 ∧ s.reg.currentIntegral = 0
    ∧ s.reg.conduction = 0 ∧ s.reg.missCount = 0
    ∧ s.limiter.allowance = 0 ∧ s.limiter.limiting = .rated ∧ s.limiter.band = 0 ∧ s.limiter.account = 0
    ∧ s.limiter.limit = false ∧ s.limiter.stage = 0 ∧ s.timers.stage = none ∧ s.timers.jam = none
    ∧ s.limiter.surgeReference = 0 ∧ s.timers.surge = none
    ∧ s.limiter.clamp.active = false ∧ s.limiter.clamp.level = 0 ∧ s.limiter.clamp.origin = 0
    ∧ s.limiter.clamp.causeCode = 0 ∧ s.limiter.clamp.remaining = 0
    ∧ s.vib.count = 0 ∧ s.vib.sumSquares = 0 ∧ s.vib.peak = 0 ∧ s.vib.latestRms = 0 ∧ s.vib.latestPeak = 0
    ∧ s.vib.latestBand = 0 ∧ s.vib.alertCount = 0 ∧ s.vib.tripCount = 0 ∧ s.vib.quietCount = 0
    ∧ s.timers.silence = none ∧ s.vib.phase = .none ∧ s.vib.patternCount = 0 ∧ s.vib.failMark = false
    ∧ (∀ c, s.causeField c = { present := false, latched := false, count := 0 })
    ∧ s.cause.g = 0 ∧ s.cause.context = none ∧ s.cause.clearTag = none
    ∧ s.timers.loopWait = none ∧ s.timers.clearWindow = none
    ∧ s.lines = { convEn := false, brkRel := false, loopDrive := false, fault := false }
    ∧ s.records.ring = [] ∧ (∀ i, s.records.slots.get i = none) ∧ s.records.serial = 0 ∧ s.records.current = none
    ∧ s.timers.history = none
    ∧ s.link.active = false ∧ s.link.idle = 0 ∧ s.link.tripSlot = none ∧ s.link.clampSlot = none
    ∧ s.link.shareSlot = none ∧ s.link.rollSlot = none ∧ s.link.transmitter = none ∧ s.link.queue = []
    ∧ s.link.consecutive = 0 ∧ s.link.mute = false ∧ s.timers.share = none
    ∧ s.link.counters.words = List.replicate 9 0
    ∧ s.loader.settings = none ∧ s.loader.guardWord = 0 ∧ s.timers.guard = none
    ∧ s.loader.resetCause = .powerOn ∧ s.loader.haltMark = false
    ∧ s.timers.settle = some 20000 ∧ s.clock.timeMark = 0

/-- The six invariants hold right after a power-on reset. -/
def Obligations.InvariantsHoldAtPowerOn : Prop :=
  State.reset.OutputsOk ∧ State.reset.AllowanceOk ∧ State.reset.ParticipantsOk ∧ State.reset.PeersOk
    ∧ State.reset.RecordsOk ∧ State.reset.VibrationOk

/-- Every step keeps the output lines as the state gives them (R20, R118, R167) and the converter blocked while CONV_EN
is inactive (R53, R62). -/
def Obligations.StepKeepsOutputs : Prop :=
  ∀ s t : State, s.OutputsOk → step s = .next t → t.OutputsOk

/-- Every step leaves the allowance and the limiting contributor those of the contributors that apply (R68, R69). -/
def Obligations.StepKeepsAllowance : Prop :=
  ∀ s t : State, s.AllowanceOk → step s = .next t → t.AllowanceOk

/-- Every step leaves the participant list the one that the entries and the own state give (R16, R17). -/
def Obligations.StepKeepsParticipants : Prop :=
  ∀ s t : State, s.ParticipantsOk → step s = .next t → t.ParticipantsOk

/-- Every step leaves each entry's state in agreement with its silence count, and the own entry as R2 states. -/
def Obligations.StepKeepsPeers : Prop :=
  ∀ s t : State, s.PeersOk → step s = .next t → t.PeersOk

/-- Every step keeps the record table and the trip context in order: at most one record FILLING and that the current
one, at most four kept, lengths and serials within bounds, co-origin lists without doubles or the origin (R117, R128,
R130 to R132, R136, R137, R139). -/
def Obligations.StepKeepsRecords : Prop :=
  ∀ s t : State, s.RecordsOk → step s = .next t → t.RecordsOk

/-- Every step keeps the accumulators of the vibration watch within their bounds (R92, R93, R101, R102): at most 255
samples in the open window and 255 pattern samples; in an evaluating state a running peak of at most 32768 and a sum of
squares of at most the count times its square; in SELFTEST the same for the pattern amplitude, which settings altered by
an upset can bring to 73726 (log 9); in every other state an empty window. -/
def Obligations.StepKeepsVibration : Prop :=
  ∀ s t : State, s.VibrationOk → step s = .next t → t.VibrationOk

/-- A receiver reads from the line the frame that was sent, whatever follows its last end bit: no field, inserted bit or
check bit is lost (R144 to R146, R151). -/
def Obligations.LineBitsRoundTrip : Prop :=
  ∀ (f : Frame) (rest : List Bool), lengthAllowed f.cls f.words.length = true →
    receive (f.lineBits ++ rest) = .valid f

/-- The frame of every received-frame command, in the layouts of section 11.3, is read back as that command, with every
operand at every value. -/
def Obligations.CommandFrameRoundTrip : Prop :=
  ∀ (c : Instr) (f : Frame), c.wellFormed = true → frameOfCommand c = some f →
    lengthAllowed f.cls f.words.length = true ∧ commandOfFrame f = some c

/-- TACH_EDGE, accepted (R46, R47, R50, R70): the period since the last accepted edge gives the speed, the flag and the
capture timer are cleared, the stage edge count goes up; OVERSPEED and the speed band follow, at every accepted edge,
one that leaves the speed as it was too (log 49). Which edge qualifies is the edge select of section 11.4: 0 RISING, 1
FALLING, 2 BOTH. `elapsed` µs pass before the edge, and an own event of the block that falls due in them is taken at its
instant, before the edge (log 4, log 5), 22 at most at one instant (log 2, log 48). TACH_EDGE outside BREAKAWAY, within
the overspeed limit and without a change of band, changes the speed unit and, outside RUN and CREEP, nothing else (R46,
R47, R50, R70; log 49). TACH_EDGE, ignored: an edge of the other kind, one less than 50 µs after the last accepted edge,
and every edge in LOADING and FAULT_HALT change nothing but what the passing of time changes (R45, R46; log 4). -/
def Obligations.TachEdgeMeasuresSpeed : Prop :=
  ((∀ (edge : Edge) (w : Settings),
     (w.edgeSelect = 0 → (w.edgeQualifies edge = true ↔ edge = .rising))
     ∧ (w.edgeSelect = 1 → (w.edgeQualifies edge = true ↔ edge = .falling))
     ∧ (w.edgeSelect = 2 → w.edgeQualifies edge = true))
   ∧ (∀ (n : Nat) (s : State), s.pass 0 = s ∧ s.pass (n + 1) = ((s.takeDue 22).elapse 1).pass n
     ∧ s.takeDue 0 = s
     ∧ (s.dueEvents = [] → s.takeDue (n + 1) = s)
     ∧ (∀ c t, s.dueEvents = [c] → exec c s = .next t → s.takeDue (n + 1) = t.takeDue n)
     ∧ (2 ≤ s.dueEvents.length → ∃ c ∈ s.dueEvents, ∀ t, exec c { s with free := s.free + 1 } = .next t →
         s.takeDue (n + 1) = t.takeDue n))
   ∧ ∀ (edge : Edge) (elapsed : Nat) (s u : State), u = s.pass elapsed → u.st.blocksRun = true →
     u.cfg.edgeQualifies edge = true → 50 ≤ u.speed.capture →
     ∃ t, exec (.tachEdge edge elapsed) s = .next t
       ∧ t.speed =
           { speed := if u.speed.capture < 16777215 then min 1500 (u.cfg.tachConstant / u.speed.capture)
                      else u.speed.speed,
             standstill := false, capture := 0, stageEdges := min 255 (u.speed.stageEdges + 1) }
       ∧ (u.st.joined = true →
           (t.causeField .overspeed).present = decide (u.cfg.overspeedLimit < t.speed.speed))
       ∧ t.limiter.band = u.cfg.bandOf t.speed.speed
       ∧ t = { t with clock := u.clock, loader := u.loader, monitor := u.monitor, inputs := u.inputs,
                      free := u.free, pending := u.pending })
  ∧ (∀ (edge : Edge) (elapsed v : Nat) (s u : State), u = s.pass elapsed → u.st.joined = true →
       u.cfg.edgeQualifies edge = true → 50 ≤ u.speed.capture → u.st ≠ .breakaway → u.st.cruising = false →
       v = (if u.speed.capture < 16777215 then min 1500 (u.cfg.tachConstant / u.speed.capture) else u.speed.speed) →
       v ≤ u.cfg.overspeedLimit → u.limiter.band = u.cfg.bandOf v →
       exec (.tachEdge edge elapsed) s =
         .next { u with
           speed := { speed := v, standstill := false, capture := 0, stageEdges := min 255 (u.speed.stageEdges + 1) }
           timers := { u.timers with jam := none }
           cause := { u.cause with causes := (u.cause.causes.cease .overspeed).cease .jam } })
  ∧ (∀ (edge : Edge) (elapsed : Nat) (s u : State), u = s.pass elapsed →
       u.st.blocksRun = false ∨ u.cfg.edgeQualifies edge = false ∨ u.speed.capture < 50 →
       exec (.tachEdge edge elapsed) s = .next u)

/-- Rotation in BREAKAWAY (R76, R79, R24, R32): at the rotation edge count the station enters the intended mode, CREEP
for want of participants, the stage goes to 0 and the regulator carries on from the reference as R59 states, with the
allowance recomputed for the state entered, which is the model's reading of R59 (log 16). -/
def Obligations.RotationEndsBreakaway : Prop :=
  ∀ (edge : Edge) (elapsed v : Nat) (s u : State), u = s.pass elapsed → u.st = .breakaway →
    u.cfg.edgeQualifies edge = true → 50 ≤ u.speed.capture → u.cfg.rotationEdges ≤ min 255 (u.speed.stageEdges + 1) →
    v = (if u.speed.capture < 16777215 then min 1500 (u.cfg.tachConstant / u.speed.capture) else u.speed.speed) →
    v ≤ u.cfg.overspeedLimit → u.ParticipantsOk → u.cfg.minCreep ≤ u.count →
    ∃ t, exec (.tachEdge edge elapsed) s = .next t
      ∧ t.st = (if u.seq.intended = .run ∧ u.cfg.minRun ≤ u.count then .run else .creep)
      ∧ t.seq.intended = (if u.seq.intended = .run ∧ u.cfg.minRun ≤ u.count then .run else .creep)
      ∧ t.limiter.stage = 0 ∧ t.timers.stage = none
      ∧ t.reg.setpoint = v * 1000 ∧ t.reg.integral = min u.reg.reference t.limiter.allowance
      ∧ t.reg.demand = t.reg.integral ∧ t.reg.prevAllowance = t.limiter.allowance
      ∧ t.reg.reference = u.reg.reference ∧ t.peers.participants = u.peers.participants

/-- STANDSTILL (R48, R33, R50, R70, R115): the flag is set, the speed is 0 and OVERSPEED ends, and the band is
reselected even where the speed was 0 before (log 49); DECEL goes to STOPPED and TRIP_DECEL to TRIPPED, whose lines
follow; in every other state, JOINING included, nothing outside the speed unit, the band, the allowance, the causes and
the jam timer changes. The capture timer stands at the standstill time at least, the model's reading of the event (log
43); with the flag set, and in LOADING and FAULT_HALT, the event has no place (log 3). -/
def Obligations.StandstillReached : Prop :=
  (∀ s : State, s.st.blocksRun = false ∨ s.speed.standstill = true → exec .standstill s = .next s)
  ∧ ∀ s : State, s.st.blocksRun = true → s.speed.standstill = false →
    ∃ t, exec .standstill s = .next t
      ∧ t.speed =
          { s.speed with capture := min 16777215 (max s.speed.capture (s.cfg.standstillTime * 1000)),
                         speed := 0, standstill := true }
      ∧ (s.st.joined = true → (t.causeField .overspeed).present = false)
      ∧ t.limiter.band = s.cfg.bandOf 0
      ∧ (s.st = .decel → s.inputs.loopOthers = false →
          t.st = .stopped ∧ t.lines = { convEn := false, brkRel := false, loopDrive := false, fault := false })
      ∧ (s.st = .tripDecel →
          t.st = .tripped ∧ t.lines = { convEn := false, brkRel := false, loopDrive := true, fault := true })
      ∧ (s.st ≠ .decel → s.st ≠ .tripDecel →
          t = { s with
            speed := t.speed
            cause := { s.cause with causes := t.cause.causes }
            timers := { s.timers with jam := t.timers.jam }
            limiter := { s.limiter with
              band := t.limiter.band, bandValue := t.limiter.bandValue, allowance := t.limiter.allowance,
              limiting := t.limiter.limiting } })

/-- CURRENT_SAMPLE_ARRIVAL, stages 1 and 2 (R54, R56, R57, R66, R72, R73): F, OVERCURRENT, the overload account and
limit, the answered period, whatever trip the step makes; the allowance of the step is kept and the conduction demand
handed over (log 17). In LOADING and FAULT_HALT the word is discarded. The jam timer starts, runs on or stops by the
conditions of R80 at the step (JAM ends with them, R81), and SURGE rises where F exceeds the surge reference by more
than the threshold, with its action (R83, R111, R112); a step whose OVERCURRENT trips the station is R111's.
CURRENT_SAMPLE_ARRIVAL with the converter disabled and no cause rising: the regulator stays at 0 (R62), the demand
handed is 0, and outside the regulator, the generator, the limiter's figures, the causes and the jam timer nothing
changes. -/
def Obligations.ControlStepTakesSample : Prop :=
  ((∀ (sample : Word) (s : State), s.st.blocksRun = false → exec (.currentSampleArrival sample) s = .next s)
   ∧ ∀ (sample : Word) (s : State), s.st.blocksRun = true →
     ∃ t, exec (.currentSampleArrival sample) s = .next t
       ∧ t.gen.answered = true ∧ t.reg.missCount = 0 ∧ (t.causeField .sampleLoss).present = false
       ∧ t.reg.sample = sample
       ∧ t.reg.feedback = (if sample = 0x8000 then s.reg.feedback else sample.toInt)
       ∧ (s.st.joined = true → (t.causeField .overcurrent).present
             = decide (sample = 0x8000 ∨ (s.cfg.overcurrentLimit : Int) < sample.toInt))
       ∧ (t.limiter.account : Int)
           = max 0 (min ((s.cfg.overloadCapacity * 1000 : Nat) : Int)
               (s.limiter.account + (t.reg.feedback - s.cfg.continuousRating) * s.gen.period.getD 0))
       ∧ t.limiter.limit
           = (if s.limiter.limit then !decide (t.limiter.account < s.cfg.overloadCapacity * 500)
              else decide (t.limiter.account = s.cfg.overloadCapacity * 1000))
       ∧ (s.st.joined = true → (t.causeField .overload).present = t.limiter.limit)
       ∧ t.reg.prevAllowance = t.limiter.allowance ∧ t.gen.demand = t.reg.conduction
       ∧ (t.st.cruising = false → t.timers.jam = none ∧ (t.causeField .jam).present = false)
       ∧ (t.st = s.st → s.st.cruising = true → s.link.mute = false →
           let holds := s.speed.speed < s.cfg.jamSpeed ∧ 0 < t.limiter.allowance
             ∧ (t.limiter.allowance : Int) * 95 ≤ t.reg.feedback * 100
           (¬holds → t.timers.jam = none ∧ (t.causeField .jam).present = false)
           ∧ (holds → t.causeField .jam = s.causeField .jam
               ∧ t.timers.jam = (if s.timers.jam = none ∧ (s.causeField .jam).present = false then some 0
                                 else s.timers.jam)))
       ∧ (s.st.cruising = false → (t.causeField .surge).latched = (s.causeField .surge).latched
           ∧ (t.causeField .surge).count = (s.causeField .surge).count)
       ∧ (s.st.cruising = true → t.reg.overCurrent = false →
           let excess : Int := t.reg.feedback - s.limiter.surgeReference
           let rises := (s.causeField .surge).present = false ∧ (s.cfg.surgeThreshold : Int) < excess
           (¬rises → t.causeField .surge = s.causeField .surge ∧ t.st = s.st)
           ∧ (rises → (t.causeField .surge).latched = true
               ∧ (t.causeField .surge).count = min 255 ((s.causeField .surge).count + 1)
               ∧ (s.cause.actions.surge.action = .trip → t.st = tripTarget s.st s.speed.standstill
                   ∧ (t.causeField .surge).present = false ∧ t.cause.g = successor s.cause.g)
               ∧ (s.cause.actions.surge.action ≠ .trip → t.st = s.st ∧ (t.causeField .surge).present = true)
               ∧ (s.cause.actions.surge.action = .alert → t.link = s.link)
               ∧ (s.cause.actions.surge.action = .clamp → s.link.mute = false → t.link = { s.link with
                   clampSlot := some { level := BitVec.ofNat 16 s.cause.actions.surge.level,
                                       hold := BitVec.ofNat 16 s.cfg.clampHold, causeCode := 10 } })))
       ∧ t = { t with speed := s.speed, clock := s.clock, loader := s.loader, monitor := s.monitor,
                      inputs := s.inputs, free := s.free, pending := s.pending })
  ∧ (∀ (sample : Word) (s : State), s.st.joined = true → s.lines.convEn = false → s.st.cruising = false →
       sample ≠ 0x8000 → sample.toInt ≤ s.cfg.overcurrentLimit →
       ∃ t, exec (.currentSampleArrival sample) s = .next t
         ∧ t.reg = { s.reg with
             sample := sample, overCurrent := false, feedback := sample.toInt, missCount := 0,
             setpoint := 0, integral := 0, demand := 0, reference := 0, currentIntegral := 0, conduction := 0,
             prevAllowance := t.limiter.allowance }
         ∧ t.gen = { s.gen with answered := true, demand := 0 }
         ∧ t = { s with
             reg := t.reg
             gen := t.gen
             limiter := { s.limiter with
               account := t.limiter.account, limit := t.limiter.limit, allowance := t.limiter.allowance,
               limiting := t.limiter.limiting }
             cause := { s.cause with causes := t.cause.causes }
             timers := { s.timers with jam := none } })

/-- Stages 5 to 7 (R60 to R62): after every control step the reference is within the allowance of the step and has risen
by no more than the slew limit; with the converter still enabled it has fallen by no more than the slew limit unless to
the allowance; the conduction demand is within max conduction; with the converter disabled all are 0. -/
def Obligations.ReferenceWithinAllowance : Prop :=
  ∀ (sample : Word) (s : State), s.st.blocksRun = true →
    ∃ t, exec (.currentSampleArrival sample) s = .next t
      ∧ t.reg.reference ≤ t.limiter.allowance
      ∧ t.reg.reference ≤ s.reg.reference + s.cfg.slewLimit
      ∧ (t.lines.convEn = true →
          min t.limiter.allowance (s.reg.reference - s.cfg.slewLimit) ≤ t.reg.reference)
      ∧ t.reg.conduction ≤ s.cfg.maxConduction ∧ t.reg.currentIntegral ≤ s.cfg.maxConduction
      ∧ (t.lines.convEn = false → t.reg.isBlocked ∧ t.gen.demand = 0)

/-- Stages 3 to 6 of a control step that leaves the station in RUN, CREEP or DECEL (R58 to R61, R65): the setpoint's
ramp, the integral, the torque demand, the reference's target with the trim, and the current loop. In BREAKAWAY the
reference moves toward the allowance and the current loop runs, while stages 3 and 4 form nothing. -/
def Obligations.SpeedAndCurrentLoops : Prop :=
  (∀ (sample : Word) (s : State), s.st = .breakaway → s.lines.convEn = true →
    ∃ t, exec (.currentSampleArrival sample) s = .next t ∧ (t.st = s.st →
      let a := t.limiter.allowance
      let ec : Int := t.reg.reference - t.reg.feedback
      t.reg.reference = min a (s.reg.reference + s.cfg.slewLimit)
        ∧ (t.reg.currentIntegral : Int) =
            max 0 (min (s.cfg.maxConduction : Int) (s.reg.currentIntegral + Int.tdiv (s.cfg.kic * ec) 1024))
        ∧ (t.reg.conduction : Int) =
            max 0 (min (s.cfg.maxConduction : Int) (Int.tdiv (s.cfg.kpc * ec) 1024 + t.reg.currentIntegral))
        ∧ t.reg.setpoint = s.reg.setpoint ∧ t.reg.integral = s.reg.integral ∧ t.reg.demand = s.reg.demand
        ∧ t.reg.trim = s.reg.trim))
  ∧ ∀ (sample : Word) (s : State), s.st.regulating = true → s.lines.convEn = true →
    ∃ t, exec (.currentSampleArrival sample) s = .next t ∧ (t.st = s.st →
      let a := t.limiter.allowance
      let target := 1000 * (match s.st with | .run => s.reg.speedTarget | .creep => s.cfg.creepSpeed | _ => 0)
      let up := s.cfg.accelRate * s.gen.period.getD 0 / 1000
      let down := s.cfg.decelRate * s.gen.period.getD 0 / 1000
      let e : Int := ((t.reg.setpoint / 1000 : Nat) : Int) - s.speed.speed
      let inc := Int.tdiv (s.cfg.ki * e) 1024
      let aim : Int := max 0 (min (a : Int) (t.reg.demand + s.reg.trim))
      let ec : Int := t.reg.reference - t.reg.feedback
      t.reg.setpoint =
          (if s.reg.setpoint ≤ target then min target (s.reg.setpoint + up) else max target (s.reg.setpoint - down))
        ∧ (t.reg.integral : Int) =
            max 0 (min (a : Int) (if 0 < inc ∧ s.reg.demand = s.reg.prevAllowance then (s.reg.integral : Int)
                          else s.reg.integral + inc))
        ∧ (t.reg.demand : Int) = max 0 (min (a : Int) (Int.tdiv (s.cfg.kp * e) 1024 + t.reg.integral))
        ∧ (t.reg.reference : Int) =
            min (a : Int) (if (s.reg.reference : Int) ≤ aim then min aim (s.reg.reference + s.cfg.slewLimit)
                           else max aim (s.reg.reference - s.cfg.slewLimit))
        ∧ (t.reg.currentIntegral : Int) =
            max 0 (min (s.cfg.maxConduction : Int) (s.reg.currentIntegral + Int.tdiv (s.cfg.kic * ec) 1024))
        ∧ (t.reg.conduction : Int) =
            max 0 (min (s.cfg.maxConduction : Int) (Int.tdiv (s.cfg.kpc * ec) 1024 + t.reg.currentIntegral))
        ∧ t.reg.trim = s.reg.trim)

/-- CONDUCTION_PERIOD_START (R52, R66): the counts are latched, the strobe issued (one more in the model's own count,
log 39) and the miss test made; the third miss makes SAMPLE_LOSS present, and with fewer nothing outside the generator
and the miss count changes. CONDUCTION_ON_END (R52): the phase becomes OFF; with an off-count of 0 the on level is shown
to the period's end (log 38). -/
def Obligations.CarrierPeriod : Prop :=
  (∀ (s : State) (h missed : Nat), s.st.blocksRun = true →
     h = (if s.lines.convEn then s.gen.demand * s.gen.period.getD 0 / 1000 else 0) →
     missed = (if s.lines.convEn = true ∧ s.gen.answered = false then min 3 (s.reg.missCount + 1) else 0) →
     (missed ≠ 3 → exec .conductionPeriodStart s = .next { s with
         gen := { s.gen with onCount := h, offCount := s.gen.period.getD 0 - h,
                             phase := if h = 0 then .off else .on, position := 0, strobes := s.gen.strobes + 1,
                             answered := false }
         reg := { s.reg with missCount := missed } })
     ∧ (missed = 3 → ∃ t, exec .conductionPeriodStart s = .next t
         ∧ t.gen.onCount = h ∧ t.gen.offCount = s.gen.period.getD 0 - h ∧ t.gen.position = 0
         ∧ t.gen.strobes = s.gen.strobes + 1 ∧ t.gen.answered = false ∧ t.reg.missCount = 3
         ∧ (s.st.joined = true → (t.causeField .sampleLoss).present = true)))
  ∧ (∀ s : State, s.st.blocksRun = true →
       (0 < s.gen.offCount → exec .conductionOnEnd s = .next { s with gen := { s.gen with phase := .off } })
       ∧ (s.gen.offCount = 0 → exec .conductionOnEnd s = .next s))

/-- VIB_SAMPLE_ARRIVAL short of a full window (R91, R93): the silence timer, if it runs, restarts and VIB_INPUT ends; in
an evaluating state the sample enters the window; a word with a low stop bit, and every word in LOADING and FAULT_HALT,
changes nothing. The 256th sample of a window (R94 to R96): the RMS is the integer root of the mean square, the peak and
the band are taken, the alert and the trip counts move, VIB_ALERT and VIB_TRIP follow them, and the window is
emptied. -/
def Obligations.VibrationWindow : Prop :=
  ((∀ (sample : Word) (s heard : State), s.st.blocksRun = true →
       heard = { s with
         timers := { s.timers with silence := s.timers.silence.map fun _ => s.cfg.silenceTime * 1000 }
         cause := { s.cause with causes := s.cause.causes.cease .vibInput } } →
       (s.st.evaluating = false → exec (.vibSampleArrival sample true) s = .next heard)
       ∧ (s.st.evaluating = true → s.vib.count < 255 →
           exec (.vibSampleArrival sample true) s = .next { heard with vib := { s.vib with
             count := s.vib.count + 1
             sumSquares := s.vib.sumSquares + sample.toInt.natAbs ^ 2
             peak := max s.vib.peak sample.toInt.natAbs } }))
   ∧ ∀ (sample : Word) (stopHigh : Bool) (s : State), stopHigh = false ∨ s.st.blocksRun = false →
       exec (.vibSampleArrival sample stopHigh) s = .next s)
  ∧ (∀ (sample : Word) (s : State), s.st.evaluating = true → s.vib.count = 255 → s.VibrationOk →
       ∃ t, exec (.vibSampleArrival sample true) s = .next t
         ∧ t.vib.latestRms ^ 2 ≤ (s.vib.sumSquares + sample.toInt.natAbs ^ 2) / 256
         ∧ (s.vib.sumSquares + sample.toInt.natAbs ^ 2) / 256 < (t.vib.latestRms + 1) ^ 2
         ∧ t.vib.latestPeak = max s.vib.peak sample.toInt.natAbs
         ∧ t.vib.latestBand = s.cfg.bandOf s.speed.speed
         ∧ t.vib.count = 0 ∧ t.vib.sumSquares = 0 ∧ t.vib.peak = 0
         ∧ t.vib.alertCount =
             (if s.cfg.alertRms t.vib.latestBand ≤ t.vib.latestRms
              then min s.cfg.alertPersistence (s.vib.alertCount + 1) else 0)
         ∧ t.vib.tripCount =
             (if s.cfg.tripRms t.vib.latestBand ≤ t.vib.latestRms ∨ s.cfg.tripPeak t.vib.latestBand ≤ t.vib.latestPeak
              then min s.cfg.tripPersistence (s.vib.tripCount + 1) else 0)
         ∧ (t.causeField .vibAlert).present =
             (decide (s.cfg.alertRms t.vib.latestBand ≤ t.vib.latestRms)
               && ((s.causeField .vibAlert).present || t.vib.alertCount == s.cfg.alertPersistence))
         ∧ (t.causeField .vibTrip).present =
             (decide (s.cfg.tripRms t.vib.latestBand ≤ t.vib.latestRms ∨ s.cfg.tripPeak t.vib.latestBand ≤ t.vib.latestPeak)
               && ((s.causeField .vibTrip).present || t.vib.tripCount == s.cfg.tripPersistence))
         ∧ t = { t with speed := s.speed, clock := s.clock, loader := s.loader, monitor := s.monitor,
                        inputs := s.inputs, free := s.free, pending := s.pending })

/-- Part 5 of a window completed in RUN, CREEP or DECEL (R97, R98): one derate step down to the floor while VIB_ALERT is
present, one step back up to the rated ceiling at the last of the recovery windows, the quiet count between. -/
def Obligations.DerateAndRecovery : Prop :=
  ∀ (sample : Word) (s : State), s.st.regulating = true → s.vib.count = 255 →
    ∃ t, exec (.vibSampleArrival sample true) s = .next t ∧ (t.st = s.st →
      (s.cfg.alertRms t.vib.latestBand ≤ t.vib.latestRms →
        t.vib.quietCount = 0
        ∧ t.vib.allowance =
            (if (t.causeField .vibAlert).present then max s.cfg.derateFloor (s.vib.allowance - s.cfg.derateStep)
             else s.vib.allowance))
      ∧ (t.vib.latestRms < s.cfg.alertRms t.vib.latestBand → s.cfg.recoveryWindows ≤ s.vib.quietCount + 1 →
          t.vib.quietCount = 0 ∧ t.vib.allowance = min s.cfg.ratedCeiling (s.vib.allowance + s.cfg.derateStep))
      ∧ (t.vib.latestRms < s.cfg.alertRms t.vib.latestBand → s.vib.quietCount + 1 < s.cfg.recoveryWindows →
          t.vib.quietCount = s.vib.quietCount + 1 ∧ t.vib.allowance = s.vib.allowance))

/-- PATTERN_SAMPLE in SELFTEST (R102): +A and -A in turn, or 0, into the accumulators; the 256th of a high window is
judged by its figures, and on a sound path that has taken A every time it meets its criterion (a faulty path's figures
are the operand, log 27). The end of the self-test (R42, R102, R103, R105): done, SELFTEST_FAIL and the outcome follow
the fail mark and the ZERO window's figures, which on a sound path that has taken only zeros are 0 and 0, and the
station goes to STANDBY when some other participant is starting or running (log 43's reading), else to STOPPED. -/
def Obligations.SelftestPattern : Prop :=
  (∀ (figures : Option Figures) (s : State) (x : Nat), s.st = .selftest → s.vib.phase ≠ .none →
     x = (if s.vib.phase = .zero then 0 else s.vib.amplitude) →
     (s.vib.patternCount < 255 → exec (.patternSample figures) s = .next { s with
         vib := { s.vib with count := s.vib.count + 1, sumSquares := s.vib.sumSquares + x ^ 2,
                             peak := max s.vib.peak x, patternCount := s.vib.patternCount + 1 }
         timers := { s.timers with pattern := some 100 } })
     ∧ (s.vib.patternCount = 255 → s.vib.phase ≠ .zero → ∀ f, figures = some f →
         exec (.patternSample figures) s = .next { s with
           vib := { s.vib with
             count := 0, sumSquares := 0, peak := 0, patternCount := 0
             phase := if s.vib.phase = .high1 then .high2 else .zero
             failMark := s.vib.failMark || !(decide (s.cfg.tripRms 3 ≤ f.rms) && decide (s.cfg.tripPeak 3 ≤ f.peak)) }
           timers := { s.timers with pattern := some 100 } })
     ∧ (s.vib.patternCount = 255 → s.vib.phase ≠ .zero → figures = none → s.vib.amplitude = s.cfg.patternAmplitude →
         s.vib.sumSquares = 255 * s.vib.amplitude ^ 2 → s.vib.peak = s.vib.amplitude →
         exec (.patternSample figures) s = .next { s with
           vib := { s.vib with count := 0, sumSquares := 0, peak := 0, patternCount := 0,
                               phase := if s.vib.phase = .high1 then .high2 else .zero }
           timers := { s.timers with pattern := some 100 } }))
  ∧ (∀ (figures : Option Figures) (f : Figures) (s : State), s.st = .selftest → s.vib.phase = .zero → s.vib.patternCount = 255 →
       s.inputs.loopOthers = false →
       figures = some f ∨ (figures = none ∧ s.vib.sumSquares = 0 ∧ s.vib.peak = 0 ∧ f.rms = 0 ∧ f.peak = 0) →
       ∃ t, exec (.patternSample figures) s = .next t
         ∧ t.seq.selftestDone = true
         ∧ (let passed := s.vib.failMark = false ∧ f.rms = 0 ∧ f.peak = 0
            (passed → t.seq.lastOutcome = some ⟨.order, .selftestPassed, s.seq.selftestTag⟩
               ∧ t.causeField .selftestFail = { s.causeField .selftestFail with present := false, latched := false })
            ∧ (¬passed → t.seq.lastOutcome = some ⟨.order, .selftestFailed, s.seq.selftestTag⟩
               ∧ ((s.causeField .selftestFail).present = true → t.causeField .selftestFail = s.causeField .selftestFail)
               ∧ ((s.causeField .selftestFail).present = false → t.causeField .selftestFail
                   = { present := true, latched := true, count := min 255 ((s.causeField .selftestFail).count + 1) })))
         ∧ t.st = (if s.someOtherShows StationState.startingOrRunning then .standby else .stopped)
         ∧ t.vib.phase = .none ∧ t.vib.count = 0 ∧ t.vib.patternCount = 0 ∧ t.timers.pattern = none)

/-- LOOP_SENSE_CHANGE, the sensed level becoming active where R118 gives a loop trip (R119, R115): the number is
pending, LOOP is latched and counted, the converter is blocked, the loop driven and the loop wait started, and a record
of the values before the trip is opened with its number pending (R132, R133). LOOP_SENSE_CHANGE in CLEARING (R126): the
loop has fallen; the station enters STOPPED, the clear window is stopped and the vibration allowance is the rated
ceiling; G and the trip context stay. LOOP_SENSE_CHANGE where R118 gives no effect: the level alone is noted. -/
def Obligations.LoopSenseChanges : Prop :=
  (∀ s : State, s.st.canTrip = true → s.lines.loopDrive = false → s.inputs.loopOthers = false →
     ∃ t, exec (.loopSenseChange true) s = .next t
       ∧ t.cause.context = some { number := none, origin := none, confirmed := false, ownPart := .follower,
                                  coOrigins := [], stateAtTrip := s.st }
       ∧ t.cause.g = s.cause.g
       ∧ t.causeField .loop = { s.causeField .loop with
           latched := true, count := min 255 ((s.causeField .loop).count + 1) }
       ∧ t.timers.loopWait = some (s.cfg.loopWait * 1000)
       ∧ (s.RecordsOk → ∃ i r, t.records.current = some i ∧ t.records.slots.get i = some r
           ∧ r = { closed := false, keep := false, serial := min 4294967295 (s.records.serial + 1), number := none,
                   origin := none, confirmed := false, ownPart := .follower, coOrigins := [], firstCause := .loop,
                   detail := 0, timeMark := s.clock.timeMark, stateAtTrip := s.st,
                   snapshot :=
                     { feedback := s.reg.feedback, reference := s.reg.reference, allowance := s.limiter.allowance,
                       limiting := s.limiter.limiting, speed := s.speed.speed, vibRms := s.vib.latestRms,
                       vibPeak := s.vib.latestPeak, overloadPercent := s.overloadPercent, stage := s.limiter.stage },
                   subsequent := [], overflow := 0, history := s.records.ring, tail := [], tailCut := false }
           ∧ t.records.serial = min 4294967295 (s.records.serial + 1) ∧ t.records.ring = s.records.ring
           ∧ (∀ j x, j ≠ i → s.records.slots.get j = some x → t.records.slots.get j
                 = some (if x.closed then x else { x with closed := true, tailCut := true })))
       ∧ t.cause.loopFeedback = s.reg.feedback ∧ t.cause.loopSpeed = s.speed.speed
       ∧ t.st = tripTarget s.st s.speed.standstill ∧ t.lines = t.st.lines ∧ t.Stopped
       ∧ t.link = s.link
       ∧ t = { t with speed := s.speed, clock := s.clock, loader := s.loader, monitor := s.monitor,
                      inputs := { s.inputs with loopOthers := true }, free := s.free, pending := s.pending })
  ∧ (∀ s : State, s.st = .clearing → s.lines.loopDrive = false → s.inputs.loopOthers = true →
       ∃ t, exec (.loopSenseChange false) s = .next t
         ∧ t.st = .stopped ∧ t.lines = { convEn := false, brkRel := false, loopDrive := false, fault := false }
         ∧ t.timers.clearWindow = none ∧ t.cause.clearTag = none ∧ t.vib.allowance = s.cfg.ratedCeiling
         ∧ t.vib.quietCount = 0 ∧ t.cause.g = s.cause.g ∧ t.cause.context = s.cause.context ∧ t.records = s.records
         ∧ t.link = s.link ∧ t.seq = { s.seq with station := .stopped })
  ∧ (∀ (othersDrive : Bool) (s : State),
       (s.st.canTrip = false ∧ s.st ≠ .clearing)
         ∨ (s.st = .clearing ∧ othersDrive = true)
         ∨ (s.st.canTrip = true ∧ othersDrive = false)
         ∨ s.lines.loopDrive = true ∨ othersDrive = s.inputs.loopOthers →
       exec (.loopSenseChange othersDrive) s = .next { s with inputs := { s.inputs with loopOthers := othersDrive } })

/-- LOOP_WAIT_EXPIRY (R119): the wait stops and a pending trip takes the successor of G; this station is its origin, not
confirmed, and a TRIP frame with cause LOOP and the values of the loop trip is composed (not while MUTE).
CLEAR_WINDOW_EXPIRY (R126) with the loop still active: back to TRIPPED with the loop driven; CLEAR_INCOMPLETE with the
clear tag; G, the trip context and the latches stay. -/
def Obligations.LoopWaitAndClearWindow : Prop :=
  (∀ (s : State) (ctx : TripContext) (n : Word) (trip : TripPayload), s.timers.loopWait.isSome = true →
     s.cause.context = some ctx → n = successor s.cause.g →
     trip = { number := n, causeCode := 17, stateAtTrip := BitVec.ofNat 4 ctx.stateAtTrip.code,
              feedback := BitVec.ofInt 16 s.cause.loopFeedback, speed := BitVec.ofNat 16 s.cause.loopSpeed } →
     (ctx.number = none → exec .loopWaitExpiry s = .next { s with
         timers := { s.timers with loopWait := none }
         cause := { s.cause with
           g := n
           context := some { ctx with
             number := some n, origin := some s.loader.station, confirmed := false, ownPart := .origin } }
         records := s.records.onCurrent fun r =>
           { r with number := some n, origin := some s.loader.station, confirmed := false, ownPart := .origin,
                    coOrigins := ctx.coOrigins }
         link := { s.link with tripSlot := if s.link.mute then s.link.tripSlot else some trip } })
     ∧ (ctx.number ≠ none →
         exec .loopWaitExpiry s = .next { s with timers := { s.timers with loopWait := none } }))
  ∧ (∀ s : State, s.st = .clearing → s.timers.clearWindow.isSome = true → s.inputs.loopOthers = true →
       ∃ t, exec .clearWindowExpiry s = .next t
         ∧ t.st = .tripped ∧ t.lines = { convEn := false, brkRel := false, loopDrive := true, fault := true }
         ∧ t.timers.clearWindow = none ∧ t.cause.clearTag = none
         ∧ (∀ tag, s.cause.clearTag = some tag → t.seq.lastOutcome = some ⟨.order, .clearIncomplete, tag⟩)
         ∧ t.cause.g = s.cause.g ∧ t.cause.context = s.cause.context ∧ t.records = s.records
         ∧ (∀ c, (t.causeField c).latched = (s.causeField c).latched))

/-- AGING_EXPIRY (R6, R7): every entry but the own and the ABSENT ones counts one more silence, SILENT at 3, LOST at 10,
whatever follows from it; with no entry that changes state, and not in JOINING, nothing else changes, and with one that
does, PEER_SILENT, PEER_LOST and FOREIGN_PEER are presented and the participant list re-evaluated (in this order, log
35). A frame taken after the expiry makes the entry PRESENT with count 0, and an expiry taken after the frame leaves it
PRESENT with 1. What a change of an entry's standing leads to, at an aging expiry and at a frame alike. The peer causes
are presented as the entries stand (R8, R9; the order is the model's, log 35); the participant list is re-evaluated
(R17): in STARTING the confirmation set loses every station that is no participant, TOO_FEW returns to STOPPED and an
emptied set enters BREAKAWAY (R31); a count below min_run makes the mode CREEP (R34, before GROUP_SHORT and OUT_OF_STEP,
log 21); one below min_creep in BREAKAWAY, RUN or CREEP makes GROUP_SHORT trip (R35); a participant with a non-running
count of 2 makes OUT_OF_STEP present (R36); STANDBY is left when no participant is starting or running (R37); in the
other states the list and the trim alone follow. This station's own last SHARE is left out of "some participant", at
entry to BREAKAWAY (R32) and in STANDBY, which is log 43's reading. -/
def Obligations.AgingExpiry : Prop :=
  ((∀ s : State, s.timers.aging.isSome = true →
     ∃ t, exec .agingExpiry s = .next t
       ∧ t.timers.aging = some (s.cfg.sharePeriod * 1000)
       ∧ (∀ n, n ≠ s.loader.station → (s.entry n).entry ≠ .absent →
           (t.entry n).silence = min 10 ((s.entry n).silence + 1)
           ∧ (t.entry n).entry =
               (if (t.entry n).silence = 10 then .lost else if 3 ≤ (t.entry n).silence then .silent
                else (s.entry n).entry))
       ∧ (∀ n, n = s.loader.station ∨ (s.entry n).entry = .absent →
           (t.entry n).silence = (s.entry n).silence ∧ (t.entry n).entry = (s.entry n).entry)
       ∧ ∀ n, (t.entry n).kind = (s.entry n).kind ∧ (t.entry n).foreign = (s.entry n).foreign
           ∧ (t.entry n).heard = (s.entry n).heard)
   ∧ (∀ s : State, s.timers.aging.isSome = true → s.st ≠ .joining →
       (∀ n, n ≠ s.loader.station → (s.entry n).entry = .absent
         ∨ ((s.entry n).entry = .present ∧ (s.entry n).silence < 2)
         ∨ ((s.entry n).entry = .silent ∧ 2 ≤ (s.entry n).silence ∧ (s.entry n).silence < 9)
         ∨ ((s.entry n).entry = .lost ∧ 9 ≤ (s.entry n).silence)) →
       exec .agingExpiry s = .next { s with
         timers := { s.timers with aging := some (s.cfg.sharePeriod * 1000) }
         peers := { s.peers with entries := s.peers.entries.map fun n e =>
           if n = s.loader.station ∨ e.entry = .absent then e
           else { e with silence := min 10 (e.silence + 1) } } })
   ∧ (∀ s u : State, s.timers.aging.isSome = true → s.st ≠ .joining →
       u = { s with
         timers := { s.timers with aging := some (s.cfg.sharePeriod * 1000) }
         peers := { s.peers with entries := s.peers.entries.map fun n e =>
           if n = s.loader.station then e else e.aged } } →
       (∃ n, (u.entry n).entry ≠ (s.entry n).entry) →
       exec .agingExpiry s = .next u.peerCauses.reevaluate)
   ∧ ∀ (cls : BitVec 3) (e : PeerEntry), e.entry ≠ .absent →
       (e.aged.refreshed cls).silence = 0 ∧ (e.aged.refreshed cls).entry = .present
         ∧ (e.refreshed cls).aged.silence = 1 ∧ (e.refreshed cls).aged.entry = .present)
  ∧ ((∀ u : State, u.peerCauses =
       State.present (State.present (u.present .peerSilent
         (decide (∃ n, n ≠ u.loader.station ∧ (u.entry n).kind = .drive ∧ (u.entry n).foreign = false
           ∧ (u.entry n).entry = .silent)) 0)
         .peerLost (decide (∃ n, n ≠ u.loader.station ∧ (u.entry n).kind = .drive ∧ (u.entry n).foreign = false
           ∧ (u.entry n).entry = .lost)) 0)
         .foreignPeer (decide (∃ n, (u.entry n).foreign = true)) 0)
     ∧ (∀ (origin : Station) (cls : BitVec 3) (s u : State),
         u = { s with peers := { s.peers with
           entries := s.peers.entries.set origin ((s.entry origin).refreshed cls) } } →
         s.refreshPeer origin cls =
           (if (u.entry origin).entry ≠ (s.entry origin).entry ∨ (u.entry origin).kind ≠ (s.entry origin).kind
            then u.peerCauses.reevaluate else u))
     ∧ (∀ (s t : State) (ps kept : List Station) (m : Byte), s.st = .starting → t = s.reevaluate →
         ps = s.participantsNow → kept = s.seq.confirmation.filter ps.contains → s.seq.startMark = some m →
         (ps.length ≠ s.count → ps.length < s.cfg.minCreep → s.inputs.loopOthers = false →
           t.st = .stopped ∧ t.seq.confirmation = [] ∧ t.timers.startWindow = none
           ∧ t.seq.lastOutcome = some ⟨.demand, .tooFew, m⟩ ∧ t.seq.startMark = s.seq.startMark)
         ∧ (s.cfg.minCreep ≤ ps.length →
             let substituted := ps.length ≠ s.count ∧ ps.length < s.cfg.minRun ∧ s.seq.intended = .run
             let intended : Mode := if substituted then .creep else s.seq.intended
             let turning := ∃ n ∈ ps, n ≠ s.loader.station ∧ (s.entry n).shows StationState.regulating = true
             t.seq.lastOutcome = (if substituted then some ⟨.demand, .runAsCreep, m⟩ else s.seq.lastOutcome)
             ∧ (kept ≠ [] ∨ s.seq.confirmation = [] → t.st = .starting ∧ t.seq.confirmation = kept
                 ∧ t.seq.intended = intended ∧ t.timers.startWindow = s.timers.startWindow)
             ∧ (kept = [] → s.seq.confirmation ≠ [] →
                 t.seq.confirmation = [] ∧ t.timers.startWindow = none
                 ∧ (¬turning → t.st = .breakaway ∧ t.seq.intended = intended ∧ t.limiter.stage = 1)
                 ∧ (turning → t.st = (if intended = .run ∧ s.cfg.minRun ≤ ps.length then .run else .creep)))))
     ∧ (∀ (s t : State) (ps : List Station) (m : Byte), s.st.driving = true → t = s.reevaluate →
         ps = s.participantsNow → s.seq.startMark = some m → (s.causeField .groupShort).present = false →
         (s.causeField .outOfStep).present = false →
         let changed := ps.length ≠ s.count
         let substituted := changed ∧ ps.length < s.cfg.minRun ∧ s.seq.intended = .run ∧ s.st ≠ .creep
         (s.st = .run → s.seq.intended = .run) →
         t.seq.intended = (if substituted then .creep else s.seq.intended)
         ∧ t.seq.lastOutcome = (if substituted then some ⟨.demand, .runAsCreep, m⟩ else s.seq.lastOutcome)
         ∧ (changed → ps.length < s.cfg.minCreep →
             t.st = tripTarget s.st s.speed.standstill ∧ t.Stopped ∧ t.cause.g = successor s.cause.g
             ∧ t.causeField .groupShort = { present := false, latched := true,
                                            count := min 255 ((s.causeField .groupShort).count + 1) })
         ∧ (¬(changed ∧ ps.length < s.cfg.minCreep) →
             t.causeField .groupShort = s.causeField .groupShort
             ∧ (substituted → s.st = .run → t.st = .creep ∧ (t.causeField .outOfStep).present = false)
             ∧ (¬(substituted ∧ s.st = .run) → ((∀ n ∈ ps, (s.entry n).nonRunning < 2) →
                 t.st = s.st ∧ t.causeField .outOfStep = s.causeField .outOfStep))
             ∧ (¬(substituted ∧ s.st = .run) → (∃ n ∈ ps, 2 ≤ (s.entry n).nonRunning) →
                 (t.causeField .outOfStep).latched = true
                 ∧ (t.causeField .outOfStep).count = min 255 ((s.causeField .outOfStep).count + 1)
                 ∧ (s.cause.actions.outOfStep.action = .trip → t.st = tripTarget s.st s.speed.standstill
                     ∧ (t.causeField .outOfStep).present = false ∧ t.cause.g = successor s.cause.g)
                 ∧ (s.cause.actions.outOfStep.action ≠ .trip → t.st = s.st
                     ∧ (t.causeField .outOfStep).present = true))))
     ∧ (∀ s t : State, s.st.driving = true → t = s.reevaluate → s.participantsNow.length = s.count →
         (∀ n ∈ s.participantsNow, (s.entry n).nonRunning < 2) → (t.causeField .outOfStep).present = false)
     ∧ (∀ (s t : State) (ps : List Station), s.st = .standby → t = s.reevaluate → ps = s.participantsNow →
         s.inputs.loopOthers = false →
         t.st = (if ∃ n ∈ ps, n ≠ s.loader.station ∧ (s.entry n).shows StationState.startingOrRunning = true then .standby
                 else if s.seq.selftestDone = true then .stopped else .selftest))
     ∧ ∀ s t : State, s.st.driving = false → s.st ≠ .starting → s.st ≠ .standby → t = s.reevaluate →
         t = { s with
           peers := { s.peers with participants := s.participantsNow }
           reg := { s.reg with trim := t.reg.trim }
           cause := { s.cause with causes := (s.cause.causes.cease .groupShort).cease .outOfStep } })

/-- AGING_EXPIRY, the first three of JOINING (R13): a ROLL with the values held goes to its slot, not while MUTE.
AGING_EXPIRY, the fourth of JOINING (R13, R15, R129, R155): after the aging, whose result is `u`, the table of R15 gives
the state, the ROLL slot is emptied, the share and history timers start and the first SHARE, which shows that state, is
composed. Then each condition is presented as it stands (R8, R9, R50, R57, R66, R73, R109, R150, R165, R168), and one
that is not yet present rises (R111): it is latched and counted, and presence, latch and count of every other cause stay
but for those that end with a state. With none of action TRIP among them the state stays and no record is opened (R132).
A TRIP-action rise in SELFTEST or STANDBY makes one origin trip (R111, R114, R115, R132, R133), with its TRIP frame (not
while MUTE) and its record, in which the further TRIP-action rises are subsequent causes (R122); in TRIPPED, where there
is no context, it is only latched and counted. A CLAMP-action rise composes its CLAMP, the last composed standing in the
slot (R112), or applies it here while MUTE (R86). That the state is entered and the SHARE composed before the rises is
the model's order (log 24), the detail value is the one that the block then holds (log 25), which of several rises comes
first is left free (log 5), and "some participant" of the STANDBY row is another participant, log 43's reading; that no
loop wait runs after the origin trip is log 43's too. -/
def Obligations.JoiningEnds : Prop :=
  (∀ s : State, s.timers.aging.isSome = true → s.st = .joining → s.peers.joinExpiries < 3 →
     ∃ t, exec .agingExpiry s = .next t
       ∧ t.peers.joinExpiries = s.peers.joinExpiries + 1
       ∧ t = { s with
           timers := { s.timers with aging := some (s.cfg.sharePeriod * 1000) }
           peers := t.peers
           reg := { s.reg with trim := t.reg.trim }
           cause := { s.cause with causes := t.cause.causes }
           link := { s.link with
             rollSlot := if s.link.mute then s.link.rollSlot
               else some { signature := s.cfg.signature, g := s.cause.g, state := 1,
                           resetCause := BitVec.ofNat 2 s.loader.resetCause.code, haltMark := s.loader.haltMark } } })
  ∧ (∀ (s u : State) (target : StationState) (rises : Cause → Bool), s.timers.aging.isSome = true → s.st = .joining →
       s.peers.joinExpiries = 3 →
       u = { s with timers := { s.timers with aging := some (s.cfg.sharePeriod * 1000) } }.age →
       target = (if u.loopSensed = true ∨ (∃ n, n ≠ s.loader.station ∧ (u.entry n).kind = .drive
                     ∧ (u.entry n).foreign = false
                     ∧ ((u.entry n).entry = .present ∨ (u.entry n).entry = .silent)
                     ∧ (u.entry n).shows (fun st => st == .tripDecel || st == .tripped) = true) then .tripped
                 else if u.someOtherShows StationState.startingOrRunning = true then .standby else .selftest) →
       (∀ c, rises c = true ↔ u.Stands c ∧ (s.causeField c).present = false) →
       ∃ t, exec .agingExpiry s = .next t
         ∧ t.lines = t.st.lines ∧ t.link.rollSlot = none
         ∧ t.timers.share = some (s.cfg.sharePeriod * 1000) ∧ t.timers.history = some (s.cfg.sharePeriod * 1000)
         ∧ (s.link.mute = false → ∃ p, t.link.shareSlot = some p ∧ (t.entry s.loader.station).share = some p
             ∧ p.state = BitVec.ofNat 4 target.code)
         ∧ (∀ c, rises c = true → t.causeField c = { present := true, latched := true,
                                                     count := min 255 ((s.causeField c).count + 1) })
         ∧ (∀ c, rises c = false → (t.causeField c).latched = (s.causeField c).latched
             ∧ (t.causeField c).count = (s.causeField c).count
             ∧ (c ∉ [.noBreakaway, .jam, .surge, .groupShort, .outOfStep] → t.causeField c = s.causeField c))
         ∧ ((∀ c, rises c = true → s.actionOf c ≠ .trip) →
             t.st = target ∧ t.cause.g = s.cause.g ∧ t.cause.context = s.cause.context ∧ t.records = s.records
             ∧ t.link.tripSlot = s.link.tripSlot)
         ∧ (target = .tripped →
             t.st = .tripped ∧ t.cause.g = s.cause.g ∧ t.cause.context = s.cause.context
             ∧ t.link.tripSlot = s.link.tripSlot ∧ (s.cause.context = none → t.records = s.records))
         ∧ (target ≠ .tripped → (∃ c, rises c = true ∧ s.actionOf c = .trip) →
             t.st = tripTarget target s.speed.standstill ∧ t.Stopped ∧ t.timers.loopWait = none
             ∧ t.cause.g = successor s.cause.g
             ∧ t.cause.context = some { number := some (successor s.cause.g), origin := some s.loader.station,
                                        confirmed := false, ownPart := .origin, coOrigins := [],
                                        stateAtTrip := target }
             ∧ ∃ first, rises first = true ∧ s.actionOf first = .trip
                 ∧ t.link.tripSlot = (if s.link.mute then s.link.tripSlot
                     else some { number := successor s.cause.g, causeCode := BitVec.ofNat 8 first.code,
                                 stateAtTrip := BitVec.ofNat 4 target.code,
                                 feedback := BitVec.ofInt 16 s.reg.feedback,
                                 speed := BitVec.ofNat 16 s.speed.speed })
                 ∧ (s.RecordsOk → ∃ i r, t.records.current = some i ∧ t.records.slots.get i = some r
                     ∧ r.firstCause = first ∧ r.detail = s.standingDetail first ∧ r.closed = false
                     ∧ r.number = some (successor s.cause.g) ∧ r.origin = some s.loader.station
                     ∧ r.confirmed = false ∧ r.ownPart = .origin ∧ r.stateAtTrip = target
                     ∧ r.timeMark = s.clock.timeMark ∧ r.history = s.records.ring
                     ∧ (∀ x ∈ r.subsequent, rises x.cause = true ∧ s.actionOf x.cause = .trip ∧ x.cause ≠ first
                         ∧ x.offset = 0 ∧ x.number = none)
                     ∧ (Cause.all.filter fun c => rises c && s.actionOf c == .trip).length
                         = 1 + r.subsequent.length + r.overflow))
         ∧ (s.link.mute = false → t.limiter.clamp = s.limiter.clamp
             ∧ ((∀ c, rises c = true → s.actionOf c ≠ .clamp) → t.link.clampSlot = s.link.clampSlot)
             ∧ ((∃ c, rises c = true ∧ s.actionOf c = .clamp) →
                 ∃ c, rises c = true ∧ s.actionOf c = .clamp ∧ t.link.clampSlot = some (s.clampOf c)))
         ∧ (s.link.mute = true → t.link.clampSlot = s.link.clampSlot
             ∧ ((∀ c, rises c = true → s.actionOf c ≠ .clamp) → t.limiter.clamp = s.limiter.clamp)
             ∧ (∀ c, rises c = true → s.actionOf c = .clamp →
                 (∀ d, rises d = true → s.actionOf d = .clamp → d = c) →
                 (s.IgnoresOwnClamp (s.clampOf c) → t.limiter.clamp = s.limiter.clamp)
                 ∧ (¬s.IgnoresOwnClamp (s.clampOf c) → t.limiter.clamp = s.ownClamp (s.clampOf c))))
         ∧ t = { t with speed := s.speed, clock := s.clock, loader := s.loader, monitor := s.monitor,
                        inputs := s.inputs, pending := s.pending })

/-- SHARE_TIMER_EXPIRY (R2, R63, R153, R155): the trim is recomputed, and unless MUTE a SHARE of the values held goes to
its slot and to the own entry; a SHARE still pending is replaced and counted. -/
def Obligations.ShareComposed : Prop :=
  ∀ s u : State, s.timers.share.isSome = true →
    u = { s with
      timers := { s.timers with share := some (s.cfg.sharePeriod * 1000) }
      reg := { s.reg with trim := if s.inBalance s.loader.station then s.trimNow else s.reg.trim } } →
    (s.link.mute = true → exec .shareTimerExpiry s = .next u)
    ∧ (s.link.mute = false → ∃ p : SharePayload,
        exec .shareTimerExpiry s = .next { u with
          peers := { s.peers with
            entries := s.peers.entries.set s.loader.station { s.entry s.loader.station with share := some p } }
          link := { s.link with
            shareSlot := some p
            counters := if s.link.shareSlot.isSome then
                { s.link.counters with shareOvertaken := min 65535 (s.link.counters.shareOvertaken + 1) }
              else s.link.counters } }
        ∧ p.state = BitVec.ofNat 4 s.st.code ∧ p.intended = BitVec.ofNat 2 s.seq.intended.code
        ∧ p.notReady = (s.causeField .selftestFail).latched
        ∧ p.stage = BitVec.ofNat 2 s.limiter.stage ∧ p.limiting = BitVec.ofNat 3 s.limiter.limiting.code
        ∧ p.feedback = BitVec.ofInt 16 s.reg.feedback ∧ p.allowance = BitVec.ofNat 16 s.limiter.allowance
        ∧ p.speed = BitVec.ofNat 16 s.speed.speed ∧ p.g = s.cause.g ∧ p.signature = s.cfg.signature
        ∧ (s.seq.lastOutcome = none → p.outcomeSource = 0 ∧ p.outcomeCode = 0)
        ∧ (∀ o, s.seq.lastOutcome = some o → p.outcomeSource = BitVec.ofNat 2 o.source.code
            ∧ p.outcomeCode = BitVec.ofNat 8 o.code.code ∧ p.outcomeTag = o.tag)
        ∧ (p.alertPresent = true ↔ ∃ c, s.actionOf c = .alert ∧ (s.causeField c).present = true)
        ∧ (p.clampCausePresent = true ↔ ∃ c, s.actionOf c = .clamp ∧ (s.causeField c).present = true)
        ∧ (p.tripCauseLatched = true ↔ ∃ c, s.actionOf c = .trip ∧ (s.causeField c).latched = true)
        ∧ (p.vibrationDerating = true ↔ s.vib.allowance < s.cfg.ratedCeiling)
        ∧ p.overloadLimiting = s.limiter.limit
        ∧ (p.mutePending = true ↔ 0 < s.link.consecutive))

/-- The balance trim of R64, as it stands after a share timer expiry of a station in the balancing set: the member with
no other gives 0, a sum of allowances of 0 gives 0; otherwise Kb times the distance of F from the own target. -/
def Obligations.BalanceTrim : Prop :=
  ∀ s : State, s.timers.share.isSome = true → s.inBalance s.loader.station = true →
    ∃ t, exec .shareTimerExpiry s = .next t ∧
      (let feedbackOf := fun n => if n = s.loader.station then s.reg.feedback
          else match (s.entry n).share with | some p => p.feedback.toInt | none => 0
       let allowanceOf := fun n => if n = s.loader.station then (s.limiter.allowance : Int)
          else match (s.entry n).share with | some p => (p.allowance.toNat : Int) | none => 0
       let total := (s.balancingSet.map feedbackOf).sum
       let sum := (s.balancingSet.map allowanceOf).sum
       let own := Int.fdiv (total * s.limiter.allowance) sum
       (s.balancingSet = [s.loader.station] ∨ sum = 0 → t.reg.trim = 0)
       ∧ (2 ≤ s.balancingSet.length → sum ≠ 0 → t.reg.trim
            = max (-(s.cfg.trimLimit : Int)) (min s.cfg.trimLimit
                (Int.tdiv (s.cfg.kb * (own - s.reg.feedback)) 1024))))
      ∧ (∀ n, n ∈ s.balancingSet ↔ n ∈ s.peers.participants
          ∧ (if n = s.loader.station then s.st.regulating = true
             else (s.entry n).shows StationState.regulating = true))

/-- The allowance is the smallest value among the contributors that apply, and the limiting contributor the first of
those that give it; which contributors apply in which state is the table of R68, and their values those of R67. A SHARE
and the ALLOWANCE reply carry it, the reply with the overload percentage in its last word, the low 16 bits of one that
an upset brings above 65535 (the model's choice, log 47). Every step keeps the premise (StepKeepsAllowance). -/
def Obligations.AllowanceIsSmallest : Prop :=
  ∀ s : State, s.AllowanceOk →
    (∀ c, s.applies c = true → s.limiter.allowance ≤ s.contributorValue c)
    ∧ s.applies s.limiter.limiting = true ∧ s.contributorValue s.limiter.limiting = s.limiter.allowance
    ∧ (∀ c, s.applies c = true → c.code < s.limiter.limiting.code → s.limiter.allowance < s.contributorValue c)
    ∧ s.applies .ceiling = true
    ∧ (s.applies .rated = true ↔ s.st ≠ .breakaway) ∧ (s.applies .vib = true ↔ s.st ≠ .breakaway)
    ∧ (s.applies .stage = true ↔ s.st = .breakaway)
    ∧ (s.applies .band = true ↔ s.st = .run ∨ s.st = .creep ∨ s.st = .decel)
    ∧ (s.applies .creep = true ↔ s.st = .creep)
    ∧ (s.applies .overload = true ↔ s.limiter.limit = true)
    ∧ (s.applies .clamp = true ↔ s.limiter.clamp.active = true)
    ∧ (∀ c, s.contributorValue c = match c with
        | .rated => s.limiter.rated
        | .stage => s.limiter.stageValue
        | .band => s.limiter.bandValue
        | .creep => s.limiter.creepCap
        | .ceiling => s.limiter.ceiling
        | .overload => s.limiter.overloadValue
        | .vib => s.vib.allowance
        | .clamp => s.limiter.clamp.level)
    ∧ s.sharePayload.allowance = BitVec.ofNat 16 s.limiter.allowance
    ∧ ∀ q : QueryPayload, q.index.toNat = 1 → q.sub = 0 →
        answerOf 4 q s = .ok (([s.vib.allowance, s.limiter.clamp.level, s.limiter.allowance,
          8192 * s.limiter.limiting.code + 2048 * s.limiter.band.val
            + (Contributor.all.map fun c => 2 ^ c.code * (s.applies c).toNat).sum,
          s.overloadPercent]).map (BitVec.ofNat 16))

/-- HISTORY_TIMER_EXPIRY (R128, R129, R137): one entry of the values held goes to the ring, which keeps the latest 48,
not in SELFTEST, and to the tail of a FILLING record, which the sixteenth closes. -/
def Obligations.HistoryEntryTaken : Prop :=
  ∀ (s : State) (e : HistoryEntry), s.timers.history.isSome = true →
    e = { timeMark := s.clock.timeMark, state := s.st, feedback := s.reg.feedback, reference := s.reg.reference,
          allowance := s.limiter.allowance, limiting := s.limiter.limiting, speed := s.speed.speed,
          vibRms := s.vib.latestRms, vibPeak := s.vib.latestPeak } →
    exec .historyTimerExpiry s = .next { s with
      timers := { s.timers with history := some (s.cfg.sharePeriod * 1000) }
      records := { s.records with
        ring := if s.st = .selftest then s.records.ring
          else (s.records.ring ++ [e]).drop (s.records.ring.length + 1 - 48)
        slots := s.records.slots.map fun _ slot => slot.map fun r =>
          if r.closed then r
          else { r with tail := r.tail ++ [e], closed := decide (15 ≤ r.tail.length) } } }

/-- DEMAND_TIMER_EXPIRY (R27, R33): DEMAND_LOSS in STARTING and the running states, with STARTING to STOPPED and
BREAKAWAY, RUN and CREEP to DECEL (at standstill on to STOPPED); elsewhere the timer only stops. No outcome.
START_WINDOW_EXPIRY (R30): STARTING returns to STOPPED with START_NOT_CONFIRMED and the start sequence mark, which is
kept; in another state the timer only stops. -/
def Obligations.DemandAndStartTimers : Prop :=
  ((∀ s : State, s.timers.demand.isSome = true → s.st.startingOrRunning = false →
       exec .demandTimerExpiry s = .next { s with timers := { s.timers with demand := none } })
   ∧ ∀ s : State, s.timers.demand.isSome = true → s.st.startingOrRunning = true → s.inputs.loopOthers = false →
       (s.causeField .demandLoss).present = false →
       ∃ t, exec .demandTimerExpiry s = .next t
         ∧ t.timers.demand = none ∧ t.seq.lastOutcome = s.seq.lastOutcome
         ∧ t.causeField .demandLoss
             = { present := true, latched := true, count := min 255 ((s.causeField .demandLoss).count + 1) }
         ∧ t.st = (if s.st = .starting then .stopped else if s.st = .decel then .decel
                   else if s.speed.standstill then .stopped else .decel)
         ∧ (s.st = .starting → t.seq.confirmation = [] ∧ t.timers.startWindow = none)
         ∧ t.cause.g = s.cause.g ∧ t.records = s.records ∧ t.link = s.link
         ∧ (s.st = .decel → t = { s with timers := { s.timers with demand := none }, cause := t.cause }))
  ∧ ((∀ s : State, s.timers.startWindow.isSome = true → s.st ≠ .starting →
         exec .startWindowExpiry s = .next { s with timers := { s.timers with startWindow := none } })
     ∧ ∀ (s : State) (mark : Byte), s.timers.startWindow.isSome = true → s.st = .starting →
         s.seq.startMark = some mark → s.inputs.loopOthers = false →
         ∃ t, exec .startWindowExpiry s = .next t
           ∧ t.seq = { s.seq with
               station := .stopped, confirmation := [], lastOutcome := some ⟨.demand, .startNotConfirmed, mark⟩ }
           ∧ t.timers.startWindow = none ∧ t.vib.allowance = s.cfg.ratedCeiling
           ∧ t.cause.g = s.cause.g ∧ t.records = s.records ∧ t.link = s.link)

/-- STAGE_TIMER_EXPIRY (R75, R77): stages 1 and 2 advance, with the level, the timer, the edge count and the allowance;
stage 3 presents NO_BREAKAWAY with the stage edge count; outside BREAKAWAY the timer only stops. -/
def Obligations.StageAdvances : Prop :=
  ∀ s : State, s.timers.stage.isSome = true →
    (s.st = .breakaway → s.limiter.stage < 3 →
      ∃ t, exec .stageTimerExpiry s = .next t
        ∧ t = { s with
            limiter := { s.limiter with
              stage := s.limiter.stage + 1, stageValue := s.cfg.stageLevel (s.limiter.stage + 1),
              allowance := t.limiter.allowance, limiting := t.limiter.limiting }
            timers := { s.timers with stage := some (s.cfg.stageTime * 1000), jam := none }
            speed := { s.speed with stageEdges := 0 }
            cause := { s.cause with causes := s.cause.causes.cease .jam } }
        ∧ t.AllowanceOk)
    ∧ (s.st = .breakaway → s.limiter.stage = 3 → (s.causeField .noBreakaway).present = false →
        ∃ t, exec .stageTimerExpiry s = .next t
          ∧ t = State.originTrip { s with
              timers := { s.timers with stage := none }
              cause := { s.cause with
                causes := s.cause.causes.set .noBreakaway
                  { present := true, latched := true, count := min 255 ((s.causeField .noBreakaway).count + 1) } } }
              .noBreakaway s.speed.stageEdges
          ∧ t.st = tripTarget .breakaway s.speed.standstill ∧ (t.causeField .noBreakaway).present = false)
    ∧ (s.st ≠ .breakaway →
        exec .stageTimerExpiry s = .next { s with timers := { s.timers with stage := none } })

/-- SURGE_TIMER_EXPIRY (R82): the timer restarts, SURGE ends when F is no longer above the reference by more than the
threshold, and F becomes the reference. CLAMP_HOLD_EXPIRY (R84, R86, R87): the record becomes inactive, its level,
origin and cause code staying for reading (log 41), the allowance follows, and a CLAMP is composed for the present
CLAMP-action cause of the lowest level, the earliest code among equals; while MUTE it is applied here. -/
def Obligations.SurgeAndClampHoldTimers : Prop :=
  (∀ s : State, s.timers.surge.isSome = true →
     exec .surgeTimerExpiry s = .next { s with
       timers := { s.timers with surge := some (s.cfg.surgeInterval * 1000) }
       cause := { s.cause with
         causes := if s.reg.feedback - s.limiter.surgeReference ≤ s.cfg.surgeThreshold then
             s.cause.causes.set .surge { s.causeField .surge with present := false }
           else s.cause.causes }
       limiter := { s.limiter with surgeReference := s.reg.feedback } })
  ∧ (∀ s : State, s.limiter.clamp.active = true →
       ((∀ c, s.actionOf c = .clamp → (s.causeField c).present = false) →
         ∃ t, exec .clampHoldExpiry s = .next t ∧ t.AllowanceOk
           ∧ t = { s with
               limiter := { s.limiter with
                 clamp := { s.limiter.clamp with active := false, remaining := 0, remainingUs := 0 }
                 allowance := t.limiter.allowance
                 limiting := t.limiter.limiting }
               timers := { s.timers with jam := t.timers.jam }
               cause := { s.cause with causes := t.cause.causes } })
       ∧ ∀ c, s.actionOf c = .clamp → (s.causeField c).present = true →
           (∀ d, s.actionOf d = .clamp → (s.causeField d).present = true →
             s.cause.actions.level c < s.cause.actions.level d
               ∨ (s.cause.actions.level c = s.cause.actions.level d ∧ c.code ≤ d.code)) →
           (s.link.mute = false → ∃ t, exec .clampHoldExpiry s = .next t
             ∧ t.limiter.clamp = { s.limiter.clamp with active := false, remaining := 0, remainingUs := 0 }
             ∧ t.link = { s.link with
                 clampSlot := some { level := BitVec.ofNat 16 (s.cause.actions.level c),
                                     hold := BitVec.ofNat 16 s.cfg.clampHold, causeCode := BitVec.ofNat 5 c.code } })
           ∧ (s.link.mute = true → (s.entry s.loader.station).foreign = false → 0 < s.cfg.clampHold →
               s.cause.actions.level c < 65536 →
               ∃ t, exec .clampHoldExpiry s = .next t
                 ∧ t.limiter.clamp = { active := true, level := s.cause.actions.level c, origin := s.loader.station,
                                       causeCode := BitVec.ofNat 5 c.code, remaining := s.cfg.clampHold,
                                       remainingUs := 0 }
                 ∧ t.link = s.link))

/-- LOCAL_INPUT_EDGE (R38): the pin changes; away from the filtered level its filter starts with 10 ms, back at it the
filter stops; before the end of LOADING no filter runs (log 14). An edge to the level held changes nothing.
LOCAL_INPUT_FILTERED outside TRIPPED and LOCKOUT (R38, R109): the filtered level becomes the pin's; LOCAL_STOP is
presented as the filtered LSTOP level stands. -/
def Obligations.LocalInputs : Prop :=
  (∀ (level : Bool) (s : State),
     (s.inputs.lstopPin ≠ level → exec (.localInputEdge .lstop level) s = .next { s with
         inputs := { s.inputs with lstopPin := level }
         timers := { s.timers with
           lstopFilter := if s.loader.settings = none then s.timers.lstopFilter
             else if level = s.seq.lstop then none else some 10000 } })
     ∧ (s.inputs.maintPin ≠ level → exec (.localInputEdge .maint level) s = .next { s with
         inputs := { s.inputs with maintPin := level }
         timers := { s.timers with
           maintFilter := if s.loader.settings = none then s.timers.maintFilter
             else if level = s.seq.maint then none else some 10000 } })
     ∧ (s.inputs.lstopPin = level → exec (.localInputEdge .lstop level) s = .next s)
     ∧ (s.inputs.maintPin = level → exec (.localInputEdge .maint level) s = .next s))
  ∧ (∀ s : State, s.st ≠ .tripped → s.st ≠ .lockout →
       (s.timers.lstopFilter.isSome = true → exec (.localInputFiltered .lstop) s = .next (State.present
         { s with timers := { s.timers with lstopFilter := none }, seq := { s.seq with lstop := s.inputs.lstopPin } }
         .localStop s.inputs.lstopPin 0))
       ∧ (s.timers.maintFilter.isSome = true → exec (.localInputFiltered .maint) s = .next
         { s with timers := { s.timers with maintFilter := none }, seq := { s.seq with maint := s.inputs.maintPin } }))

/-- LOCKOUT_TIMER_EXPIRY (R39): TRIPPED goes to LOCKOUT; the loop is released and the fault line inactive; latches, G,
the trip context, the records and the link stay. In another state the timer only stops. LOCAL_INPUT_FILTERED in TRIPPED
(R39): the lockout timer of 1 s starts when both filtered levels are active and is stopped when either is not, whichever
input changes; LSTOP presents LOCAL_STOP as well, whose rise is a subsequent cause (R109, R111, R122).
LOCAL_INPUT_FILTERED in LOCKOUT (R40, R123): with both filtered levels inactive the station leaves for TRIPPED with its
latches when a reset-only cause is latched (but for SELFTEST_FAIL's, R105, log 45), else for STANDBY or STOPPED with
every latch cleared; with the other input still active it stays, and leaves when LSTOP in its turn becomes inactive; a
filtered MAINT level that becomes active again changes nothing else, and the station stays (R38, R40). A TRIP-action
condition still present at that exit is latched and counted again and makes an origin trip (R114, R123), and the loop
held by others makes a loop trip (R119); of several the first taken makes the trip, in free order, and its state at trip
is the STANDBY or STOPPED just entered (log 26). That the state entered does not count this station's own last SHARE,
and that no loop wait runs after the origin trip, is log 43's reading. LOCAL_STOP follows the filtered LSTOP level, and
in LOCKOUT its rise only latches and counts (R109, R111). -/
def Obligations.Lockout : Prop :=
  (∀ s : State, s.timers.lockout.isSome = true →
     (s.st = .tripped → ∃ t, exec .lockoutTimerExpiry s = .next t
       ∧ t.st = .lockout ∧ t.lines = { convEn := false, brkRel := false, loopDrive := false, fault := false }
       ∧ t.timers.lockout = none ∧ t.vib.count = 0
       ∧ t.seq = { s.seq with station := .lockout }
       ∧ (∀ c, (t.causeField c).latched = (s.causeField c).latched)
       ∧ t.cause.g = s.cause.g ∧ t.cause.context = s.cause.context ∧ t.records = s.records ∧ t.link = s.link)
     ∧ (s.st ≠ .tripped → exec .lockoutTimerExpiry s = .next { s with timers := { s.timers with lockout := none } }))
  ∧ (∀ s : State, s.st = .tripped →
       (s.timers.maintFilter.isSome = true → exec (.localInputFiltered .maint) s = .next { s with
         seq := { s.seq with maint := s.inputs.maintPin }
         timers := { s.timers with
           maintFilter := none
           lockout := if s.seq.lstop = true ∧ s.inputs.maintPin = true then some (s.timers.lockout.getD 1000000)
             else none } })
       ∧ (s.timers.lstopFilter.isSome = true → ∃ t, exec (.localInputFiltered .lstop) s = .next t
           ∧ t.timers.lockout = (if s.inputs.lstopPin = true ∧ s.seq.maint = true
               then some (s.timers.lockout.getD 1000000) else none)
           ∧ t.causeField .localStop =
               (if s.inputs.lstopPin = true ∧ (s.causeField .localStop).present = false then
                 { present := true, latched := true, count := min 255 ((s.causeField .localStop).count + 1) }
                else { s.causeField .localStop with present := s.inputs.lstopPin })
           ∧ (s.cause.context.isSome = true → s.inputs.lstopPin = true → (s.causeField .localStop).present = false →
               t.records = s.records.onCurrent fun x =>
                 if x.subsequent.length < 4 then
                   { x with subsequent := x.subsequent ++
                       [⟨.localStop, min 65535 (s.clock.timeMark - x.timeMark).toNat, none⟩] }
                 else { x with overflow := min 255 (x.overflow + 1) })
           ∧ (s.inputs.lstopPin = false ∨ (s.causeField .localStop).present = true → t.records = s.records)
           ∧ t = { s with
               seq := { s.seq with lstop := s.inputs.lstopPin }
               timers := { s.timers with lstopFilter := none, lockout := t.timers.lockout }
               cause := { s.cause with causes := t.cause.causes }
               records := t.records }))
  ∧ ((∀ s : State, s.st = .lockout → s.timers.lstopFilter.isSome = true →
       (s.inputs.lstopPin = true ∨ s.seq.maint = true → exec (.localInputFiltered .lstop) s = .next { s with
         timers := { s.timers with lstopFilter := none }
         seq := { s.seq with lstop := s.inputs.lstopPin }
         cause := { s.cause with
           causes := s.cause.causes.set .localStop
             (if s.inputs.lstopPin = true ∧ (s.causeField .localStop).present = false then
               { present := true, latched := true, count := min 255 ((s.causeField .localStop).count + 1) }
              else { s.causeField .localStop with present := s.inputs.lstopPin }) } })
       ∧ (s.inputs.lstopPin = false → s.seq.maint = false →
           (∃ c, c.resetOnly = true ∧ (s.causeField c).latched = true) →
           ∃ t, exec (.localInputFiltered .lstop) s = .next t
             ∧ t.st = .tripped ∧ t.lines = { convEn := false, brkRel := false, loopDrive := true, fault := true }
             ∧ t.seq.lstop = false ∧ (t.causeField .localStop).present = false
             ∧ (∀ c, (t.causeField c).latched = (decide (c ≠ .selftestFail) && (s.causeField c).latched)
                 ∧ (t.causeField c).count = (s.causeField c).count)
             ∧ t.cause.g = s.cause.g ∧ t.records = s.records ∧ t.link = s.link)
       ∧ (s.inputs.lstopPin = false → s.seq.maint = false →
           (∀ c, c.resetOnly = true → (s.causeField c).latched = false) →
           (∀ c, c ≠ .localStop → s.actionOf c = .trip → (s.causeField c).present = false) →
           s.inputs.loopOthers = false →
           ∃ t, exec (.localInputFiltered .lstop) s = .next t
             ∧ t.st = (if s.someOtherShows StationState.startingOrRunning then .standby else .stopped)
             ∧ (∀ c, (t.causeField c).latched = false ∧ (t.causeField c).count = (s.causeField c).count)
             ∧ (t.causeField .localStop).present = false
             ∧ t.seq = { s.seq with station := t.st, lstop := false }
             ∧ t.cause.g = s.cause.g ∧ t.records = s.records ∧ t.link = s.link))
     ∧ (∀ s : State, s.st = .lockout → s.timers.maintFilter.isSome = true → s.inputs.maintPin = true →
        exec (.localInputFiltered .maint) s = .next
          { s with timers := { s.timers with maintFilter := none }, seq := { s.seq with maint := true } })
     ∧ (∀ s : State, s.st = .lockout → s.timers.maintFilter.isSome = true → s.inputs.maintPin = false →
        (s.seq.lstop = true → exec (.localInputFiltered .maint) s = .next
          { s with timers := { s.timers with maintFilter := none }, seq := { s.seq with maint := false } })
        ∧ (s.seq.lstop = false → (∃ c, c.resetOnly = true ∧ (s.causeField c).latched = true) →
            ∃ t, exec (.localInputFiltered .maint) s = .next t
              ∧ t.st = .tripped ∧ t.lines = { convEn := false, brkRel := false, loopDrive := true, fault := true }
              ∧ (∀ c, (t.causeField c).latched = (decide (c ≠ .selftestFail) && (s.causeField c).latched)
                  ∧ (t.causeField c).count = (s.causeField c).count)
              ∧ t.cause.g = s.cause.g ∧ t.records = s.records ∧ t.link = s.link)
        ∧ (s.seq.lstop = false → (∀ c, c.resetOnly = true → (s.causeField c).latched = false) →
            (∀ c, s.actionOf c = .trip → (s.causeField c).present = false) → s.inputs.loopOthers = false →
            ∃ t, exec (.localInputFiltered .maint) s = .next t
              ∧ t.st = (if s.someOtherShows StationState.startingOrRunning then .standby else .stopped)
              ∧ (∀ c, (t.causeField c).latched = false ∧ (t.causeField c).count = (s.causeField c).count)
              ∧ t.seq = { s.seq with station := t.st, maint := false }
              ∧ t.cause.g = s.cause.g ∧ t.records = s.records ∧ t.link = s.link))
     ∧ ∀ (i : LocalInput) (s : State) (target : StationState) (still : Cause → Prop), s.st = .lockout →
       (i = .lstop → s.timers.lstopFilter.isSome = true ∧ s.inputs.lstopPin = false ∧ s.seq.maint = false) →
       (i = .maint → s.timers.maintFilter.isSome = true ∧ s.inputs.maintPin = false ∧ s.seq.lstop = false) →
       (∀ c, c.resetOnly = true → (s.causeField c).latched = false) →
       target = (if s.someOtherShows StationState.startingOrRunning then .standby else .stopped) →
       (∀ c, still c ↔ s.actionOf c = .trip ∧ (s.causeField c).present = true ∧ (i = .lstop → c ≠ .localStop)
         ∧ c ∉ [.noBreakaway, .jam, .surge, .groupShort, .outOfStep]) →
       s.inputs.loopOthers = true ∨ (∃ c, still c) →
       ∃ t, exec (.localInputFiltered i) s = .next t
         ∧ t.st = tripTarget target s.speed.standstill ∧ t.lines = t.st.lines ∧ t.Stopped
         ∧ (∀ c, still c → c ≠ .loop → (t.causeField c).latched = true
             ∧ (t.causeField c).count = min 255 ((s.causeField c).count + 1))
         ∧ (∀ c, ¬still c → c ≠ .loop → (t.causeField c).latched = false
             ∧ (t.causeField c).count = (s.causeField c).count)
         ∧ (let loopTrip := t.cause.g = s.cause.g
              ∧ t.cause.context = some { number := none, origin := none, confirmed := false, ownPart := .follower,
                                         coOrigins := [], stateAtTrip := target }
              ∧ (t.causeField .loop).latched = true ∧ t.timers.loopWait = some (s.cfg.loopWait * 1000)
            let originTrip := t.cause.g = successor s.cause.g
              ∧ t.cause.context = some { number := some t.cause.g, origin := some s.loader.station, confirmed := false,
                                         ownPart := .origin, coOrigins := [], stateAtTrip := target }
              ∧ t.timers.loopWait = none
            (loopTrip ∨ originTrip) ∧ ((∀ c, ¬still c) → loopTrip) ∧ (s.inputs.loopOthers = false → originTrip)))

/-- A valid frame of another station (R3, R10, R143, R151, R152), shown by REPLY_FRAME and ORDER_UNDEFINED_KIND: it is
counted, leaves the line's bits as log 12 has them and refreshes its sender's entry, the kind by the table of R3; a
change of the entry's state or kind may have more effects (R8, R17). The ORDER changes nothing else unless it is
withheld (R41, R170). An ORDER, DEMAND or QUERY from a drive entry and a CLAMP from an entry of kind OTHER are withheld
from their owner and counted (R152); the sender's entry is refreshed as for any frame, which gives `u`. -/
def Obligations.FrameRefreshesSender : Prop :=
  (∀ (origin : Station) (words : List Word) (kind : BitVec 4) (order : OrderPayload) (s : State),
     s.link.active = true → s.link.listening = true → origin ≠ s.loader.station → orderKindDefined kind = false →
     (∃ t, exec (.replyFrame origin words) s = .next t
       ∧ (t.entry origin).silence = 0 ∧ (t.entry origin).entry = .present
       ∧ (t.entry origin).heard = min 65535 ((s.entry origin).heard + 1)
       ∧ (t.entry origin).kind = (s.entry origin).kind ∧ (t.entry origin).foreign = (s.entry origin).foreign
       ∧ (t.entry origin).share = (s.entry origin).share)
     ∧ (∃ t, exec (.orderUndefinedKind origin kind order) s = .next t
       ∧ (t.entry origin).silence = 0 ∧ (t.entry origin).entry = .present
       ∧ (t.entry origin).heard = min 65535 ((s.entry origin).heard + 1)
       ∧ (t.entry origin).kind = (if (s.entry origin).kind = .drive then .drive else .other))
     ∧ ((s.entry origin).entry = .present →
         exec (.replyFrame origin words) s = .next { s with
           link := { s.link with
             idle := 6, bitMicros := 0, abortBits := 0, lineBusy := false
             counters := { s.link.counters with receivedValid := min 65535 (s.link.counters.receivedValid + 1) } }
           peers := { s.peers with
             entries := s.peers.entries.set origin { s.entry origin with
               silence := 0, heard := min 65535 ((s.entry origin).heard + 1) } } })
     ∧ ((s.entry origin).entry = .present → (s.entry origin).kind = .other →
         exec (.orderUndefinedKind origin kind order) s = exec (.replyFrame origin words) s))
  ∧ (∀ (c : Instr) (f : Frame) (s u : State), frameOfCommand c = some f → s.link.active = true →
       s.link.listening = true → f.origin ≠ s.loader.station → u = s.countValid.refreshPeer f.origin f.cls →
       ((f.cls = classOrder ∨ f.cls = classDemand ∨ f.cls = classQuery) ∧ (u.entry f.origin).kind = .drive)
         ∨ (f.cls = classClamp ∧ (u.entry f.origin).kind = .other) →
       exec c s = .next { u with link := { u.link with
         counters := { u.link.counters with wrongSenderKind := min 65535 (u.link.counters.wrongSenderKind + 1) } } })

/-- Frames while the link is inactive change nothing but that the line is free of them, and before the controller has
read ten recessive bits they are bits of the line and no frames (R143, log 12), the recessive ones that end the check
word counted too (R147), so that six to nine have been read at the frame's end; one of the own number is a duplicate
(R10): in JOINING the station halts, silenced and emptied (R11), and after joining DUPLICATE rises once and the link is
MUTE (R12). Own frames reach the model only through TRANSMIT_SUCCESS (log 11). -/
def Obligations.DuplicatesFound : Prop :=
  ∀ (c : Instr) (f : Frame) (s : State), frameOfCommand c = some f →
    (s.link.active = false → exec c s = .next { s with link := { s.link with lineBusy := false } })
    ∧ (s.link.active = true → s.link.listening = false →
        exec c s = .next { s with link := { s.link with
          idle := idleAfter s.link.idle f.lineBits, bitMicros := 0, abortBits := 0, lineBusy := false } }
        ∧ 6 ≤ idleAfter s.link.idle f.lineBits ∧ idleAfter s.link.idle f.lineBits ≤ 9)
    ∧ (s.link.active = true → s.link.listening = true → f.origin = s.loader.station → s.st = .joining →
        ∃ t, exec c s = .next t
          ∧ t.st = .faultHalt ∧ t.lines = { convEn := false, brkRel := false, loopDrive := false, fault := true }
          ∧ t.link.active = false ∧ t.link.listening = false ∧ t.link.transmitter = none ∧ t.link.tripSlot = none ∧ t.link.clampSlot = none
          ∧ t.link.shareSlot = none ∧ t.link.rollSlot = none ∧ t.link.queue = []
          ∧ t.timers.aging = none ∧ t.timers.guard = none ∧ t.timers.surge = none
          ∧ (∀ n, (t.entry n).silence = (s.entry n).silence ∧ (t.entry n).entry = (s.entry n).entry)
          ∧ t.records = s.records ∧ t.cause.context = s.cause.context)
    ∧ (s.link.active = true → s.link.listening = true → f.origin = s.loader.station → s.st.joined = true →
        (s.causeField .duplicate).present = true → s.link.mute = true →
        exec c s = .next { s with link := { s.link with
          idle := 6, bitMicros := 0, abortBits := 0, lineBusy := false
          counters := { s.link.counters with receivedValid := min 65535 (s.link.counters.receivedValid + 1) } } })
    ∧ (s.link.active = true → s.link.listening = true → f.origin = s.loader.station → s.st.joined = true →
        (s.causeField .duplicate).present = false →
        ∃ t, exec c s = .next t ∧ t.link.mute = true ∧ t.link.faultClass = s.link.faultClass
          ∧ (t.causeField .duplicate).present = true ∧ (t.causeField .duplicate).latched = true
          ∧ (s.st.canTrip = true → t.st = tripTarget s.st s.speed.standstill ∧ t.cause.g = successor s.cause.g)
          ∧ (s.link.mute = false → t.link.tripSlot = none ∧ t.link.clampSlot = none ∧ t.link.shareSlot = none
              ∧ t.link.rollSlot = none ∧ t.link.transmitter = none ∧ t.link.queue = []))

/-- DEMAND_FRAME delivered in state `u` (R22, R26, R70): the ceiling, the speed target capped at max speed, the demand
timer and DEMAND_LOSS in every state; in the states of R26's second row the sequence of a RUN or CREEP is noted, and
neither the station state nor the outcome nor any other part changes. -/
def Obligations.DemandNoted : Prop :=
  ∀ (origin : Station) (p : DemandPayload) (s u : State), s.Reaches u origin classDemand →
    u.st.blocksRun = true →
    ∃ t, exec (.demandFrame origin p) s = .next t
      ∧ t.limiter.ceiling = p.ceiling.toNat ∧ t.reg.speedTarget = min p.speedTarget.toNat u.cfg.maxSpeed
      ∧ t.timers.demand = some (u.cfg.demandTimeout * 1000)
      ∧ (t.causeField .demandLoss).present = false
      ∧ (u.st = .joining ∨ u.st = .tripDecel ∨ u.st = .tripped ∨ u.st = .clearing ∨ u.st = .standby
          ∨ u.st = .lockout →
        t = { u with
          limiter := { u.limiter with
            ceiling := p.ceiling.toNat, allowance := t.limiter.allowance, limiting := t.limiter.limiting }
          reg := { u.reg with speedTarget := t.reg.speedTarget }
          timers := { u.timers with demand := t.timers.demand, jam := none }
          cause := { u.cause with causes := (u.cause.causes.cease .jam).cease .demandLoss }
          seq := { u.seq with
            startMark := if p.mode = 1 ∨ p.mode = 2 then some p.sequence else u.seq.startMark } })

/-- DEMAND_FRAME RUN or CREEP in STOPPED (R23, R28): STALE_DEMAND, NOT_READY and TOO_FEW leave the state and the mark;
else the mark is taken, and with other participants to wait for the station is in STARTING with its confirmation set and
start window, with none in BREAKAWAY at stage 1, whatever this station's own last SHARE shows (R32, R75; log 43's
reading of "some participant"). -/
def Obligations.DemandStarts : Prop :=
  ∀ (origin : Station) (p : DemandPayload) (m entered : Mode) (s u : State), s.Reaches u origin classDemand →
    u.st = .stopped → u.ParticipantsOk → demandMode p.mode = some m →
    entered = (if m = .run ∧ u.cfg.minRun ≤ u.count then .run else .creep) →
    ∃ t, exec (.demandFrame origin p) s = .next t
      ∧ (u.seq.startMark = some p.sequence →
          t.seq = { u.seq with lastOutcome := some ⟨.demand, .staleDemand, p.sequence⟩ })
      ∧ (u.seq.startMark ≠ some p.sequence → (u.causeField .selftestFail).latched = true →
          t.seq = { u.seq with lastOutcome := some ⟨.demand, .notReady, p.sequence⟩ })
      ∧ (u.seq.startMark ≠ some p.sequence → (u.causeField .selftestFail).latched = false →
          u.count < u.cfg.minCreep →
          t.seq = { u.seq with lastOutcome := some ⟨.demand, .tooFew, p.sequence⟩ })
      ∧ (u.seq.startMark ≠ some p.sequence → (u.causeField .selftestFail).latched = false →
          u.cfg.minCreep ≤ u.count →
          t.seq.startMark = some p.sequence ∧ t.seq.intended = entered
          ∧ t.seq.lastOutcome = some ⟨.demand, if m = entered then .taken else .runAsCreep, p.sequence⟩
          ∧ (u.others ≠ [] → t.st = .starting ∧ t.seq.confirmation = u.others
              ∧ t.timers.startWindow = some (3 * (u.cfg.sharePeriod * 1000)))
          ∧ (u.others = [] → t.st = .breakaway ∧ t.seq.confirmation = [] ∧ t.timers.startWindow = none
              ∧ t.limiter.stage = 1 ∧ t.limiter.stageValue = u.cfg.stageLevel 1
              ∧ t.timers.stage = some (u.cfg.stageTime * 1000) ∧ t.speed.stageEdges = 0
              ∧ t.lines = { convEn := true, brkRel := true, loopDrive := false, fault := false }))

/-- DEMAND_FRAME in STARTING, BREAKAWAY, RUN and CREEP (R24): the mode followed leaves state and outcome; STOP leads to
STOPPED or DECEL; a change of mode follows the table, CREEP for want of participants. DEMAND_FRAME in DECEL and SELFTEST
(R25, R26): STOP changes nothing in the sequencer; in DECEL a RUN or CREEP is stale, refused or taken as in STOPPED,
without STARTING; in SELFTEST it is answered WRONG_STATE. -/
def Obligations.DemandChangesMode : Prop :=
  (∀ (origin : Station) (p : DemandPayload) (s u : State), s.Reaches u origin classDemand →
     u.ParticipantsOk → u.cfg.minCreep ≤ u.count → u.inputs.loopOthers = false →
     ∃ t, exec (.demandFrame origin p) s = .next t
       ∧ (demandMode p.mode = none → u.st = .starting →
           t.st = .stopped ∧ t.timers.startWindow = none ∧ t.seq.confirmation = []
           ∧ t.seq.lastOutcome = some ⟨.demand, .taken, p.sequence⟩ ∧ t.seq.startMark = u.seq.startMark)
       ∧ (demandMode p.mode = none → u.st = .breakaway ∨ u.st = .run ∨ u.st = .creep →
           t.st = (if u.speed.standstill then .stopped else .decel)
           ∧ t.seq.lastOutcome = some ⟨.demand, .taken, p.sequence⟩ ∧ t.seq.startMark = u.seq.startMark)
       ∧ (∀ m, demandMode p.mode = some m → u.followed = some m →
           u.st = .starting ∨ u.st = .breakaway ∨ u.st = .run ∨ u.st = .creep →
           t.seq = { u.seq with startMark := some p.sequence })
       ∧ (∀ m, demandMode p.mode = some m → m ≠ u.seq.intended → u.st = .starting ∨ u.st = .breakaway →
           let entered : Mode := if m = .run ∧ u.cfg.minRun ≤ u.count then .run else .creep
           t.seq = { u.seq with
             startMark := some p.sequence, intended := entered
             lastOutcome := some ⟨.demand, if m = entered then .taken else .runAsCreep, p.sequence⟩ }
           ∧ t.timers.startWindow = u.timers.startWindow ∧ t.timers.stage = u.timers.stage
           ∧ t.limiter.stage = u.limiter.stage)
       ∧ (demandMode p.mode = some .creep → u.st = .run →
           t.st = .creep ∧ t.seq.intended = .creep ∧ t.seq.startMark = some p.sequence
           ∧ t.seq.lastOutcome = some ⟨.demand, .taken, p.sequence⟩ ∧ t.reg.setpoint = u.reg.setpoint)
       ∧ (demandMode p.mode = some .run → u.st = .creep → u.cfg.minRun ≤ u.count →
           t.st = .run ∧ t.seq.intended = .run ∧ t.seq.startMark = some p.sequence
           ∧ t.seq.lastOutcome = some ⟨.demand, .taken, p.sequence⟩ ∧ t.reg.setpoint = u.reg.setpoint)
       ∧ (demandMode p.mode = some .run → u.st = .creep → u.count < u.cfg.minRun →
           t.seq = { u.seq with
             startMark := some p.sequence, lastOutcome := some ⟨.demand, .runAsCreep, p.sequence⟩ }))
  ∧ (∀ (origin : Station) (p : DemandPayload) (s u : State), s.Reaches u origin classDemand → u.ParticipantsOk →
       u.st = .decel ∨ u.st = .selftest →
       ∃ t, exec (.demandFrame origin p) s = .next t
         ∧ (demandMode p.mode = none → t.seq = u.seq)
         ∧ (∀ m, demandMode p.mode = some m → u.st = .selftest →
             t.seq = { u.seq with lastOutcome := some ⟨.demand, .wrongState, p.sequence⟩ })
         ∧ (∀ m, demandMode p.mode = some m → u.st = .decel →
             (u.seq.startMark = some p.sequence →
               t.seq = { u.seq with lastOutcome := some ⟨.demand, .staleDemand, p.sequence⟩ })
             ∧ (u.seq.startMark ≠ some p.sequence → (u.causeField .selftestFail).latched = true →
               t.seq = { u.seq with lastOutcome := some ⟨.demand, .notReady, p.sequence⟩ })
             ∧ (u.seq.startMark ≠ some p.sequence → (u.causeField .selftestFail).latched = false →
               u.count < u.cfg.minCreep → t.seq = { u.seq with lastOutcome := some ⟨.demand, .tooFew, p.sequence⟩ })
             ∧ (u.seq.startMark ≠ some p.sequence → (u.causeField .selftestFail).latched = false →
               u.cfg.minCreep ≤ u.count →
               let entered : Mode := if m = .run ∧ u.cfg.minRun ≤ u.count then .run else .creep
               t.seq = { u.seq with
                 station := if m = .run ∧ u.cfg.minRun ≤ u.count then .run else .creep
                 startMark := some p.sequence, intended := entered
                 lastOutcome := some ⟨.demand, if m = entered then .taken else .runAsCreep, p.sequence⟩ }
               ∧ t.reg.setpoint = u.reg.setpoint ∧ t.reg.integral = u.reg.integral)))

/-- ORDER SELFTEST (R42, R101): taken in STOPPED, with the test set up; WRONG_STATE elsewhere and nothing else. ORDER
RESTART (R43, R166): taken in STOPPED, TRIPPED, STANDBY and LOCKOUT, where the part resets (the values are those of
ResetsBeginAndEnd); WRONG_STATE elsewhere and nothing else. An ORDER whose target is neither this station's number nor
15, of any kind, is not acted on (R41). -/
def Obligations.SelftestAndRestartOrdered : Prop :=
  (∀ (origin : Station) (p : OrderPayload) (s u : State), s.Reaches u origin classOrder →
     u.addressed p.target = true →
     (u.st = .stopped → u.inputs.loopOthers = false → ∃ t, exec (.orderSelftest origin p) s = .next t
       ∧ t.st = .selftest ∧ t.seq.lastOutcome = some ⟨.order, .taken, p.tag⟩ ∧ t.seq.selftestTag = p.tag
       ∧ t.vib.count = 0 ∧ t.vib.sumSquares = 0 ∧ t.vib.peak = 0 ∧ t.vib.phase = .high1
       ∧ t.vib.patternCount = 0 ∧ t.vib.failMark = false
       ∧ t.vib.amplitude = max (u.cfg.tripRms 3) (u.cfg.tripPeak 3) + max (u.cfg.tripRms 3) (u.cfg.tripPeak 3) / 8
       ∧ t.vib.alertCount = u.vib.alertCount ∧ t.vib.tripCount = u.vib.tripCount
       ∧ t.vib.allowance = u.vib.allowance ∧ t.timers.pattern = some 100)
     ∧ (u.st ≠ .stopped → exec (.orderSelftest origin p) s
         = .next { u with seq := { u.seq with lastOutcome := some ⟨.order, .wrongState, p.tag⟩ } }))
  ∧ (∀ (origin : Station) (p : OrderPayload) (s u : State), s.Reaches u origin classOrder →
       u.addressed p.target = true →
       (u.st = .stopped ∨ u.st = .tripped ∨ u.st = .standby ∨ u.st = .lockout →
         exec (.orderRestart origin p) s = .next (u.beginReset .restart).endReset)
       ∧ (u.st ≠ .stopped ∧ u.st ≠ .tripped ∧ u.st ≠ .standby ∧ u.st ≠ .lockout →
         exec (.orderRestart origin p) s
           = .next { u with seq := { u.seq with lastOutcome := some ⟨.order, .wrongState, p.tag⟩ } }))
  ∧ (∀ (origin : Station) (kind : BitVec 4) (p : OrderPayload) (s u : State), s.Reaches u origin classOrder →
       p.target.toNat ≠ u.loader.station.val → p.target.toNat ≠ 15 →
       exec (commandOfOrder origin kind p) s = .next u)

/-- ORDER CLEAR_TRIP refused (R124): MOVING, WRONG_STATE, NUMBER_MISMATCH, RESET_NEEDED or CAUSE_PRESENT by the first
row that holds, and nothing but the last outcome changes. ORDER CLEAR_TRIP taken (R124 to R126): every latch cleared,
presence and counts kept, the loop released; with another station still driving it the station waits in CLEARING with
its clear window and tag, else it is STOPPED. -/
def Obligations.ClearTrip : Prop :=
  (∀ (origin : Station) (p : OrderPayload) (s u : State) (answer : OutcomeCode), s.Reaches u origin classOrder →
     u.addressed p.target = true →
     (u.st = .tripDecel ∧ answer = .moving)
       ∨ (u.st ≠ .tripDecel ∧ u.st ≠ .tripped ∧ answer = .wrongState)
       ∨ (u.st = .tripped ∧ answer = .numberMismatch
           ∧ (p.argument ≠ u.cause.g ∨ ∃ ctx, u.cause.context = some ctx ∧ ctx.number = none))
       ∨ (u.st = .tripped ∧ p.argument = u.cause.g ∧ (∀ ctx, u.cause.context = some ctx → ctx.number ≠ none)
           ∧ ((answer = .resetNeeded ∧ ∃ c, c.resetOnly = true ∧ (u.causeField c).latched = true)
             ∨ (answer = .causePresent ∧ (∀ c, c.resetOnly = true → (u.causeField c).latched = false)
                 ∧ ∃ c, u.actionOf c = .trip ∧ (u.causeField c).latched = true ∧ (u.causeField c).present = true))) →
     exec (.clearTrip origin p) s = .next { u with seq := { u.seq with lastOutcome := some ⟨.order, answer, p.tag⟩ } })
  ∧ (∀ (origin : Station) (p : OrderPayload) (s u : State), s.Reaches u origin classOrder →
       u.addressed p.target = true → u.st = .tripped → p.argument = u.cause.g →
       (∀ ctx, u.cause.context = some ctx → ctx.number ≠ none) →
       (∀ c, c.resetOnly = true → (u.causeField c).latched = false) →
       (∀ c, u.actionOf c = .trip → (u.causeField c).latched = true → (u.causeField c).present = false) →
       ∃ t, exec (.clearTrip origin p) s = .next t
         ∧ (∀ c, (t.causeField c).latched = false ∧ (t.causeField c).count = (u.causeField c).count
             ∧ (t.causeField c).present = ((u.causeField c).present && !StationState.clearing.endedCauses.contains c))
         ∧ t.seq.lastOutcome = some ⟨.order, .taken, p.tag⟩
         ∧ (u.inputs.loopOthers = true →
             t.st = .clearing ∧ t.lines = { convEn := false, brkRel := false, loopDrive := false, fault := true }
             ∧ t.timers.clearWindow = some (u.cfg.clearWindow * 1000) ∧ t.cause.clearTag = some p.tag)
         ∧ (u.inputs.loopOthers = false →
             t.st = .stopped ∧ t.lines = { convEn := false, brkRel := false, loopDrive := false, fault := false }
             ∧ t.timers.clearWindow = none ∧ t.vib.allowance = u.cfg.ratedCeiling)
         ∧ t.cause.g = u.cause.g ∧ t.cause.context = u.cause.context ∧ t.records = u.records ∧ t.link = u.link)

/-- ORDER KEEP_RECORD (R139), row by row; a kept record is not emptied by DISCARD_RECORDS, not replaced at an opening,
and keeps its mark over every reset but power-on until RELEASE_RECORD clears it; a FILLING one counts among the four and
goes on filling. -/
def Obligations.RecordKept : Prop :=
  (∀ (origin : Station) (p : OrderPayload) (s u : State) (answer : OutcomeCode), s.Reaches u origin classOrder →
    u.addressed p.target = true →
    (let slot := u.slot p.argument.toNat
     (u.st = .joining ∧ answer = .wrongState)
      ∨ (u.st ≠ .joining ∧ (7 < p.argument.toNat ∨ slot = none) ∧ answer = .slotEmpty)
      ∨ (u.st ≠ .joining ∧ p.argument.toNat ≤ 7 ∧ (∃ r, slot = some r ∧ r.keep = true) ∧ answer = .taken)
      ∨ (u.st ≠ .joining ∧ p.argument.toNat ≤ 7 ∧ (∃ r, slot = some r ∧ r.keep = false)
          ∧ 4 ≤ keptCount u.records.slots ∧ answer = .keepLimit)) →
    exec (.keepRecord origin p) s
      = .next { u with seq := { u.seq with lastOutcome := some ⟨.order, answer, p.tag⟩ } })
  ∧ (∀ (origin : Station) (p : OrderPayload) (s u : State) (i : Fin 8) (r : TripRecord),
    s.Reaches u origin classOrder → u.addressed p.target = true → u.st ≠ .joining → p.argument.toNat = i.val →
    u.records.slots.get i = some r → r.keep = false → keptCount u.records.slots < 4 →
    exec (.keepRecord origin p) s = .next { u with
      records := { u.records with slots := u.records.slots.set i (some { r with keep := true }) }
      seq := { u.seq with lastOutcome := some ⟨.order, .taken, p.tag⟩ } })
  ∧ (∀ (origin : Station) (p : OrderPayload) (s u : State) (i : Fin 8) (r : TripRecord),
    s.Reaches u origin classOrder → u.addressed p.target = true → u.st ≠ .joining → p.argument.toNat = i.val →
    u.records.slots.get i = some r → ∃ t, exec (.releaseRecord origin p) s = .next t
      ∧ t.records.slots.get i = some { r with keep := false })
  ∧ ∀ (store : RecordStore) (record r : TripRecord) (i : Fin 8) (e : HistoryEntry),
    store.slots.get i = some r → r.keep = true →
    store.discard.slots.get i = some r
    ∧ (store.insert record).slots.get i = some r.cut ∧ r.cut.keep = true
    ∧ (∀ kind, kind ≠ .powerOn → (store.atReset kind).slots.get i = some r.cut)
    ∧ (store.atReset .powerOn).slots.get i = none
    ∧ (r.closed = false → ((store.take false e).slots.get i).map (·.tail) = some (r.tail ++ [e]))

/-- ORDER RELEASE_RECORD (R140), row by row; a released CLOSED record is emptied by the next DISCARD_RECORDS, and may be
replaced at the next opening. -/
def Obligations.RecordReleased : Prop :=
  (∀ (origin : Station) (p : OrderPayload) (s u : State) (answer : OutcomeCode), s.Reaches u origin classOrder →
    u.addressed p.target = true →
    (u.st = .joining ∧ answer = .wrongState)
      ∨ (u.st ≠ .joining ∧ (7 < p.argument.toNat ∨ u.slot p.argument.toNat = none) ∧ answer = .slotEmpty) →
    exec (.releaseRecord origin p) s
      = .next { u with seq := { u.seq with lastOutcome := some ⟨.order, answer, p.tag⟩ } })
  ∧ (∀ (origin : Station) (p : OrderPayload) (s u : State) (i : Fin 8) (r : TripRecord),
    s.Reaches u origin classOrder → u.addressed p.target = true → u.st ≠ .joining → p.argument.toNat = i.val →
    u.records.slots.get i = some r →
    exec (.releaseRecord origin p) s = .next { u with
      records := { u.records with slots := u.records.slots.set i (some { r with keep := false }) }
      seq := { u.seq with lastOutcome := some ⟨.order, .taken, p.tag⟩ } })
  ∧ ∀ (store : RecordStore) (record r : TripRecord) (i : Fin 8),
    store.slots.get i = some r → r.keep = false → r.closed = true →
    store.discard.slots.get i = none
    ∧ ((∀ j, (store.slots.get j).isSome = true) →
        (∀ j x, j ≠ i → store.slots.get j = some x → x.keep = false → r.serial < x.serial) →
        (store.insert record).current = some i
        ∧ (store.insert record).slots.get i = some { record with serial := min 4294967295 (store.serial + 1) })

/-- ORDER DISCARD_RECORDS (R141): TAKEN in every state, JOINING included; CLOSED records without the keep mark go, the
others and the serial counter stay, and a current record that goes becomes none. -/
def Obligations.RecordsDiscarded : Prop :=
  ∀ (origin : Station) (p : OrderPayload) (s u : State), s.Reaches u origin classOrder →
    u.addressed p.target = true →
    ∃ t, exec (.discardRecords origin p) s = .next t
      ∧ t = { u with
          records := { u.records with slots := t.records.slots, current := t.records.current }
          seq := { u.seq with lastOutcome := some ⟨.order, .taken, p.tag⟩ } }
      ∧ (∀ i r, u.records.slots.get i = some r → t.records.slots.get i
            = (if r.closed = true ∧ r.keep = false then none else some r))
      ∧ (∀ i, u.records.slots.get i = none → t.records.slots.get i = none)
      ∧ (u.records.current = none → t.records.current = none)
      ∧ (∀ i, u.records.current = some i → t.records.current
            = (if t.records.slots.get i = none then none else some i))

/-- A change of the station state, whatever its cause, with its effects on every block at the same event: the lines
(R20), the blocked converter (R53, R62), the breakaway stage (R75, R79), the silence, lockout, clear and start timers
(R100, R39, R126, R28), the window and the allowances (R93, R98, R99, R69), the non-running counts (R4), the causes that
end with a state (R35, R77, R81, R83; R36 at every change, which zeroes the non-running counts or leaves the watched
states), the participant list (R17), and at the end of breakaway the regulator (R59) with the allowance as recomputed
for the state entered, the model's reading of R59 (log 16), the trim of a station that leaves the balancing set (R65),
the intended mode (R24), the jam conditions (R80) and the test pattern (R101, R102, R104); the demand in hand goes with
the blocked converter (log 15), and everything else stays. -/
def Obligations.StateChangeEffects : Prop :=
  ∀ (s t : State) (new : StationState), s.st ≠ new → t = s.moveTo new →
    t.st = new
    ∧ (t.lines.convEn = true ↔ new = .breakaway ∨ new = .run ∨ new = .creep ∨ new = .decel)
    ∧ (t.lines.brkRel = true ↔ new = .breakaway ∨ new = .run ∨ new = .creep ∨ new = .decel ∨ new = .tripDecel
        ∨ new = .standby)
    ∧ (t.lines.loopDrive = true ↔ new = .tripDecel ∨ new = .tripped)
    ∧ (t.lines.fault = true ↔ new = .tripDecel ∨ new = .tripped ∨ new = .clearing ∨ new = .faultHalt)
    ∧ (t.lines.convEn = false → t.reg.isBlocked ∧ t.gen.isBlocked)
    ∧ (new = .breakaway → t.limiter.stage = 1 ∧ t.limiter.stageValue = s.cfg.stageLevel 1
        ∧ t.timers.stage = some (s.cfg.stageTime * 1000) ∧ t.speed.stageEdges = 0)
    ∧ (new ≠ .breakaway → t.limiter.stage = 0 ∧ t.limiter.stageValue = 0 ∧ t.timers.stage = none ∧ t.speed = s.speed)
    ∧ (s.st = .breakaway → new.regulating = true →
        t.reg.setpoint = s.speed.speed * 1000 ∧ t.reg.integral = min s.reg.reference t.limiter.allowance
        ∧ t.reg.demand = t.reg.integral ∧ t.reg.prevAllowance = t.limiter.allowance
        ∧ t.reg.reference = s.reg.reference)
    ∧ t.timers.silence = (if new.running = true then
        (if s.st.running = true then s.timers.silence else some (s.cfg.silenceTime * 1000)) else none)
    ∧ t.timers.lockout = (if new = .tripped ∧ s.seq.lstop = true ∧ s.seq.maint = true then some 1000000 else none)
    ∧ (s.st = .clearing → t.timers.clearWindow = none ∧ t.cause.clearTag = none)
    ∧ (s.st = .starting → t.timers.startWindow = none ∧ t.seq.confirmation = [])
    ∧ (new = .stopped → t.vib.allowance = s.cfg.ratedCeiling ∧ t.vib.quietCount = 0)
    ∧ (new ≠ .stopped → t.vib.allowance = s.vib.allowance)
    ∧ (s.st.regulating ≠ new.regulating → t.vib.quietCount = 0)
    ∧ (new.evaluating = false ∨ s.st = .selftest → t.vib.count = 0 ∧ t.vib.sumSquares = 0 ∧ t.vib.peak = 0)
    ∧ (new.evaluating = true → s.st ≠ .selftest → t.vib.count = s.vib.count ∧ t.vib.sumSquares = s.vib.sumSquares)
    ∧ (∀ n, (t.entry n).nonRunning
          = (if new = .breakaway ∨ new = .run ∨ new = .creep then 0 else (s.entry n).nonRunning))
    ∧ (∀ c, (t.causeField c).latched = (s.causeField c).latched ∧ (t.causeField c).count = (s.causeField c).count)
    ∧ (new ≠ .breakaway → (t.causeField .noBreakaway).present = false)
    ∧ (new ≠ .run → new ≠ .creep → (t.causeField .jam).present = false ∧ (t.causeField .surge).present = false
        ∧ t.timers.jam = none)
    ∧ (new ≠ .breakaway → new ≠ .run → new ≠ .creep → (t.causeField .groupShort).present = false)
    ∧ (t.causeField .outOfStep).present = false
    ∧ t.AllowanceOk ∧ t.ParticipantsOk
    ∧ (∀ c, c ∉ [.noBreakaway, .jam, .surge, .groupShort, .outOfStep] → t.causeField c = s.causeField c)
    ∧ (new = .breakaway → t.causeField .noBreakaway = s.causeField .noBreakaway)
    ∧ (new = .breakaway ∨ new = .run ∨ new = .creep → t.causeField .groupShort = s.causeField .groupShort)
    ∧ (new = .run ∨ new = .creep → t.causeField .surge = s.causeField .surge
        ∧ (let holds := s.speed.speed < s.cfg.jamSpeed ∧ 0 < t.limiter.allowance
             ∧ (t.limiter.allowance : Int) * 95 ≤ s.reg.feedback * 100
           (¬holds → t.timers.jam = none ∧ (t.causeField .jam).present = false)
           ∧ (holds → t.causeField .jam = s.causeField .jam
               ∧ t.timers.jam = (if s.timers.jam = none ∧ (s.causeField .jam).present = false then some 0
                                 else s.timers.jam))))
    ∧ (t.lines.convEn = true → t.gen = s.gen ∧ t.reg.currentIntegral = s.reg.currentIntegral
        ∧ t.reg.conduction = s.reg.conduction)
    ∧ (t.lines.convEn = true → ¬(s.st = .breakaway ∧ new.regulating = true) → t.reg = { s.reg with trim := t.reg.trim })
    ∧ t.reg.trim = (if t.loader.station ∈ t.balancingSet ∧ 2 ≤ t.balancingSet.length then s.reg.trim else 0)
    ∧ t = { s with
        seq := { s.seq with
          station := new
          confirmation := if s.st = .starting then [] else s.seq.confirmation
          intended := if new = .run then .run else if new = .creep then .creep else s.seq.intended }
        timers := { s.timers with
          startWindow := if s.st = .starting then none else s.timers.startWindow
          clearWindow := if s.st = .clearing then none else s.timers.clearWindow
          lockout := t.timers.lockout, stage := t.timers.stage, silence := t.timers.silence, jam := t.timers.jam
          pattern := if new = .selftest then some 100 else none }
        lines := t.lines
        limiter := { s.limiter with
          stage := t.limiter.stage, stageValue := t.limiter.stageValue, allowance := t.limiter.allowance
          limiting := t.limiter.limiting }
        speed := { s.speed with stageEdges := t.speed.stageEdges }
        vib := { s.vib with
          count := t.vib.count, sumSquares := t.vib.sumSquares, allowance := t.vib.allowance
          peak := if new.evaluating = false ∨ s.st = .selftest then 0 else s.vib.peak
          quietCount := if s.st.regulating ≠ new.regulating ∨ new = .stopped then 0 else s.vib.quietCount
          phase := if new = .selftest then .high1 else if s.st = .selftest then .none else s.vib.phase
          patternCount := if new = .selftest ∨ s.st = .selftest then 0 else s.vib.patternCount
          failMark := if new = .selftest then false else s.vib.failMark
          amplitude := if new = .selftest then
              max (s.cfg.tripRms 3) (s.cfg.tripPeak 3) + max (s.cfg.tripRms 3) (s.cfg.tripPeak 3) / 8
            else s.vib.amplitude }
        cause := { s.cause with
          causes := t.cause.causes
          clearTag := if s.st = .clearing then none else s.cause.clearTag }
        reg := { s.reg with
          setpoint := t.reg.setpoint, integral := t.reg.integral, demand := t.reg.demand
          reference := t.reg.reference, currentIntegral := t.reg.currentIntegral, conduction := t.reg.conduction
          prevAllowance := t.reg.prevAllowance, trim := t.reg.trim }
        gen := { s.gen with phase := t.gen.phase, demand := t.gen.demand }
        peers := { s.peers with
          participants := t.peers.participants
          entries := s.peers.entries.map fun _ e =>
            { e with nonRunning := if new = .breakaway ∨ new = .run ∨ new = .creep then 0 else e.nonRunning } } }

/-- A condition presented to the cause unit (R109 to R112), and its timers' commands that present one: JAM_TIMER_EXPIRY
(R81) and VIB_SILENCE_EXPIRY (R100). Before the end of joining nothing is present; a cause present does not rise again;
a rise latches, counts and acts by its action and the state; an end leaves latch and count. A CLAMP-action rise composes
a CLAMP, and while MUTE it is applied here as R85 states (R86, R150). A TRIP-action rise in CLEARING is a subsequent
cause and returns the station to TRIPPED, with no trip context too, which is the model's choice (log 50). -/
def Obligations.RisesActedOn : Prop :=
  (∀ (s r : State) (c : Cause) (d : Int),
    r = { s with cause := { s.cause with
          causes := s.cause.causes.set c
            { present := true, latched := true, count := min 255 ((s.causeField c).count + 1) } } } →
    (s.st.joined = false → ∀ b, s.present c b d = s)
    ∧ (s.st.joined = true → s.present c false d = { s with cause := { s.cause with
          causes := s.cause.causes.set c { s.causeField c with present := false } } })
    ∧ (s.st.joined = true → (s.causeField c).present = true → s.present c true d = s)
    ∧ (s.st.joined = true → (s.causeField c).present = false →
        (s.actionOf c = .alert → s.present c true d = r)
        ∧ (s.actionOf c = .clamp → s.link.mute = false → s.present c true d = { r with link := { s.link with
              clampSlot := some { level := BitVec.ofNat 16 (s.cause.actions.level c),
                                  hold := BitVec.ofNat 16 s.cfg.clampHold, causeCode := BitVec.ofNat 5 c.code } } })
        ∧ (s.actionOf c = .clamp → s.link.mute = true →
            (s.IgnoresOwnClamp (s.clampOf c) → s.present c true d = r)
            ∧ (¬s.IgnoresOwnClamp (s.clampOf c) → ∃ t, s.present c true d = t ∧ t.AllowanceOk
                ∧ (∀ c', c' ≠ .jam → t.causeField c' = r.causeField c')
                ∧ t = { r with
                    limiter := { s.limiter with
                      clamp := s.ownClamp (s.clampOf c), allowance := t.limiter.allowance
                      limiting := t.limiter.limiting }
                    timers := { s.timers with jam := t.timers.jam }
                    cause := { r.cause with causes := t.cause.causes } }))
        ∧ (s.actionOf c = .trip → s.st = .lockout → s.present c true d = r)
        ∧ (s.actionOf c = .trip → s.st = .tripDecel ∨ s.st = .tripped → s.cause.context = none →
            s.present c true d = r)
        ∧ (s.actionOf c = .trip → s.st = .tripDecel ∨ s.st = .tripped → s.cause.context.isSome = true →
            s.present c true d = { r with records := s.records.onCurrent fun x =>
              if x.subsequent.length < 4 then
                { x with subsequent := x.subsequent ++
                    [⟨c, min 65535 (s.clock.timeMark - x.timeMark).toNat, none⟩] }
              else { x with overflow := min 255 (x.overflow + 1) } })
        ∧ (s.actionOf c = .trip → s.st = .clearing → (s.present c true d).st = .tripped
            ∧ (s.present c true d).lines.loopDrive = true ∧ (s.present c true d).timers.clearWindow = none
            ∧ (s.present c true d).cause.g = s.cause.g
            ∧ ((s.present c true d).causeField c).latched = true
            ∧ ((s.present c true d).causeField c).count = min 255 ((s.causeField c).count + 1)
            ∧ (s.cause.context = none → (s.present c true d).records = s.records))
        ∧ (s.actionOf c = .trip → s.st.canTrip = true → s.present c true d = r.originTrip c d)))
  ∧ (∀ s : State, s.timers.jam.isSome = true →
      exec .jamTimerExpiry s
        = .next (State.present { s with timers := { s.timers with jam := none } } .jam true s.speed.speed))
  ∧ (∀ s : State, s.timers.silence.isSome = true →
      exec .vibSilenceExpiry s
        = .next (State.present { s with timers := { s.timers with silence := none } } .vibInput true
            s.cfg.silenceTime))
  ∧ (∀ s : State, s.timers.jam.isSome = true → s.st.cruising = true → (s.causeField .jam).present = false →
      ∃ t, exec .jamTimerExpiry s = .next t
        ∧ t.st = tripTarget s.st s.speed.standstill ∧ t.timers.jam = none ∧ t.Stopped
        ∧ t.causeField .jam
            = { present := false, latched := true, count := min 255 ((s.causeField .jam).count + 1) })

/-- An origin trip (R113 to R115, R132, R133): the successor of G, the context, the TRIP frame (not while MUTE), the
converter blocked and the loop driven, the state of R115's table, and a FILLING record of the values before the trip in
the slot that R132 chooses, every other record FILLING before now cut. That a loop wait which still runs ends with it is
log 43's reading. -/
def Obligations.OriginTrip : Prop :=
  ∀ (s t : State) (c : Cause) (d : Int) (n : Word), s.st.canTrip = true → s.RecordsOk → n = successor s.cause.g →
    t = s.originTrip c d →
    t.cause.g = n ∧ newer n s.cause.g = true
    ∧ t.cause.context = some { number := some n, origin := some s.loader.station, confirmed := false,
                               ownPart := .origin, coOrigins := [], stateAtTrip := s.st }
    ∧ t.link = { s.link with
        tripSlot := if s.link.mute then s.link.tripSlot
          else some { number := n, causeCode := BitVec.ofNat 8 c.code, stateAtTrip := BitVec.ofNat 4 s.st.code,
                      feedback := BitVec.ofInt 16 s.reg.feedback, speed := BitVec.ofNat 16 s.speed.speed } }
    ∧ t.st = tripTarget s.st s.speed.standstill ∧ t.lines = t.st.lines ∧ t.Stopped ∧ t.timers.loopWait = none
    ∧ (∀ c, (t.causeField c).latched = (s.causeField c).latched ∧ (t.causeField c).count = (s.causeField c).count)
    ∧ (s.st = .selftest → t.seq.selftestDone = false
        ∧ t.seq.lastOutcome = some ⟨.order, .selftestAborted, s.seq.selftestTag⟩)
    ∧ (∃ i r, t.records.current = some i ∧ t.records.slots.get i = some r
        ∧ r = { closed := false, keep := false, serial := min 4294967295 (s.records.serial + 1), number := some n,
                origin := some s.loader.station, confirmed := false, ownPart := .origin, coOrigins := [],
                firstCause := c, detail := d, timeMark := s.clock.timeMark, stateAtTrip := s.st,
                snapshot :=
                  { feedback := s.reg.feedback, reference := s.reg.reference, allowance := s.limiter.allowance,
                    limiting := s.limiter.limiting, speed := s.speed.speed, vibRms := s.vib.latestRms,
                    vibPeak := s.vib.latestPeak, overloadPercent := s.overloadPercent, stage := s.limiter.stage },
                subsequent := [], overflow := 0, history := s.records.ring, tail := [], tailCut := false }
        ∧ t.records.serial = min 4294967295 (s.records.serial + 1) ∧ t.records.ring = s.records.ring
        ∧ (∀ j, j ≠ i → s.records.slots.get j = none → t.records.slots.get j = none)
        ∧ (∀ j x, j ≠ i → s.records.slots.get j = some x → t.records.slots.get j
              = some (if x.closed then x else { x with closed := true, tailCut := true }))
        ∧ ((s.records.slots.get i = none ∧ ∀ j, j < i → s.records.slots.get j ≠ none)
          ∨ ((∀ j, s.records.slots.get j ≠ none) ∧ ∃ x, s.records.slots.get i = some x ∧ x.keep = false
              ∧ ∀ j y, s.records.slots.get j = some y → y.keep = false →
                  x.serial < y.serial ∨ (x.serial = y.serial ∧ i ≤ j))))
    ∧ t = { t with speed := s.speed, clock := s.clock, loader := s.loader, monitor := s.monitor,
                   inputs := s.inputs, free := s.free, pending := s.pending }

/-- Trip numbers are compared in serial order (R113), and a TRIP frame delivered in state `u` where the station is not
tripped (R14, R116): a newer one makes a follower trip, in LOCKOUT and JOINING it is only learned, and one not newer is
stale and counted. That a loop wait which still runs ends at the follower trip is log 43's reading. -/
def Obligations.TripFrameFollowed : Prop :=
  (∀ n g : Word, (newer n g = true ↔ n ≠ 0 ∧ (g = 0
      ∨ (1 ≤ (n.toNat + 65536 - g.toNat) % 65536 ∧ (n.toNat + 65536 - g.toNat) % 65536 ≤ 32767)))
    ∧ (successor g).toNat = (if g.toNat = 65535 then 1 else g.toNat + 1))
  ∧ ∀ (origin : Station) (p : TripPayload) (s u : State), s.Reaches u origin classTrip →
    (u.st.canTrip = true → newer p.number u.cause.g = true →
      ∃ t, exec (.tripFrame origin p) s = .next t
        ∧ t.cause.g = p.number
        ∧ t.cause.context = some { number := some p.number, origin := some origin, confirmed := true,
                                   ownPart := .follower, coOrigins := [], stateAtTrip := u.st }
        ∧ t.causeField .peerTrip = { u.causeField .peerTrip with
            latched := true, count := min 255 ((u.causeField .peerTrip).count + 1) }
        ∧ t.st = tripTarget u.st u.speed.standstill ∧ t.Stopped ∧ t.link = u.link ∧ t.timers.loopWait = none
        ∧ (u.RecordsOk → ∃ i r, t.records.current = some i ∧ t.records.slots.get i = some r
            ∧ r.closed = false ∧ r.number = some p.number ∧ r.origin = some origin ∧ r.confirmed = true
            ∧ r.ownPart = .follower ∧ r.firstCause = .peerTrip ∧ r.detail = p.causeCode.toNat
            ∧ r.stateAtTrip = u.st ∧ r.history = u.records.ring)
        ∧ t = { t with speed := u.speed, clock := u.clock, loader := u.loader, monitor := u.monitor,
                       inputs := u.inputs, free := u.free, pending := u.pending })
    ∧ (u.st.canTrip = true ∨ u.st = .lockout → newer p.number u.cause.g = false →
        exec (.tripFrame origin p) s = .next { u with link := { u.link with
          counters := { u.link.counters with staleTrips := min 65535 (u.link.counters.staleTrips + 1) } } })
    ∧ (u.st = .lockout → newer p.number u.cause.g = true →
        exec (.tripFrame origin p) s = .next { u with cause := { u.cause with g := p.number } })
    ∧ (u.st = .joining → exec (.tripFrame origin p) s = .next { u with cause := { u.cause with
          g := if newer p.number u.cause.g then p.number else u.cause.g } })

/-- A TRIP frame delivered in a tripped state `u` (R117, R119, R122): the first for the context number confirms its
sender as origin, a later one is appended as co-origin once, a newer number is a subsequent cause, a pending number is
settled by a newer one, and any other is stale. That the subsequent cause ends CLEARING where there is no trip context
too is the model's choice (log 50). -/
def Obligations.TripFrameWhileTripped : Prop :=
  ∀ (origin : Station) (p : TripPayload) (s u : State), s.Reaches u origin classTrip → u.st.isTripped = true →
    (∀ ctx, u.cause.context = some ctx → ctx.number = some p.number → ctx.confirmed = false →
      exec (.tripFrame origin p) s = .next (u.changeContext { ctx with
        origin := some origin, confirmed := true
        ownPart := if ctx.ownPart = .origin then .coOrigin else ctx.ownPart }))
    ∧ (∀ ctx, u.cause.context = some ctx → ctx.number = some p.number → ctx.confirmed = true →
        (ctx.origin = some origin ∨ origin ∈ ctx.coOrigins.map (·.station) →
          exec (.tripFrame origin p) s = .next u)
        ∧ (ctx.origin ≠ some origin → origin ∉ ctx.coOrigins.map (·.station) →
          exec (.tripFrame origin p) s
            = .next (u.changeContext { ctx with coOrigins := ctx.coOrigins ++ [⟨origin, p.causeCode⟩] })))
    ∧ (∀ ctx, u.cause.context = some ctx → ctx.number = none → newer p.number u.cause.g = true →
        exec (.tripFrame origin p) s = .next { State.changeContext { u with cause := { u.cause with g := p.number } }
            { ctx with number := some p.number, origin := some origin, confirmed := true } with
          timers := { u.timers with loopWait := none } })
    ∧ (newer p.number u.cause.g = true →
        (∀ ctx, u.cause.context = some ctx → ctx.number ≠ none ∧ ctx.number ≠ some p.number) →
        ∃ t, exec (.tripFrame origin p) s = .next t
          ∧ t.cause.g = p.number ∧ t.cause.context = u.cause.context
          ∧ (t.causeField .peerTrip).latched = true
          ∧ (t.causeField .peerTrip).count = min 255 ((u.causeField .peerTrip).count + 1)
          ∧ t.st = (if u.st = .clearing then .tripped else u.st)
          ∧ t.records = (if u.cause.context = none then u.records else u.records.onCurrent fun x =>
              if x.subsequent.length < 4 then
                { x with subsequent := x.subsequent ++
                    [⟨.peerTrip, min 65535 (u.clock.timeMark - x.timeMark).toNat, some p.number⟩] }
              else { x with overflow := min 255 (x.overflow + 1) })
          ∧ t.link = u.link)
    ∧ (newer p.number u.cause.g = false →
        (∀ ctx, u.cause.context = some ctx → ctx.number ≠ some p.number) →
        exec (.tripFrame origin p) s = .next { u with link := { u.link with
          counters := { u.link.counters with staleTrips := min 65535 (u.link.counters.staleTrips + 1) } } })
    ∧ ∀ ctx, (∀ i r, u.records.current = some i → u.records.slots.get i = some r →
          (u.changeContext ctx).records.slots.get i = some { r with
            number := ctx.number, origin := ctx.origin, confirmed := ctx.confirmed, ownPart := ctx.ownPart,
            coOrigins := ctx.coOrigins })
        ∧ (∀ j, u.records.current ≠ some j → (u.changeContext ctx).records.slots.get j = u.records.slots.get j)
        ∧ u.changeContext ctx = { u with cause := { u.cause with context := some ctx },
                                         records := { u.records with
                                           slots := (u.changeContext ctx).records.slots } }

/-- CLAMP_FRAME delivered in state `u` (R85): ignored from a foreign origin, with hold 0 and above the active level,
else installed. ROLL_FRAME (R3, R5, R9, R14, R17): the entry of a joining station, its SHARE content absent, then the
peer causes presented and the participant list re-evaluated once, whatever state the station is in and whether or not
the list changes (in this order, log 20, log 35; what both lead to, R8, R9, R31, R34 to R37, stands in AgingExpiry); its
G is learned in JOINING unless it is foreign. -/
def Obligations.ClampAndRollTaken : Prop :=
  (∀ (origin : Station) (p : ClampPayload) (s u : State), s.Reaches u origin classClamp →
    ((u.entry origin).foreign = true ∨ p.hold = 0
        ∨ (u.limiter.clamp.active = true ∧ u.limiter.clamp.level < p.level.toNat) →
      exec (.clampFrame origin p) s = .next u)
    ∧ ((u.entry origin).foreign = false → p.hold ≠ 0 →
        u.limiter.clamp.active = false ∨ p.level.toNat ≤ u.limiter.clamp.level →
        ∃ t, exec (.clampFrame origin p) s = .next t ∧ t.AllowanceOk
          ∧ t = { u with
              limiter := { u.limiter with
                clamp := { active := true, level := p.level.toNat, origin := origin, causeCode := p.causeCode,
                           remaining := p.hold.toNat, remainingUs := 0 }
                allowance := t.limiter.allowance
                limiting := t.limiter.limiting }
              timers := { u.timers with jam := t.timers.jam }
              cause := { u.cause with causes := t.cause.causes } }))
  ∧ ∀ (origin : Station) (p : RollPayload) (s : State), s.link.active = true → s.link.listening = true →
      origin ≠ s.loader.station → ∃ t, exec (.rollFrame origin p) s = .next t
        ∧ t.entry origin = { kind := .drive, entry := .present, foreign := p.signature != s.cfg.signature,
                             silence := 0, share := none, nonRunning := 0,
                             heard := min 65535 ((s.entry origin).heard + 1) }
        ∧ (s.st = .joining → t.st = .joining ∧ t.cause.g
            = (if p.signature = s.cfg.signature ∧ newer p.g s.cause.g = true then p.g else s.cause.g))
        ∧ (let w := (s.withEntry origin { kind := .drive, entry := .present, foreign := p.signature != s.cfg.signature,
                                          silence := 0, share := none, nonRunning := 0,
                                          heard := min 65535 ((s.entry origin).heard + 1) }).peerCauses.reevaluate
           t = { w with cause := { w.cause with
             g := if s.st = .joining ∧ p.signature = s.cfg.signature ∧ newer p.g s.cause.g = true then p.g
                  else w.cause.g } })

/-- SHARE_FRAME (R3, R4, R9, R14, R17, R29, R31, R32, R36, R63, R78, R119, R121), taken from a station other than this
one: the entry with its non-running count; a follower trip, made from the state held before a count change is acted on
(R31, R37, R121; log 18), with its record (R132, R133); a pending number settled, in the record too (R119, R135); and
else the re-evaluation of the participant list, made once after the peer causes whether or not the SHARE changes the
list (its sender new to it, or not ready, not participating or foreign; log 20, log 35; what it leads to in each state,
R31, R34 to R37, stands in AgingExpiry), whose result is `w`, and then, in `w`, the end of breakaway, the following of
the stage and the trim of R63. Where the SHARE leaves the list as it is, the start confirmation, the end of breakaway,
the following of the stage, which the SHARE that confirms may give at once (log 19), OUT_OF_STEP and the balance trim of
R64 (BalanceTrim) at a member's SHARE are given in full; a sender that confirms is a participant already. The last
confirmation looks at other participants only, of which one that already turns ends breakaway at once (R32), and a trip
ends a loop wait that still runs: log 43's readings. -/
def Obligations.ShareTaken : Prop :=
  ∀ (origin : Station) (p : SharePayload) (s : State), s.link.active = true → s.link.listening = true →
    origin ≠ s.loader.station →
    (s.st.joined = true → s.peerLostNow = true → (s.causeField .peerLost).present = true) →
    ∃ t, exec (.shareFrame origin p) s = .next t
      ∧ (t.entry origin).kind = .drive ∧ (t.entry origin).entry = .present ∧ (t.entry origin).silence = 0
      ∧ (t.entry origin).share = some p ∧ (t.entry origin).foreign = (p.signature != s.cfg.signature)
      ∧ (t.entry origin).heard = min 65535 ((s.entry origin).heard + 1)
      ∧ (s.st.driving = false → s.st ≠ .starting → (t.entry origin).nonRunning
          = (if p.state = 3 ∨ p.state = 4 then min 255 ((s.entry origin).nonRunning + 1) else 0))
      ∧ (t.st = s.st → (t.entry origin).nonRunning
          = (if p.state = 3 ∨ p.state = 4 then min 255 ((s.entry origin).nonRunning + 1) else 0))
      ∧ (s.st = .joining → t.st = .joining ∧ t.cause.g
          = (if p.signature = s.cfg.signature ∧ newer p.g s.cause.g = true then p.g else s.cause.g))
      ∧ (s.st.canTrip = true → p.signature = s.cfg.signature → p.state = 9 ∨ p.state = 10 →
          newer p.g s.cause.g = true →
          t.cause.g = p.g ∧ t.st = tripTarget s.st s.speed.standstill ∧ t.Stopped
          ∧ t.cause.context = some { number := some p.g, origin := none, confirmed := false, ownPart := .follower,
                                     coOrigins := [], stateAtTrip := s.st }
          ∧ t.causeField .peerTrip = { s.causeField .peerTrip with
              latched := true, count := min 255 ((s.causeField .peerTrip).count + 1) }
          ∧ t.ParticipantsOk ∧ t.link.tripSlot = s.link.tripSlot ∧ t.timers.loopWait = none
          ∧ (s.RecordsOk → ∃ i r, t.records.current = some i ∧ t.records.slots.get i = some r
              ∧ r.closed = false ∧ r.number = some p.g ∧ r.origin = none ∧ r.confirmed = false
              ∧ r.ownPart = .follower ∧ r.coOrigins = [] ∧ r.firstCause = .peerTrip ∧ r.detail = 0
              ∧ r.timeMark = s.clock.timeMark ∧ r.stateAtTrip = s.st ∧ r.history = s.records.ring
              ∧ r.subsequent = [] ∧ r.tail = []))
      ∧ (∀ ctx, s.st.isTripped = true → s.cause.context = some ctx → ctx.number = none →
          p.signature = s.cfg.signature → p.state = 9 ∨ p.state = 10 → newer p.g s.cause.g = true →
          t.cause.g = p.g ∧ t.timers.loopWait = none ∧ t.st = s.st
          ∧ t.cause.context = some { ctx with number := some p.g, origin := none, confirmed := false }
          ∧ (s.records.current = none → t.records = s.records)
          ∧ (∀ i r, s.records.current = some i → s.records.slots.get i = some r →
              t.records = { s.records with slots := s.records.slots.set i (some { r with
                number := some p.g, origin := none, confirmed := false, ownPart := ctx.ownPart,
                coOrigins := ctx.coOrigins }) }))
      ∧ (∀ w : State, ¬(s.st.canTrip = true ∧ s.CallsFrom s.cause.g p) →
          w = (s.withEntry origin { kind := .drive, entry := .present, foreign := p.signature != s.cfg.signature,
                                    silence := 0, share := some p,
                                    nonRunning := if p.state = 3 ∨ p.state = 4 then
                                        min 255 ((s.entry origin).nonRunning + 1) else 0,
                                    heard := min 65535 ((s.entry origin).heard + 1) }).peerCauses.reevaluate →
          let member := origin ∈ w.peers.participants
          let confirming := w.st = .starting ∧ origin ∈ w.seq.confirmation ∧ 4 ≤ p.state.toNat ∧ p.state.toNat ≤ 7
          let turning := w.st = .breakaway ∧ member ∧ (p.state = 6 ∨ p.state = 7 ∨ p.state = 8)
          let higher := w.st = .breakaway ∧ member ∧ p.state = 5 ∧ w.limiter.stage < p.stage.toNat
          let settling := w.st.isTripped = true ∧ (∃ ctx, w.cause.context = some ctx ∧ ctx.number = none)
            ∧ s.CallsFrom w.cause.g p
          (¬confirming → ¬turning → ¬higher → ¬settling → t = { w with
            reg := { w.reg with trim :=
              if origin ∈ w.balancingSet ∧ s.loader.station ∈ w.balancingSet then w.trimNow else w.reg.trim }
            cause := { w.cause with
              g := if s.st = .joining ∧ p.signature = s.cfg.signature ∧ newer p.g s.cause.g = true then p.g
                   else w.cause.g } })
          ∧ (turning → w.cfg.minCreep ≤ w.count →
              t.st = (if w.seq.intended = .run ∧ w.cfg.minRun ≤ w.count then .run else .creep) ∧ t.limiter.stage = 0)
          ∧ (higher → t.st = .breakaway ∧ t.limiter.stage = p.stage.toNat
              ∧ t.limiter.stageValue = s.cfg.stageLevel p.stage.toNat
              ∧ t.timers.stage = some (s.cfg.stageTime * 1000) ∧ t.speed.stageEdges = 0))
      ∧ (s.ShareKeepsGroup origin p →
          (s.st = .starting → (∀ n ∈ s.seq.confirmation, n ∈ s.peers.participants) →
            origin ∈ s.seq.confirmation → p.state = 4 ∨ p.state = 5 →
            (s.seq.confirmation.filter (· ≠ origin) ≠ [] → t.st = .starting
              ∧ t.seq = { s.seq with confirmation := s.seq.confirmation.filter (· ≠ origin) })
            ∧ (s.seq.confirmation.filter (· ≠ origin) = [] →
                (∀ n ∈ s.peers.participants, n ≠ s.loader.station → n ≠ origin →
                  (s.entry n).shows StationState.regulating = false) →
                t.st = .breakaway ∧ t.seq.confirmation = [] ∧ t.timers.startWindow = none
                ∧ t.limiter.stage = (if p.state = 5 then max 1 p.stage.toNat else 1))
            ∧ (s.seq.confirmation.filter (· ≠ origin) = [] →
                (∃ n ∈ s.peers.participants, n ≠ s.loader.station ∧ n ≠ origin
                  ∧ (s.entry n).shows StationState.regulating = true) →
                t.st = (if s.seq.intended = .run ∧ s.cfg.minRun ≤ s.count then .run else .creep)
                ∧ t.seq.confirmation = [] ∧ t.timers.startWindow = none ∧ t.limiter.stage = 0))
          ∧ (s.st = .starting → (∀ n ∈ s.seq.confirmation, n ∈ s.peers.participants) →
            origin ∈ s.seq.confirmation → p.state = 6 ∨ p.state = 7 →
            (s.seq.confirmation.filter (· ≠ origin) ≠ [] → t.st = .starting
              ∧ t.seq = { s.seq with confirmation := s.seq.confirmation.filter (· ≠ origin) })
            ∧ (s.seq.confirmation.filter (· ≠ origin) = [] →
                t.st = (if s.seq.intended = .run ∧ s.cfg.minRun ≤ s.count then .run else .creep)
                ∧ t.seq.confirmation = [] ∧ t.timers.startWindow = none ∧ t.limiter.stage = 0))
          ∧ (s.st = .starting → (∀ n ∈ s.seq.confirmation, n ∈ s.peers.participants) → s.seq.confirmation ≠ [] →
              p.state = 3 ∨ p.state = 8 ∨ origin ∉ s.seq.confirmation → t.st = .starting ∧ t.seq = s.seq)
          ∧ (s.st = .breakaway → p.state = 6 ∨ p.state = 7 ∨ p.state = 8 →
              t.st = (if s.seq.intended = .run ∧ s.cfg.minRun ≤ s.count then .run else .creep)
              ∧ t.limiter.stage = 0)
          ∧ (s.st = .breakaway → p.state = 5 → s.limiter.stage < p.stage.toNat →
              t.st = .breakaway ∧ t.limiter.stage = p.stage.toNat
              ∧ t.limiter.stageValue = s.cfg.stageLevel p.stage.toNat
              ∧ t.timers.stage = some (s.cfg.stageTime * 1000) ∧ t.speed.stageEdges = 0)
          ∧ (s.st = .breakaway → p.state = 5 → p.stage.toNat ≤ s.limiter.stage →
              t.st = .breakaway ∧ t.limiter.stage = s.limiter.stage ∧ t.timers.stage = s.timers.stage
              ∧ t.speed = s.speed)
          ∧ (s.st.driving = true → p.state = 3 ∨ p.state = 4 → (s.causeField .outOfStep).present = false →
              ((s.entry origin).nonRunning = 0 → (t.causeField .outOfStep).present = false ∧ t.st = s.st)
              ∧ (1 ≤ (s.entry origin).nonRunning →
                  (t.causeField .outOfStep).latched = true
                  ∧ (t.causeField .outOfStep).count = min 255 ((s.causeField .outOfStep).count + 1)
                  ∧ (s.cause.actions.outOfStep.action = .trip → t.st = tripTarget s.st s.speed.standstill
                      ∧ (t.causeField .outOfStep).present = false ∧ t.cause.g = successor s.cause.g)
                  ∧ (s.cause.actions.outOfStep.action ≠ .trip → t.st = s.st
                      ∧ (t.causeField .outOfStep).present = true)))
          ∧ (s.st.regulating = true → p.state = 6 ∨ p.state = 7 ∨ p.state = 8 →
              t.st = s.st ∧ t.reg.trim = (if s.loader.station ∈ s.peers.participants then t.trimNow else 0)))

/-- A QUERY of each item 0 to 15, which commandOfQuery makes QUERY_STATUS, QUERY_CAUSE, QUERY_PEER, QUERY_ALLOWANCE,
QUERY_COUNTERS, QUERY_RECORD_HEAD, QUERY_RECORD_SNAP, QUERY_RECORD_LIST, QUERY_RECORD_ENTRY, QUERY_HISTORY (1 to 10) and
QUERY_NO_SUCH_ITEM (0, 11 to 15), delivered in state `u` (R154, R157): ignored for another target, in JOINING and while
MUTE; counted as dropped with four replies queued; else its REPLY is fixed from the state at its arrival and queued. -/
def Obligations.QueryAnswered : Prop :=
  ∀ (origin : Station) (item : BitVec 4) (q : QueryPayload) (s u : State), s.Reaches u origin classQuery →
    (q.target.toNat ≠ u.loader.station.val ∨ u.st = .joining ∨ u.link.mute = true →
      exec (commandOfQuery origin item q) s = .next u)
    ∧ (q.target.toNat = u.loader.station.val → u.st ≠ .joining → u.link.mute = false → 4 ≤ u.link.queue.length →
        exec (commandOfQuery origin item q) s = .next { u with link := { u.link with
          counters := { u.link.counters with repliesDropped := min 65535 (u.link.counters.repliesDropped + 1) } } })
    ∧ (q.target.toNat = u.loader.station.val → u.st ≠ .joining → u.link.mute = false → u.link.queue.length < 4 →
        exec (commandOfQuery origin item q) s = .next { u with link := { u.link with
          queue := u.link.queue ++ [{ tag := q.tag, item := 0#4 ++ item, status := (answerOf item q u).status,
                                      data := (answerOf item q u).data }] } })

/-- What each item reports (R158 to R161) in the words of section 11.5 (R169): the status by the first row that holds,
and the data of STATUS, CAUSE, PEER, COUNTERS, HISTORY, RECORD_HEAD, RECORD_SNAP, RECORD_LIST and RECORD_ENTRY and of
parts 0 and 2 of ALLOWANCE (part 1 stands in AllowanceIsSmallest); STATUS names the lowest code of a latched TRIP-action
cause, 0 with none. The model's choices: a co-origin's cause code modulo 32 (log 31), tag 0 while there is no last
outcome (log 46), the low 16 bits of a detail value (log 47). -/
def Obligations.ReplyContents : Prop :=
  ∀ (q : QueryPayload) (s : State),
    (∀ item : BitVec 4, item = 0 ∨ 11 ≤ item.toNat → answerOf item q s = .noSuchItem)
    ∧ (q.index ≠ 0 ∨ q.sub ≠ 0 → answerOf 1 q s = .indexRange)
    ∧ (q.index = 0 → q.sub = 0 → answerOf 1 q s = .ok
        [BitVec.ofNat 16 (4096 * s.st.code + 256 * s.loader.resetCause.code + s.loader.haltMark.toNat),
         s.cause.g, s.clock.timeMark.extractLsb' 16 16, s.clock.timeMark.extractLsb' 0 16,
         BitVec.ofNat 16 (match s.seq.lastOutcome with
           | some o => 16384 * o.source.code + 256 * o.code.code + o.tag.toNat
           | none => 0),
         BitVec.ofNat 16 (256 * s.lowestLatched + 16 * s.alertPresent.toNat + 8 * s.clampCausePresent.toNat
           + 4 * s.tripCauseLatched.toNat + 2 * s.link.mute.toNat + (s.causeField .selftestFail).latched.toNat)])
    ∧ ((∀ c, s.actionOf c = .trip → (s.causeField c).latched = false) → s.lowestLatched = 0)
    ∧ (∀ c, s.actionOf c = .trip → (s.causeField c).latched = true →
        (∀ d, s.actionOf d = .trip → (s.causeField d).latched = true → c.code ≤ d.code) → s.lowestLatched = c.code)
    ∧ (q.index = 0 ∨ 24 < q.index.toNat ∨ q.sub ≠ 0 → answerOf 2 q s = .indexRange)
    ∧ (∀ c : Cause, q.index.toNat = c.code → q.sub = 0 → (s.causeField c).count ≤ 255 → answerOf 2 q s = .ok
        [BitVec.ofNat 16 (32768 * (s.causeField c).present.toNat + 16384 * (s.causeField c).latched.toNat
          + 4096 * (s.actionOf c).code + (s.causeField c).count), BitVec.ofNat 16 (s.cause.actions.level c)])
    ∧ (7 < q.index.toNat ∨ 2 < q.sub.toNat → answerOf 3 q s = .indexRange)
    ∧ (∀ n : Station, q.index.toNat = n.val →
        (q.sub = 0 → (s.entry n).silence ≤ 10 → answerOf 3 q s = .ok
          [BitVec.ofNat 16 (16384 * (s.entry n).kind.code + 4096 * (s.entry n).entry.code
            + 2048 * (s.entry n).foreign.toNat + 1024 * (s.entry n).share.isSome.toNat + (s.entry n).silence),
           BitVec.ofNat 16 (s.entry n).nonRunning, BitVec.ofNat 16 (s.entry n).heard])
        ∧ (q.sub.toNat = 1 ∨ q.sub.toNat = 2 → (s.entry n).share = none → answerOf 3 q s = .absent [])
        ∧ (∀ p, (s.entry n).share = some p →
            (q.sub.toNat = 1 → answerOf 3 q s = .ok [p.word0, p.feedback, p.allowance, p.speed, p.g, p.signature])
            ∧ (q.sub.toNat = 2 → answerOf 3 q s = .ok [p.word6, p.outcomeCode ++ p.outcomeTag])))
    ∧ (2 < q.index.toNat ∨ q.sub ≠ 0 → answerOf 4 q s = .indexRange)
    ∧ (q.index = 0 → q.sub = 0 → answerOf 4 q s = .ok (([s.limiter.rated, s.limiter.stageValue,
          s.limiter.bandValue, s.limiter.creepCap, s.limiter.ceiling, s.limiter.overloadValue]).map (BitVec.ofNat 16)))
    ∧ (q.index.toNat = 2 → q.sub = 0 → answerOf 4 q s = .ok
        [BitVec.ofNat 16 (32768 * s.limiter.clamp.active.toNat + 256 * s.limiter.clamp.origin.val
          + s.limiter.clamp.causeCode.toNat),
         BitVec.ofNat 16 s.limiter.clamp.level, BitVec.ofNat 16 s.limiter.clamp.remaining])
    ∧ (1 < q.index.toNat ∨ q.sub ≠ 0 → answerOf 5 q s = .indexRange)
    ∧ (q.index = 0 → q.sub = 0 → answerOf 5 q s = .ok (([s.link.counters.receivedValid, s.link.counters.checkErrors,
          s.link.counters.framingErrors, s.link.counters.arbitrationLosses, s.link.counters.echoFaults,
          s.link.counters.shareOvertaken]).map (BitVec.ofNat 16)))
    ∧ (q.index.toNat = 1 → q.sub = 0 → answerOf 5 q s = .ok (([s.link.counters.repliesDropped,
          s.link.counters.staleTrips, s.link.counters.wrongSenderKind]).map (BitVec.ofNat 16)))
    ∧ (47 < q.index.toNat ∨ 2 < q.sub.toNat → answerOf 10 q s = .indexRange)
    ∧ (q.index.toNat ≤ 47 → q.sub.toNat ≤ 2 → s.records.ring.length ≤ q.index.toNat → answerOf 10 q s = .absent [])
    ∧ (∀ e, q.index.toNat ≤ 47 → s.records.ring[q.index.toNat]? = some e →
        (q.sub = 0 → answerOf 10 q s = .ok [e.timeMark.extractLsb' 16 16, e.timeMark.extractLsb' 0 16,
          BitVec.ofNat 16 (4096 * e.state.code + e.limiting.code), BitVec.ofNat 16 e.speed])
        ∧ (q.sub.toNat = 1 → answerOf 10 q s = .ok
            [BitVec.ofInt 16 e.feedback, BitVec.ofNat 16 e.reference, BitVec.ofNat 16 e.allowance])
        ∧ (q.sub.toNat = 2 → answerOf 10 q s = .ok [BitVec.ofNat 16 e.vibRms, BitVec.ofNat 16 e.vibPeak]))
    ∧ (7 < q.index.toNat ∨ 1 < q.sub.toNat → answerOf 6 q s = .indexRange ∧ answerOf 7 q s = .indexRange)
    ∧ (7 < q.index.toNat ∨ 5 < q.sub.toNat → answerOf 8 q s = .indexRange)
    ∧ (7 < q.index.toNat ∨ 191 < q.sub.toNat → answerOf 9 q s = .indexRange)
    ∧ (∀ i : Fin 8, q.index.toNat = i.val → s.records.slots.get i = none →
        (q.sub.toNat ≤ 1 → answerOf 6 q s = .absent [] ∧ answerOf 7 q s = .absent [])
        ∧ (q.sub.toNat ≤ 5 → answerOf 8 q s = .absent []) ∧ (q.sub.toNat ≤ 191 → answerOf 9 q s = .absent []))
    ∧ (∀ (i : Fin 8) (r : TripRecord), q.index.toNat = i.val → s.records.slots.get i = some r → r.Ok s.records.serial →
        let ident : List Word := [r.number.getD 0, BitVec.ofNat 16 r.serial]
        (q.sub = 0 → answerOf 6 q s = .ok (ident ++
          [BitVec.ofNat 16 (16384 * (if r.closed then 2 else 1) + 8192 * r.keep.toNat + 2048 * r.ownPart.code
            + 128 * (match r.origin with | some n => n.val | none => 8) + 64 * r.confirmed.toNat
            + 32 * r.tailCut.toNat),
           BitVec.ofNat 16 (256 * r.firstCause.code + r.stateAtTrip.code), BitVec.ofInt 16 r.detail,
           BitVec.ofNat 16 (1024 * r.history.length + 32 * r.tail.length + r.coOrigins.length % 8)]))
        ∧ (q.sub = 1 → answerOf 6 q s = .ok (ident ++ [r.timeMark.extractLsb' 16 16, r.timeMark.extractLsb' 0 16,
            BitVec.ofNat 16 (256 * r.subsequent.length + r.overflow)]))
        ∧ (q.sub = 0 → answerOf 7 q s = .ok (ident ++ [BitVec.ofInt 16 r.snapshot.feedback,
            BitVec.ofNat 16 r.snapshot.reference, BitVec.ofNat 16 r.snapshot.allowance,
            BitVec.ofNat 16 r.snapshot.speed]))
        ∧ (∀ n, n < 4 → q.sub.toNat = n + 2 →
            (∀ x, r.subsequent[n]? = some x → answerOf 8 q s = .ok (ident ++
              [BitVec.ofNat 16 x.cause.code, BitVec.ofNat 16 x.offset, x.number.getD 0]))
            ∧ (r.subsequent[n]? = none → answerOf 8 q s = .absent ident))
        ∧ (q.sub = 1 → r.snapshot.stage ≤ 3 → r.snapshot.overloadPercent ≤ 100 → answerOf 7 q s = .ok (ident ++
            [BitVec.ofNat 16 r.snapshot.vibRms, BitVec.ofNat 16 r.snapshot.vibPeak,
             BitVec.ofNat 16 (8192 * r.snapshot.limiting.code + 2048 * r.snapshot.stage
               + r.snapshot.overloadPercent)]))
        ∧ (let byte : Nat → Nat := fun k => match r.coOrigins[k]? with
             | some c => 32 * c.station.val + c.causeCode.toNat % 32
             | none => 0
           q.sub = 0 → answerOf 8 q s = .ok (ident ++ [BitVec.ofNat 16 (256 * byte 0 + byte 1),
             BitVec.ofNat 16 (256 * byte 2 + byte 3), BitVec.ofNat 16 (256 * byte 4 + byte 5),
             BitVec.ofNat 16 (256 * byte 6)]))
        ∧ (let byte : Nat → Nat := fun k => match r.subsequent[k]? with
             | some x => x.cause.code
             | none => 0
           q.sub = 1 → answerOf 8 q s = .ok (ident ++ [BitVec.ofNat 16 (256 * byte 0 + byte 1),
             BitVec.ofNat 16 (256 * byte 2 + byte 3)]))
        ∧ (let position := q.sub.toNat % 64
           let found := if position < 48 then r.history[position]? else r.tail[position - 48]?
           q.sub.toNat ≤ 191 → (found = none → answerOf 9 q s = .absent ident)
            ∧ (∀ e, found = some e →
              (q.sub.toNat / 64 = 0 → answerOf 9 q s = .ok (ident ++
                [e.timeMark.extractLsb' 16 16, e.timeMark.extractLsb' 0 16,
                 BitVec.ofNat 16 (4096 * e.state.code + e.limiting.code), BitVec.ofNat 16 e.speed]))
              ∧ (q.sub.toNat / 64 = 1 → answerOf 9 q s = .ok (ident ++
                [BitVec.ofInt 16 e.feedback, BitVec.ofNat 16 e.reference, BitVec.ofNat 16 e.allowance]))
              ∧ (q.sub.toNat / 64 = 2 → answerOf 9 q s = .ok (ident ++
                [BitVec.ofNat 16 e.vibRms, BitVec.ofNat 16 e.vibPeak])))))

/-- TRANSMIT_START, ARBITRATION_LOSS and TRANSMIT_SUCCESS (R117, R143, R147 to R149, R152 to R154): at idle, ten
recessive bits read, where a bit time begins, the pending frame of the lowest class goes to the transmitter, a REPLY
staying at the head of its queue, and a frame that finds the line not idle waits; a pending frame at idle is an own
event at the beginning of the next bit time (how bit times pass is the model's, log 12). Another station's start bit, an
operand of the model's (log 12), sets the idle count to 0, and no start bit of this station's own is due or sent while
that frame is on the line, however long it lasts; an inactive controller counts no bit, and a station that sends, or is
held in reset, reads no start bit. A loss is counted, the winner's frame is received, and the frame goes back to its
slot unless a newer one stands there (a SHARE overtaken so is counted) or it is a ROLL after joining; a success clears
the consecutive count, takes the frame away and delivers the echo, which the own entry counts. The own echo of a TRIP is
handled as any TRIP frame is. -/
def Obligations.FramesSent : Prop :=
  ∀ s : State,
    (s.link.active = true → s.link.mute = false → s.link.transmitter = none → s.link.idle = 10 →
      s.link.bitMicros = 0 →
      (∀ p, s.link.tripSlot = some p → exec (.transmitStart .own) s = .next { s with link := { s.link with
        transmitter := some (.trip p), tripSlot := none, idle := 0 } })
      ∧ (∀ p, s.link.tripSlot = none → s.link.clampSlot = some p →
          exec (.transmitStart .own) s = .next { s with link := { s.link with
            transmitter := some (.clamp p), clampSlot := none, idle := 0 } })
      ∧ (∀ p, s.link.tripSlot = none → s.link.clampSlot = none → s.link.shareSlot = some p →
          exec (.transmitStart .own) s = .next { s with link := { s.link with
            transmitter := some (.share p), shareSlot := none, idle := 0 } })
      ∧ (∀ p rest, s.link.tripSlot = none → s.link.clampSlot = none → s.link.shareSlot = none →
          s.link.queue = p :: rest →
          exec (.transmitStart .own) s = .next { s with link := { s.link with transmitter := some (.reply p), idle := 0 } })
      ∧ (∀ p, s.link.tripSlot = none → s.link.clampSlot = none → s.link.shareSlot = none → s.link.queue = [] →
          s.link.rollSlot = some p →
          exec (.transmitStart .own) s = .next { s with link := { s.link with
            transmitter := some (.roll p), rollSlot := none, idle := 0 } })
      ∧ (s.link.tripSlot = none → s.link.clampSlot = none → s.link.shareSlot = none → s.link.queue = [] →
          s.link.rollSlot = none → exec (.transmitStart .own) s = .next s)
      ∧ (Instr.transmitStart .own ∈ s.dueEvents ↔ s.link.tripSlot ≠ none ∨ s.link.clampSlot ≠ none
          ∨ s.link.shareSlot ≠ none ∨ s.link.queue ≠ [] ∨ s.link.rollSlot ≠ none))
    ∧ (s.link.active = false ∨ s.link.mute = true ∨ s.link.idle ≠ 10 ∨ s.link.bitMicros ≠ 0
          ∨ s.link.transmitter ≠ none →
        exec (.transmitStart .own) s = .next s ∧ Instr.transmitStart .own ∉ s.dueEvents)
    ∧ (s.inReset = false → s.link.active = true → s.link.mute = false → s.link.transmitter = none →
        s.link.lineBusy = false → s.link.abortBits = 0 → s.link.idle = 10 →
        s.link.tripSlot ≠ none ∨ s.link.clampSlot ≠ none ∨ s.link.shareSlot ≠ none ∨ s.link.queue ≠ []
          ∨ s.link.rollSlot ≠ none →
        0 < s.link.bitMicros → s.link.bitMicros < s.cfg.bitTime →
        ∀ n, n ≤ s.cfg.bitTime - s.link.bitMicros →
          (Instr.transmitStart .own ∈ (s.elapse n).dueEvents ↔ n = s.cfg.bitTime - s.link.bitMicros))
    ∧ (s.inReset = false → s.link.transmitter = none → s.link.abortBits = 0 → s.link.active = true →
        ∃ t, exec (.transmitStart .another) s = .next t
          ∧ t = { s with link := { s.link with lineBusy := true, idle := 0, bitMicros := 0 } }
          ∧ ∀ (n : Nat) (u : State), u = t.elapse n → u.link = t.link ∧ Instr.transmitStart .own ∉ u.dueEvents
              ∧ exec (.transmitStart .own) u = .next u)
    ∧ (s.inReset = false → s.link.transmitter = none → s.link.abortBits = 0 → s.link.active = false →
        exec (.transmitStart .another) s = .next { s with link := { s.link with lineBusy := true } })
    ∧ (s.inReset = true ∨ s.link.transmitter ≠ none ∨ s.link.abortBits ≠ 0 →
        exec (.transmitStart .another) s = .next s)
    ∧ (s.link.transmitter = none → exec .arbitrationLoss s = .next s ∧ exec .transmitSuccess s = .next s)
    ∧ (∀ f, s.link.transmitter = some f → exec .arbitrationLoss s = .next { s with link := { s.link with
        transmitter := none, idle := 0, bitMicros := 0, lineBusy := true
        tripSlot := match f with
          | .trip p => if s.link.tripSlot = none then some p else s.link.tripSlot
          | _ => s.link.tripSlot
        clampSlot := match f with
          | .clamp p => if s.link.clampSlot = none then some p else s.link.clampSlot
          | _ => s.link.clampSlot
        shareSlot := match f with
          | .share p => if s.link.shareSlot = none then some p else s.link.shareSlot
          | _ => s.link.shareSlot
        rollSlot := match f with
          | .roll p => if s.st = .joining ∧ s.link.rollSlot = none then some p else s.link.rollSlot
          | _ => s.link.rollSlot
        counters := { s.link.counters with
          arbitrationLosses := min 65535 (s.link.counters.arbitrationLosses + 1)
          shareOvertaken := match f with
            | .share _ => if s.link.shareSlot = none then s.link.counters.shareOvertaken
                else min 65535 (s.link.counters.shareOvertaken + 1)
            | _ => s.link.counters.shareOvertaken } } })
    ∧ (∀ (f : TxFrame) (sent : State), s.link.transmitter = some f →
        sent = { s with
          link := { s.link with
            transmitter := none, consecutive := 0, idle := 6, bitMicros := 0, abortBits := 0, lineBusy := false
            queue := match f with | .reply _ => s.link.queue.tail | _ => s.link.queue
            counters := { s.link.counters with receivedValid := min 65535 (s.link.counters.receivedValid + 1) } }
          peers := { s.peers with
            entries := s.peers.entries.set s.loader.station { s.entry s.loader.station with
              heard := min 65535 ((s.entry s.loader.station).heard + 1) } } } →
        (∀ p, f = .share p → exec .transmitSuccess s = .next sent)
        ∧ (∀ p, f = .reply p → exec .transmitSuccess s = .next sent)
        ∧ (∀ p, f = .roll p → exec .transmitSuccess s = .next sent)
        ∧ (∀ p, f = .clamp p → (s.entry s.loader.station).foreign = false → p.hold ≠ 0 →
            s.limiter.clamp.active = false ∨ p.level.toNat ≤ s.limiter.clamp.level →
            ∃ t, exec .transmitSuccess s = .next t
              ∧ t.limiter.clamp = { active := true, level := p.level.toNat, origin := s.loader.station,
                                    causeCode := p.causeCode, remaining := p.hold.toNat, remainingUs := 0 }
              ∧ t.link = sent.link)
        ∧ (∀ p, f = .clamp p → (s.entry s.loader.station).foreign = true ∨ p.hold = 0
              ∨ (s.limiter.clamp.active = true ∧ s.limiter.clamp.level < p.level.toNat) →
            exec .transmitSuccess s = .next sent)
        ∧ (∀ p ctx, f = .trip p → s.st.isTripped = true → s.cause.context = some ctx →
            ctx.number = some p.number → ctx.confirmed = false →
            exec .transmitSuccess s = .next (sent.changeContext { ctx with
              origin := some s.loader.station, confirmed := true }))
        ∧ (∀ p ctx, f = .trip p → s.st.isTripped = true → s.cause.context = some ctx →
            ctx.number = some p.number → ctx.confirmed = true →
            ctx.origin ≠ some s.loader.station → s.loader.station ∉ ctx.coOrigins.map (·.station) →
            exec .transmitSuccess s = .next (sent.changeContext { ctx with
              coOrigins := ctx.coOrigins ++ [⟨s.loader.station, p.causeCode⟩] }))
        ∧ (∀ p ctx, f = .trip p → s.st.isTripped = true → s.cause.context = some ctx →
            ctx.number = some p.number → ctx.confirmed = true →
            ctx.origin = some s.loader.station ∨ s.loader.station ∈ ctx.coOrigins.map (·.station) →
            exec .transmitSuccess s = .next sent)
        ∧ (∀ p, f = .trip p → newer p.number s.cause.g = false → s.st.canTrip = true ∨ s.st = .lockout
              ∨ (s.st.isTripped = true ∧ ∀ ctx, s.cause.context = some ctx → ctx.number ≠ some p.number) →
            exec .transmitSuccess s = .next { sent with link := { sent.link with counters := { sent.link.counters with
              staleTrips := min 65535 (s.link.counters.staleTrips + 1) } } })
        ∧ (∀ p, f = .trip p → s.st = .lockout → newer p.number s.cause.g = true →
            exec .transmitSuccess s = .next { sent with cause := { s.cause with g := p.number } })
        ∧ (∀ p, f = .trip p → s.st = .joining → exec .transmitSuccess s = .next sent))

/-- ECHO_FAULT (R149, R150, R153, R86, R111, R133) and FRAME_DISCARD (R143, R147, R151). Below the fourth fault in a row
the fault is counted, the abort mark of eight bits begins, and the frame of each class goes back as after a loss. The
fourth makes the station MUTE, its slots and queue emptied; a CLAMP from the transmitter, then one from its slot, is
applied here as R85 states, and LINK_TRANSMIT rises with the class code as its detail. A discarded frame, whose bits
from the start bit on the command carries (log 13), adds to the counter of its first fault and changes nothing else but
the idle count, which goes on over the bits read (log 12), and the line, which it no longer holds; while inactive that
alone changes, and before ten recessive bits have been read it is bits only. A frame that has ended lies after an abort
mark that had begun, so that no bit of the mark is still to come (log 12). -/
def Obligations.EchoFaultsAndDiscards : Prop :=
  (∀ (s : State) (f : TxFrame), s.link.transmitter = some f → s.link.consecutive < 3 →
    exec .echoFault s = .next { s with link := { s.link with
      transmitter := none, idle := 0, bitMicros := 0, abortBits := 8, consecutive := s.link.consecutive + 1
      tripSlot := match f with
        | .trip p => if s.link.tripSlot = none then some p else s.link.tripSlot
        | _ => s.link.tripSlot
      clampSlot := match f with
        | .clamp p => if s.link.clampSlot = none then some p else s.link.clampSlot
        | _ => s.link.clampSlot
      shareSlot := match f with
        | .share p => if s.link.shareSlot = none then some p else s.link.shareSlot
        | _ => s.link.shareSlot
      rollSlot := match f with
        | .roll p => if s.st = .joining ∧ s.link.rollSlot = none then some p else s.link.rollSlot
        | _ => s.link.rollSlot
      counters := { s.link.counters with
        echoFaults := min 65535 (s.link.counters.echoFaults + 1)
        shareOvertaken := match f with
          | .share _ => if s.link.shareSlot = none then s.link.counters.shareOvertaken
              else min 65535 (s.link.counters.shareOvertaken + 1)
          | _ => s.link.counters.shareOvertaken } } })
  ∧ (∀ s : State, s.link.transmitter = none → exec .echoFault s = .next s)
  ∧ (∀ (s : State) (f : TxFrame), s.link.transmitter = some f → s.link.consecutive = 3 → s.link.mute = false →
    let applied : ClampRecord → ClampPayload → ClampRecord := fun c p =>
      if (s.entry s.loader.station).foreign = true ∨ p.hold = 0 ∨ (c.active = true ∧ c.level < p.level.toNat) then c
      else { active := true, level := p.level.toNat, origin := s.loader.station, causeCode := p.causeCode,
             remaining := p.hold.toNat, remainingUs := 0 }
    let first := match f with | .clamp p => applied s.limiter.clamp p | _ => s.limiter.clamp
    ∃ t, exec .echoFault s = .next t
      ∧ t.link.consecutive = 4 ∧ t.link.mute = true ∧ t.link.transmitter = none
      ∧ t.link.tripSlot = none ∧ t.link.clampSlot = none ∧ t.link.shareSlot = none ∧ t.link.rollSlot = none
      ∧ t.link.queue = [] ∧ t.link.idle = 0 ∧ t.link.abortBits = 8
      ∧ t.link.faultClass = some (match f with
          | .trip _ => 0 | .clamp _ => 1 | .share _ => 4 | .reply _ => 6 | .roll _ => 7)
      ∧ t.link.counters.echoFaults = min 65535 (s.link.counters.echoFaults + 1)
      ∧ t.limiter.clamp = (match s.link.clampSlot with | some q => applied first q | none => first)
      ∧ (s.st.joined = false → t.st = s.st ∧ t.causeField .linkTransmit = s.causeField .linkTransmit)
      ∧ (s.st.joined = true → (s.causeField .linkTransmit).present = false →
          t.causeField .linkTransmit = { present := true, latched := true,
                                         count := min 255 ((s.causeField .linkTransmit).count + 1) }
          ∧ (s.st.canTrip = true → t.st = tripTarget s.st s.speed.standstill ∧ t.cause.g = successor s.cause.g)
          ∧ (s.st.canTrip = true → s.RecordsOk → ∃ i r, t.records.current = some i
              ∧ t.records.slots.get i = some r ∧ r.firstCause = .linkTransmit ∧ r.detail = (f.classCode : Int)
              ∧ r.closed = false ∧ r.stateAtTrip = s.st)))
  ∧ (∀ (idle : Nat) (b : Bool) (rest : List Bool), idleAfter idle [] = idle
      ∧ idleAfter idle (b :: rest) = idleAfter (if b then min 10 (idle + 1) else 0) rest)
  ∧ (∀ (s : State) (bits : List Bool), s.link.active = false →
      exec (.frameDiscard bits) s = .next { s with link := { s.link with lineBusy := false } })
  ∧ (∀ (s : State) (bits : List Bool), s.link.active = true → s.link.listening = false →
      exec (.frameDiscard bits) s = .next { s with link := { s.link with
        idle := idleAfter s.link.idle bits, bitMicros := 0, abortBits := 0, lineBusy := false
        listening := decide (idleAfter s.link.idle bits = 10) } })
  ∧ (∀ (s : State) (bits : List Bool), s.link.active = true → s.link.listening = true →
      receive bits = .noStart ∨ (∃ f, receive bits = .valid f) → exec (.frameDiscard bits) s = .next s)
  ∧ ∀ (s : State) (bits : List Bool) (fault : FrameFault) (used : Nat), s.link.active = true →
      s.link.listening = true → receive bits = .discarded fault used →
      (fault = .checkWord → exec (.frameDiscard bits) s = .next { s with link := { s.link with
        idle := idleAfter (idleAtDiscard bits fault used) (bits.drop used), bitMicros := 0, abortBits := 0
        lineBusy := false
        counters := { s.link.counters with checkErrors := min 65535 (s.link.counters.checkErrors + 1) } } })
      ∧ (fault ≠ .checkWord → exec (.frameDiscard bits) s = .next { s with link := { s.link with
        idle := idleAfter (idleAtDiscard bits fault used) (bits.drop used), bitMicros := 0, abortBits := 0
        lineBusy := false
        counters := { s.link.counters with framingErrors := min 65535 (s.link.counters.framingErrors + 1) } } })

/-- SETTLE_TIME_EXPIRY and PARAMETER_READ_COMPLETE (R162 to R164, R170, R6, R13, R51, R67, R74, R82, R92, R143, R165):
the straps give the station number and the read begins: SPI_CS_N is active and 03h, 00h, 00h are sent, and otherwise no
byte is, SPI_SCK standing at its idle level in every state since a transfer's clock pulses are within one event, the
model's choice (log 36); a block that passes gives the settings, the guard word, the allowance record, the timers and
the first ROLL of JOINING, the filter of 10 ms of each local input whose pin is then active (R38; log 14), and the first
comparison of the supply with the warning level, which is made with the supply then held and presents nothing yet (R168;
log 30), and the strobe of the first period is one more in the model's own count (log 39), and a frame then on the line
still holds it (R143, log 12); one that fails leaves FAULT_HALT with the settings not taken. The checks of R164 in its
order, every range of sections 3.1, 4.1, 5.1 and 10.3 and of R110, and the bits that carry no field. -/
def Obligations.StartUp : Prop :=
  (∀ (straps : BitVec 3) (s : State), s.st = .loading → s.timers.settle.isSome = true →
    exec (.settleTimeExpiry straps) s = .next { s with
      timers := { s.timers with settle := none }
      inputs := { s.inputs with straps := straps }
      loader := { s.loader with station := Fin.ofNat 8 straps.toNat, step := .reading } })
  ∧ (∀ s : State, (s.loader.step = .reading → s.spiSelected = true ∧ s.spiSent = [3, 0, 0])
      ∧ (s.loader.step ≠ .reading → s.spiSelected = false ∧ s.spiSent = []) ∧ s.spiClockHigh = false)
  ∧ (∀ (bytes : List Byte) (s : State) (check : BlockCheck), s.st = .loading → s.loader.step = .reading →
    bytes.length = 130 → checkBlock bytes = .error check →
    ∃ t, exec (.parameterReadComplete bytes) s = .next t
      ∧ t.st = .faultHalt ∧ t.lines = { convEn := false, brkRel := false, loopDrive := false, fault := true }
      ∧ t.loader = { s.loader with step := .done } ∧ t.link = s.link ∧ t.records = s.records
      ∧ t.cause.g = s.cause.g ∧ (∀ c, (t.causeField c).latched = (s.causeField c).latched))
  ∧ (∀ (bytes : List Byte) (s : State) (w : Settings), s.st = .loading → s.loader.step = .reading →
    bytes.length = 130 → checkBlock bytes = .ok w →
    ∃ t, exec (.parameterReadComplete bytes) s = .next t
      ∧ t.st = .joining ∧ t.lines = { convEn := false, brkRel := false, loopDrive := false, fault := false }
      ∧ t.loader = { s.loader with settings := some w, guardWord := crc16 (bitsOfWords w), step := .done }
      ∧ t.limiter.rated = w.ratedCeiling ∧ t.limiter.creepCap = w.creepCap
      ∧ t.limiter.overloadValue = w.continuousRating ∧ t.limiter.envelope = w.envelope
      ∧ t.limiter.stageValue = 0 ∧ t.limiter.band = 0 ∧ t.limiter.ceiling = w.ratedCeiling
      ∧ t.limiter.account = min s.limiter.account (w.overloadCapacity * 1000) ∧ t.limiter.limit = s.limiter.limit
      ∧ t.AllowanceOk ∧ t.vib.allowance = w.ratedCeiling ∧ t.cause.actions = w.actions
      ∧ t.cause.g = s.cause.g
      ∧ (t.entry s.loader.station).kind = .drive ∧ (t.entry s.loader.station).entry = .present
      ∧ t.timers.aging = some (w.sharePeriod * 1000) ∧ t.timers.guard = some (w.sharePeriod * 1000)
      ∧ t.timers.surge = some (w.surgeInterval * 1000)
      ∧ t.timers.lstopFilter = (if s.inputs.lstopPin = true then some 10000 else none)
      ∧ t.timers.maintFilter = (if s.inputs.maintPin = true then some 10000 else none)
      ∧ t.seq.lstop = s.seq.lstop ∧ t.seq.maint = s.seq.maint ∧ t.inputs = s.inputs
      ∧ t.monitor = { s.monitor with supplyLow := decide (s.inputs.supplyMillivolts < 2850 + 50 * w.supplyStep) }
      ∧ (∀ c, (t.causeField c).latched = (s.causeField c).latched ∧ (t.causeField c).count = (s.causeField c).count)
      ∧ (t.causeField .supplyLow) = s.causeField .supplyLow
      ∧ t.gen.period = some w.carrierPeriod ∧ t.gen.onCount = 0 ∧ t.gen.offCount = w.carrierPeriod
      ∧ t.gen.strobes = s.gen.strobes + 1
      ∧ t.link.active = true ∧ t.link.idle = 0 ∧ t.link.listening = false ∧ t.link.lineBusy = s.link.lineBusy
      ∧ (s.link.mute = false → t.link.rollSlot = some
          { signature := w.signature, g := s.cause.g, state := 1,
            resetCause := BitVec.ofNat 2 s.loader.resetCause.code, haltMark := s.loader.haltMark })
      ∧ t.records = s.records)
  ∧ ∀ bytes : List Byte, bytes.length = 130 →
      ((∀ b ∈ bytes, b = 0xFF) → checkBlock bytes = .error .blank)
      ∧ (∀ w, checkBlock bytes = .ok w → w.length = 64 ∧ w = (wordsOfBytes bytes).take 64
          ∧ crc16 (bitsOfWords w) = (wordsOfBytes bytes).getD 64 0
          ∧ w.b1 < w.b2 ∧ w.b2 < w.b3 ∧ w.minCreep ≤ w.minRun ∧ w.minRun ≤ w.groupSize
          ∧ w.derateFloor ≤ w.ratedCeiling ∧ 4 ≤ w.sharePeriod ∧ w.sharePeriod ≤ 40)
      ∧ (let w : Settings := (wordsOfBytes bytes).take 64
         let ranges : List (Nat × Nat × Nat) :=
           [(0, w.bitRateCode, 2), (4, w.sharePeriod, 40), (2, w.groupSize, 6), (1, w.minRun, 6), (1, w.minCreep, 6),
            (200, w.demandTimeout, 5000), (5, w.loopWait, 200), (50, w.clearWindow, 2000), (0, w.supplyStep, 7),
            (0, w.vibInputAction, 2), (0, w.surgeAction, 2), (0, w.peerLostAction, 2), (0, w.outOfStepAction, 2),
            (0, w.supplyLowAction, 2), (100, w.vibInputLevel, 1500), (100, w.surgeLevel, 1500),
            (100, w.peerLostLevel, 1500), (100, w.outOfStepLevel, 1500), (100, w.supplyLowLevel, 1500)]
           ++ [(0, w.edgeSelect, 2), (1000000, w.tachConstant, 4000000000), (100, w.standstillTime, 2000),
            (1000, w.overspeedLimit, 1400), (100, w.maxSpeed, 1500), (10, w.creepSpeed, 300), (1, w.accelRate, 1000),
            (1, w.decelRate, 1000), (0, w.kp, 32767), (0, w.ki, 32767), (0, w.kpc, 32767), (0, w.kic, 32767),
            (0, w.kb, 32767), (0, w.trimLimit, 500), (1, w.slewLimit, 200), (1000, w.overcurrentLimit, 3000),
            (500, w.maxConduction, 1000), (500, w.carrierPeriod, 5000)]
           ++ [(500, w.ratedCeiling, 1500), (1, w.b1, 1500), (1, w.b2, 1500), (1, w.b3, 1500),
            (500, w.envelope.b0, 2000), (500, w.envelope.b1, 2000), (500, w.envelope.b2, 2000),
            (500, w.envelope.b3, 2000), (200, w.creepCap, 1500), (800, w.continuousRating, 1200),
            (1000000, w.overloadCapacity, 100000000), (500, w.stageLevel 1, 2000), (500, w.stageLevel 2, 2000),
            (500, w.stageLevel 3, 2000), (200, w.stageTime, 5000), (1, w.rotationEdges, 16), (1, w.jamSpeed, 200),
            (1000, w.jamTime, 10000), (20, w.surgeInterval, 500), (50, w.surgeThreshold, 1500),
            (100, w.clampHold, 10000)]
           ++ [(1, w.alertRms 0, 29000), (1, w.alertRms 1, 29000), (1, w.alertRms 2, 29000), (1, w.alertRms 3, 29000),
            (1, w.tripRms 0, 29000), (1, w.tripRms 1, 29000), (1, w.tripRms 2, 29000), (1, w.tripRms 3, 29000),
            (1, w.tripPeak 0, 29000), (1, w.tripPeak 1, 29000), (1, w.tripPeak 2, 29000), (1, w.tripPeak 3, 29000),
            (1, w.alertPersistence, 8), (1, w.tripPersistence, 8), (1, w.derateStep, 200), (300, w.derateFloor, 1000),
            (1, w.recoveryWindows, 64), (10, w.silenceTime, 1000)]
         let blank := ∀ b ∈ bytes, b = 0xFF
         let crcOk := crc16 (bitsOfWords w) = (wordsOfBytes bytes).getD 64 0
         let inRange := (∀ x ∈ ranges, x.1 ≤ x.2.1 ∧ x.2.1 ≤ x.2.2)
           ∧ (w.getD 18 0).getLsbD 9 = false ∧ (w.getD 44 0).getLsbD 1 = false ∧ (w.getD 44 0).getLsbD 2 = false
         let consistent := w.b1 < w.b2 ∧ w.b2 < w.b3 ∧ w.minCreep ≤ w.minRun ∧ w.minRun ≤ w.groupSize
           ∧ w.derateFloor ≤ w.ratedCeiling
         (¬blank → ¬crcOk → checkBlock bytes = .error .checkWord)
         ∧ (¬blank → crcOk → ¬inRange → checkBlock bytes = .error .ranges)
         ∧ (¬blank → crcOk → inRange → ¬consistent → checkBlock bytes = .error .consistency)
         ∧ (¬blank → crcOk → inRange → consistent → checkBlock bytes = .ok w))

/-- GUARD_TIMER_EXPIRY, SETTINGS_UPSET and SUPPLY_LEVEL_CROSSING (R165, R168): a CRC as at the copy restarts the timer,
another stops it and presents SETTINGS_GUARD with the CRC found; an upset alters one stored word and nothing else (no
copied value follows it, log 9; no comparison of the supply is made at it, log 44); SUPPLY_LOW holds below the warning
level and ends 20 mV above it, compared in mV (log 30) from the moment the settings are taken to the next reset, in
FAULT_HALT entered from JOINING too, where nothing is presented. -/
def Obligations.GuardAndSupply : Prop :=
  (∀ s : State, s.timers.guard.isSome = true →
    (crc16 (bitsOfWords s.cfg) = s.loader.guardWord →
      exec .guardTimerExpiry s
        = .next { s with timers := { s.timers with guard := some (s.cfg.sharePeriod * 1000) } })
    ∧ (crc16 (bitsOfWords s.cfg) ≠ s.loader.guardWord →
        exec .guardTimerExpiry s = .next (State.present
          { s with timers := { s.timers with guard := none }
                   loader := { s.loader with guardFound := some (crc16 (bitsOfWords s.cfg)) } }
          .settingsGuard true (crc16 (bitsOfWords s.cfg)).toNat)))
  ∧ (∀ (i : Fin 64) (v : Word) (s : State) (w : Settings), s.loader.settings = some w →
      exec (.settingsUpset i v) s = .next { s with loader := { s.loader with settings := some (w.set i.val v) } })
  ∧ (∀ (i : Fin 64) (v : Word) (s : State), s.loader.settings = none → exec (.settingsUpset i v) s = .next s)
  ∧ (∀ (mv : Nat) (s : State), s.loader.settings = none →
      exec (.supplyLevelCrossing mv) s = .next { s with inputs := { s.inputs with supplyMillivolts := mv } })
  ∧ ∀ (mv : Nat) (s : State) (low : Bool), s.loader.settings ≠ none →
      low = (decide (mv < 2850 + 50 * s.cfg.supplyStep)
        || (s.monitor.supplyLow && decide (mv < 2850 + 50 * s.cfg.supplyStep + 20))) →
      exec (.supplyLevelCrossing mv) s = .next (State.present
        { s with inputs := { s.inputs with supplyMillivolts := mv }, monitor := { s.monitor with supplyLow := low } }
        .supplyLow low s.cfg.supplyStep)
      ∧ (s.st.joined = false → exec (.supplyLevelCrossing mv) s = .next { s with
          inputs := { s.inputs with supplyMillivolts := mv }, monitor := { s.monitor with supplyLow := low } })

/-- The four kinds of reset (R166, R167) and what each block holds afterwards (R19, R21, R45, R51, R55, R70, R74, R84,
R92, R107, R108, R142, R143, R162, R163); a register for which the manual gives no reset value holds the one the model
names (log 8, on the line log 12). RESET_LINE_PULSE of 2 ms and above resets and one below 0.5 ms does not, one between
is free (log 10); BROWN_OUT holds the part until the supply has stood above 2.70 V, a number of mV (log 30), and
CLOCK_LOSS until CLOCK_RETURN; a pulse while the part is held does not end the hold (log 29), and an event of a hold
that has begun or ended already changes nothing (log 3). The queue and the input levels are not the part's and stay (log
40). -/
def Obligations.ResetsBeginAndEnd : Prop :=
  (∀ (us : Nat) (s : State),
    (∃ t, exec (.resetLinePulse us) s = .next t)
    ∧ (us < 500 → exec (.resetLinePulse us) s = .next s)
    ∧ (2000 ≤ us → exec (.resetLinePulse us) s = .next (s.beginReset .resetLine).endReset)
    ∧ (500 ≤ us → us < 2000 → exec (.resetLinePulse us) s = .next { s with free := s.free + 1 }
        ∨ exec (.resetLinePulse us) s = .next (State.beginReset { s with free := s.free + 1 } .resetLine).endReset))
  ∧ (∀ s : State, s.monitor.supplyHeld = false →
      exec .brownOut s = .next (State.beginReset { s with monitor := { s.monitor with supplyHeld := true } } .powerOn))
  ∧ (∀ s : State, s.monitor.supplyHeld = true → exec .brownOut s = .next s)
  ∧ (∀ (mv : Nat) (s : State), s.monitor.supplyHeld = false ∨ mv ≤ 2700 → exec (.brownOutEnd mv) s = .next s)
  ∧ (∀ (mv : Nat) (s : State), s.monitor.supplyHeld = true → 2700 < mv → s.monitor.clockLost = false →
      exec (.brownOutEnd mv) s = .next { s with
        inputs := { s.inputs with supplyMillivolts := mv }
        monitor := { s.monitor with supplyHeld := false }
        lines := { convEn := false, brkRel := false, loopDrive := false, fault := false }
        clock := { timeMark := 0, micros := 0 }
        timers := { s.timers with settle := some 20000 } })
  ∧ (∀ (mv : Nat) (s : State), s.monitor.supplyHeld = true → 2700 < mv → s.monitor.clockLost = true →
      exec (.brownOutEnd mv) s = .next { s with
        inputs := { s.inputs with supplyMillivolts := mv }
        monitor := { s.monitor with supplyHeld := false }
        lines := { convEn := false, brkRel := false, loopDrive := true, fault := false } })
  ∧ (∀ s : State, s.monitor.clockLost = false →
      exec .clockLoss s = .next (State.beginReset { s with monitor := { s.monitor with clockLost := true } } .clockLoss))
  ∧ (∀ s : State, s.monitor.clockLost = true → exec .clockLoss s = .next s)
  ∧ (∀ s : State, s.monitor.clockLost = false → exec .clockReturn s = .next s)
  ∧ (∀ s : State, s.monitor.clockLost = true → s.monitor.supplyHeld = true →
      exec .clockReturn s = .next { s with monitor := { s.monitor with clockLost := false } })
  ∧ (∀ s : State, s.monitor.clockLost = true → s.monitor.supplyHeld = false →
      exec .clockReturn s = .next { s with
        monitor := { s.monitor with clockLost := false }
        lines := { convEn := false, brkRel := false, loopDrive := false, fault := false }
        clock := { timeMark := 0, micros := 0 }
        timers := { s.timers with settle := some 20000 } })
  ∧ ∀ (s t : State) (kind : ResetKind), t = s.beginReset kind →
      t.st = .loading ∧ t.seq = State.reset.seq ∧ t.peers = State.reset.peers ∧ t.speed = State.reset.speed
      ∧ t.gen = State.reset.gen ∧ t.reg = State.reset.reg ∧ t.vib = State.reset.vib ∧ t.link = State.reset.link
      ∧ t.timers = { State.reset.timers with settle := none }
      ∧ t.limiter.clamp = State.reset.limiter.clamp ∧ t.limiter.stage = 0 ∧ t.limiter.surgeReference = 0
      ∧ t.limiter.allowance = 0 ∧ t.limiter.limiting = .rated ∧ t.limiter.band = 0
      ∧ t.limiter.rated = 0 ∧ t.limiter.stageValue = 0 ∧ t.limiter.bandValue = 0 ∧ t.limiter.creepCap = 0
      ∧ t.limiter.ceiling = 0 ∧ t.limiter.overloadValue = 0 ∧ t.limiter.envelope = ⟨0, 0, 0, 0⟩
      ∧ t.cause.actions = { vibInput := ⟨.alert, 0⟩, surge := ⟨.alert, 0⟩, peerLost := ⟨.alert, 0⟩,
                            outOfStep := ⟨.alert, 0⟩, supplyLow := ⟨.alert, 0⟩ }
      ∧ t.cause.loopFeedback = 0 ∧ t.cause.loopSpeed = 0
      ∧ (∀ c, t.causeField c = { present := false, latched := false, count := 0 })
      ∧ t.cause.context = none ∧ t.cause.clearTag = none
      ∧ t.records.ring = [] ∧ t.records.current = none
      ∧ t.loader.settings = none ∧ t.loader.guardWord = 0 ∧ t.loader.step = .settling
      ∧ (kind = .powerOn → t.limiter.account = 0 ∧ t.limiter.limit = false ∧ t.cause.g = 0
          ∧ t.records.serial = 0 ∧ (∀ i, t.records.slots.get i = none)
          ∧ t.loader.resetCause = .powerOn ∧ t.loader.haltMark = false)
      ∧ (kind ≠ .powerOn → t.limiter.account = s.limiter.account ∧ t.limiter.limit = s.limiter.limit
          ∧ t.cause.g = s.cause.g ∧ t.records.serial = s.records.serial
          ∧ (∀ i, s.records.slots.get i = none → t.records.slots.get i = none)
          ∧ (∀ i r, s.records.slots.get i = some r → t.records.slots.get i
                = some (if r.closed then r else { r with closed := true, tailCut := true }))
          ∧ t.loader.haltMark = decide (s.st = .faultHalt)
          ∧ t.loader.resetCause = (if s.st = .loading ∧ s.loader.resetCause = .powerOn then .powerOn else kind))
      ∧ t.lines = { convEn := false, brkRel := false, fault := false,
                    loopDrive := s.monitor.clockLost && !s.monitor.supplyHeld }
      ∧ t.monitor = { s.monitor with supplyLow := false }
      ∧ t.inputs = s.inputs ∧ t.clock = s.clock ∧ t.free = s.free ∧ t.pending = s.pending
      ∧ (s.inReset = false → t.endReset = { t with
          lines := { convEn := false, brkRel := false, loopDrive := false, fault := false }
          clock := { timeMark := 0, micros := 0 }
          timers := { t.timers with settle := some 20000 } })
      ∧ (s.inReset = true → t.endReset = t)
end

