-- ==== Sys2Proof/Laws/Line.lean ====
section
/-!
SUPPORT. Laws of the bits on the line: what a frame that is read and not received leaves of the idle count (R145, R147).
-/

namespace Sys2Proof

theorem length_bitsMsb (n v : Nat) : (bitsMsb n v).length = n := by
  induction n with
  | zero => rfl
  | succ n ih => rw [bitsMsb, List.length_cons, ih]

theorem length_bitsOfWords (ws : List Word) : (bitsOfWords ws).length = 16 * ws.length := by
  induction ws with
  | nil => rfl
  | cons w ws ih =>
    rw [show bitsOfWords (w :: ws) = bitsMsb 16 w.toNat ++ bitsOfWords ws from rfl, List.length_append, ih,
      length_bitsMsb, List.length_cons]
    omega

/-- R144, R145: a frame of n words has 26 + 16n counted bits. -/
theorem length_countedBits (f : Frame) : f.countedBits.length = 26 + 16 * f.words.length := by
  simp only [Frame.countedBits, Frame.coveredBits, List.length_append, length_bitsMsb, length_bitsOfWords]
  omega

theorem insertBits_append (n : Nat) (a b : List Bool) :
    insertBits n (a ++ b) = insertBits n a ++ insertBits (n + a.length) b := by
  induction a generalizing n with
  | nil => rfl
  | cons x a ih =>
    have h : n + 1 + a.length = n + (a.length + 1) := by omega
    simp only [List.cons_append, insertBits, List.length_cons, ih, h]
    split <;> rfl

theorem idleAfter_append (i : Nat) (a b : List Bool) : idleAfter i (a ++ b) = idleAfter (idleAfter i a) b :=
  List.foldl_append

/-- Two counted bits follow the last inserted bit, and that bit and the counted bit before it differ, so a frame's check
word ends with at most three recessive bits; with the six end bits the idle count is 6 to 9. -/
theorem idleAfter_lineBits (i : Nat) (f : Frame) : 6 ≤ idleAfter i f.lineBits ∧ idleAfter i f.lineBits ≤ 9 := by
  have hl := length_countedBits f
  obtain ⟨a, x, y, z, h, ha⟩ : ∃ a x y z, f.countedBits = a ++ [x, y, z] ∧ a.length % 4 = 3 := by
    have hd : (f.countedBits.drop (f.countedBits.length - 3)).length = 3 := by
      rw [List.length_drop]
      omega
    obtain ⟨x, y, z, hxyz⟩ := List.length_eq_three.mp hd
    refine ⟨f.countedBits.take (f.countedBits.length - 3), x, y, z, ?_, ?_⟩
    · rw [← hxyz, List.take_append_drop]
    · rw [List.length_take]
      omega
  have hi : insertBits a.length [x, y, z] = [x, !x, y, z] := by
    simp only [insertBits, show (a.length + 1) % 4 = 0 by omega, show ¬(a.length + 1 + 1) % 4 = 0 by omega,
      show ¬(a.length + 1 + 1 + 1) % 4 = 0 by omega, if_true, if_false]
  have hb : f.lineBits = (false :: insertBits 0 a) ++ ([x, !x, y, z] ++ List.replicate 6 true) := by
    rw [Frame.lineBits, h, insertBits_append, Nat.zero_add, hi, List.append_assoc]
    rfl
  rw [hb, idleAfter_append]
  cases x <;> cases y <;> cases z <;>
    simp [idleAfter, idleBit, List.replicate]

end Sys2Proof
end

