-- ==== Sys2Proof/Laws/State.lean ====
section
/-!
SUPPORT. One lemma per field of State per block update, true by rfl: no later proof unfolds a record update.
-/

namespace Sys2Proof.Machine

variable (s : State)

@[simp] theorem onPeers_peers (f : PeerTable → PeerTable) : (s.onPeers f).peers = f s.peers := rfl
@[simp] theorem onPeers_seq (f : PeerTable → PeerTable) : (s.onPeers f).seq = s.seq := rfl
@[simp] theorem onPeers_speed (f : PeerTable → PeerTable) : (s.onPeers f).speed = s.speed := rfl
@[simp] theorem onPeers_gen (f : PeerTable → PeerTable) : (s.onPeers f).gen = s.gen := rfl
@[simp] theorem onPeers_reg (f : PeerTable → PeerTable) : (s.onPeers f).reg = s.reg := rfl
@[simp] theorem onPeers_limiter (f : PeerTable → PeerTable) : (s.onPeers f).limiter = s.limiter := rfl
@[simp] theorem onPeers_vib (f : PeerTable → PeerTable) : (s.onPeers f).vib = s.vib := rfl
@[simp] theorem onPeers_cause (f : PeerTable → PeerTable) : (s.onPeers f).cause = s.cause := rfl
@[simp] theorem onPeers_records (f : PeerTable → PeerTable) : (s.onPeers f).records = s.records := rfl
@[simp] theorem onPeers_link (f : PeerTable → PeerTable) : (s.onPeers f).link = s.link := rfl
@[simp] theorem onPeers_loader (f : PeerTable → PeerTable) : (s.onPeers f).loader = s.loader := rfl
@[simp] theorem onPeers_monitor (f : PeerTable → PeerTable) : (s.onPeers f).monitor = s.monitor := rfl
@[simp] theorem onPeers_timers (f : PeerTable → PeerTable) : (s.onPeers f).timers = s.timers := rfl
@[simp] theorem onPeers_clock (f : PeerTable → PeerTable) : (s.onPeers f).clock = s.clock := rfl
@[simp] theorem onPeers_lines (f : PeerTable → PeerTable) : (s.onPeers f).lines = s.lines := rfl
@[simp] theorem onPeers_inputs (f : PeerTable → PeerTable) : (s.onPeers f).inputs = s.inputs := rfl
@[simp] theorem onPeers_free (f : PeerTable → PeerTable) : (s.onPeers f).free = s.free := rfl
@[simp] theorem onPeers_pending (f : PeerTable → PeerTable) : (s.onPeers f).pending = s.pending := rfl

@[simp] theorem onSeq_peers (f : Sequencer → Sequencer) : (s.onSeq f).peers = s.peers := rfl
@[simp] theorem onSeq_seq (f : Sequencer → Sequencer) : (s.onSeq f).seq = f s.seq := rfl
@[simp] theorem onSeq_speed (f : Sequencer → Sequencer) : (s.onSeq f).speed = s.speed := rfl
@[simp] theorem onSeq_gen (f : Sequencer → Sequencer) : (s.onSeq f).gen = s.gen := rfl
@[simp] theorem onSeq_reg (f : Sequencer → Sequencer) : (s.onSeq f).reg = s.reg := rfl
@[simp] theorem onSeq_limiter (f : Sequencer → Sequencer) : (s.onSeq f).limiter = s.limiter := rfl
@[simp] theorem onSeq_vib (f : Sequencer → Sequencer) : (s.onSeq f).vib = s.vib := rfl
@[simp] theorem onSeq_cause (f : Sequencer → Sequencer) : (s.onSeq f).cause = s.cause := rfl
@[simp] theorem onSeq_records (f : Sequencer → Sequencer) : (s.onSeq f).records = s.records := rfl
@[simp] theorem onSeq_link (f : Sequencer → Sequencer) : (s.onSeq f).link = s.link := rfl
@[simp] theorem onSeq_loader (f : Sequencer → Sequencer) : (s.onSeq f).loader = s.loader := rfl
@[simp] theorem onSeq_monitor (f : Sequencer → Sequencer) : (s.onSeq f).monitor = s.monitor := rfl
@[simp] theorem onSeq_timers (f : Sequencer → Sequencer) : (s.onSeq f).timers = s.timers := rfl
@[simp] theorem onSeq_clock (f : Sequencer → Sequencer) : (s.onSeq f).clock = s.clock := rfl
@[simp] theorem onSeq_lines (f : Sequencer → Sequencer) : (s.onSeq f).lines = s.lines := rfl
@[simp] theorem onSeq_inputs (f : Sequencer → Sequencer) : (s.onSeq f).inputs = s.inputs := rfl
@[simp] theorem onSeq_free (f : Sequencer → Sequencer) : (s.onSeq f).free = s.free := rfl
@[simp] theorem onSeq_pending (f : Sequencer → Sequencer) : (s.onSeq f).pending = s.pending := rfl

@[simp] theorem onSpeed_peers (f : SpeedUnit → SpeedUnit) : (s.onSpeed f).peers = s.peers := rfl
@[simp] theorem onSpeed_seq (f : SpeedUnit → SpeedUnit) : (s.onSpeed f).seq = s.seq := rfl
@[simp] theorem onSpeed_speed (f : SpeedUnit → SpeedUnit) : (s.onSpeed f).speed = f s.speed := rfl
@[simp] theorem onSpeed_gen (f : SpeedUnit → SpeedUnit) : (s.onSpeed f).gen = s.gen := rfl
@[simp] theorem onSpeed_reg (f : SpeedUnit → SpeedUnit) : (s.onSpeed f).reg = s.reg := rfl
@[simp] theorem onSpeed_limiter (f : SpeedUnit → SpeedUnit) : (s.onSpeed f).limiter = s.limiter := rfl
@[simp] theorem onSpeed_vib (f : SpeedUnit → SpeedUnit) : (s.onSpeed f).vib = s.vib := rfl
@[simp] theorem onSpeed_cause (f : SpeedUnit → SpeedUnit) : (s.onSpeed f).cause = s.cause := rfl
@[simp] theorem onSpeed_records (f : SpeedUnit → SpeedUnit) : (s.onSpeed f).records = s.records := rfl
@[simp] theorem onSpeed_link (f : SpeedUnit → SpeedUnit) : (s.onSpeed f).link = s.link := rfl
@[simp] theorem onSpeed_loader (f : SpeedUnit → SpeedUnit) : (s.onSpeed f).loader = s.loader := rfl
@[simp] theorem onSpeed_monitor (f : SpeedUnit → SpeedUnit) : (s.onSpeed f).monitor = s.monitor := rfl
@[simp] theorem onSpeed_timers (f : SpeedUnit → SpeedUnit) : (s.onSpeed f).timers = s.timers := rfl
@[simp] theorem onSpeed_clock (f : SpeedUnit → SpeedUnit) : (s.onSpeed f).clock = s.clock := rfl
@[simp] theorem onSpeed_lines (f : SpeedUnit → SpeedUnit) : (s.onSpeed f).lines = s.lines := rfl
@[simp] theorem onSpeed_inputs (f : SpeedUnit → SpeedUnit) : (s.onSpeed f).inputs = s.inputs := rfl
@[simp] theorem onSpeed_free (f : SpeedUnit → SpeedUnit) : (s.onSpeed f).free = s.free := rfl
@[simp] theorem onSpeed_pending (f : SpeedUnit → SpeedUnit) : (s.onSpeed f).pending = s.pending := rfl

@[simp] theorem onGen_peers (f : Generator → Generator) : (s.onGen f).peers = s.peers := rfl
@[simp] theorem onGen_seq (f : Generator → Generator) : (s.onGen f).seq = s.seq := rfl
@[simp] theorem onGen_speed (f : Generator → Generator) : (s.onGen f).speed = s.speed := rfl
@[simp] theorem onGen_gen (f : Generator → Generator) : (s.onGen f).gen = f s.gen := rfl
@[simp] theorem onGen_reg (f : Generator → Generator) : (s.onGen f).reg = s.reg := rfl
@[simp] theorem onGen_limiter (f : Generator → Generator) : (s.onGen f).limiter = s.limiter := rfl
@[simp] theorem onGen_vib (f : Generator → Generator) : (s.onGen f).vib = s.vib := rfl
@[simp] theorem onGen_cause (f : Generator → Generator) : (s.onGen f).cause = s.cause := rfl
@[simp] theorem onGen_records (f : Generator → Generator) : (s.onGen f).records = s.records := rfl
@[simp] theorem onGen_link (f : Generator → Generator) : (s.onGen f).link = s.link := rfl
@[simp] theorem onGen_loader (f : Generator → Generator) : (s.onGen f).loader = s.loader := rfl
@[simp] theorem onGen_monitor (f : Generator → Generator) : (s.onGen f).monitor = s.monitor := rfl
@[simp] theorem onGen_timers (f : Generator → Generator) : (s.onGen f).timers = s.timers := rfl
@[simp] theorem onGen_clock (f : Generator → Generator) : (s.onGen f).clock = s.clock := rfl
@[simp] theorem onGen_lines (f : Generator → Generator) : (s.onGen f).lines = s.lines := rfl
@[simp] theorem onGen_inputs (f : Generator → Generator) : (s.onGen f).inputs = s.inputs := rfl
@[simp] theorem onGen_free (f : Generator → Generator) : (s.onGen f).free = s.free := rfl
@[simp] theorem onGen_pending (f : Generator → Generator) : (s.onGen f).pending = s.pending := rfl

@[simp] theorem onReg_peers (f : Regulator → Regulator) : (s.onReg f).peers = s.peers := rfl
@[simp] theorem onReg_seq (f : Regulator → Regulator) : (s.onReg f).seq = s.seq := rfl
@[simp] theorem onReg_speed (f : Regulator → Regulator) : (s.onReg f).speed = s.speed := rfl
@[simp] theorem onReg_gen (f : Regulator → Regulator) : (s.onReg f).gen = s.gen := rfl
@[simp] theorem onReg_reg (f : Regulator → Regulator) : (s.onReg f).reg = f s.reg := rfl
@[simp] theorem onReg_limiter (f : Regulator → Regulator) : (s.onReg f).limiter = s.limiter := rfl
@[simp] theorem onReg_vib (f : Regulator → Regulator) : (s.onReg f).vib = s.vib := rfl
@[simp] theorem onReg_cause (f : Regulator → Regulator) : (s.onReg f).cause = s.cause := rfl
@[simp] theorem onReg_records (f : Regulator → Regulator) : (s.onReg f).records = s.records := rfl
@[simp] theorem onReg_link (f : Regulator → Regulator) : (s.onReg f).link = s.link := rfl
@[simp] theorem onReg_loader (f : Regulator → Regulator) : (s.onReg f).loader = s.loader := rfl
@[simp] theorem onReg_monitor (f : Regulator → Regulator) : (s.onReg f).monitor = s.monitor := rfl
@[simp] theorem onReg_timers (f : Regulator → Regulator) : (s.onReg f).timers = s.timers := rfl
@[simp] theorem onReg_clock (f : Regulator → Regulator) : (s.onReg f).clock = s.clock := rfl
@[simp] theorem onReg_lines (f : Regulator → Regulator) : (s.onReg f).lines = s.lines := rfl
@[simp] theorem onReg_inputs (f : Regulator → Regulator) : (s.onReg f).inputs = s.inputs := rfl
@[simp] theorem onReg_free (f : Regulator → Regulator) : (s.onReg f).free = s.free := rfl
@[simp] theorem onReg_pending (f : Regulator → Regulator) : (s.onReg f).pending = s.pending := rfl

@[simp] theorem onLimiter_peers (f : Limiter → Limiter) : (s.onLimiter f).peers = s.peers := rfl
@[simp] theorem onLimiter_seq (f : Limiter → Limiter) : (s.onLimiter f).seq = s.seq := rfl
@[simp] theorem onLimiter_speed (f : Limiter → Limiter) : (s.onLimiter f).speed = s.speed := rfl
@[simp] theorem onLimiter_gen (f : Limiter → Limiter) : (s.onLimiter f).gen = s.gen := rfl
@[simp] theorem onLimiter_reg (f : Limiter → Limiter) : (s.onLimiter f).reg = s.reg := rfl
@[simp] theorem onLimiter_limiter (f : Limiter → Limiter) : (s.onLimiter f).limiter = f s.limiter := rfl
@[simp] theorem onLimiter_vib (f : Limiter → Limiter) : (s.onLimiter f).vib = s.vib := rfl
@[simp] theorem onLimiter_cause (f : Limiter → Limiter) : (s.onLimiter f).cause = s.cause := rfl
@[simp] theorem onLimiter_records (f : Limiter → Limiter) : (s.onLimiter f).records = s.records := rfl
@[simp] theorem onLimiter_link (f : Limiter → Limiter) : (s.onLimiter f).link = s.link := rfl
@[simp] theorem onLimiter_loader (f : Limiter → Limiter) : (s.onLimiter f).loader = s.loader := rfl
@[simp] theorem onLimiter_monitor (f : Limiter → Limiter) : (s.onLimiter f).monitor = s.monitor := rfl
@[simp] theorem onLimiter_timers (f : Limiter → Limiter) : (s.onLimiter f).timers = s.timers := rfl
@[simp] theorem onLimiter_clock (f : Limiter → Limiter) : (s.onLimiter f).clock = s.clock := rfl
@[simp] theorem onLimiter_lines (f : Limiter → Limiter) : (s.onLimiter f).lines = s.lines := rfl
@[simp] theorem onLimiter_inputs (f : Limiter → Limiter) : (s.onLimiter f).inputs = s.inputs := rfl
@[simp] theorem onLimiter_free (f : Limiter → Limiter) : (s.onLimiter f).free = s.free := rfl
@[simp] theorem onLimiter_pending (f : Limiter → Limiter) : (s.onLimiter f).pending = s.pending := rfl

@[simp] theorem onVib_peers (f : VibWatch → VibWatch) : (s.onVib f).peers = s.peers := rfl
@[simp] theorem onVib_seq (f : VibWatch → VibWatch) : (s.onVib f).seq = s.seq := rfl
@[simp] theorem onVib_speed (f : VibWatch → VibWatch) : (s.onVib f).speed = s.speed := rfl
@[simp] theorem onVib_gen (f : VibWatch → VibWatch) : (s.onVib f).gen = s.gen := rfl
@[simp] theorem onVib_reg (f : VibWatch → VibWatch) : (s.onVib f).reg = s.reg := rfl
@[simp] theorem onVib_limiter (f : VibWatch → VibWatch) : (s.onVib f).limiter = s.limiter := rfl
@[simp] theorem onVib_vib (f : VibWatch → VibWatch) : (s.onVib f).vib = f s.vib := rfl
@[simp] theorem onVib_cause (f : VibWatch → VibWatch) : (s.onVib f).cause = s.cause := rfl
@[simp] theorem onVib_records (f : VibWatch → VibWatch) : (s.onVib f).records = s.records := rfl
@[simp] theorem onVib_link (f : VibWatch → VibWatch) : (s.onVib f).link = s.link := rfl
@[simp] theorem onVib_loader (f : VibWatch → VibWatch) : (s.onVib f).loader = s.loader := rfl
@[simp] theorem onVib_monitor (f : VibWatch → VibWatch) : (s.onVib f).monitor = s.monitor := rfl
@[simp] theorem onVib_timers (f : VibWatch → VibWatch) : (s.onVib f).timers = s.timers := rfl
@[simp] theorem onVib_clock (f : VibWatch → VibWatch) : (s.onVib f).clock = s.clock := rfl
@[simp] theorem onVib_lines (f : VibWatch → VibWatch) : (s.onVib f).lines = s.lines := rfl
@[simp] theorem onVib_inputs (f : VibWatch → VibWatch) : (s.onVib f).inputs = s.inputs := rfl
@[simp] theorem onVib_free (f : VibWatch → VibWatch) : (s.onVib f).free = s.free := rfl
@[simp] theorem onVib_pending (f : VibWatch → VibWatch) : (s.onVib f).pending = s.pending := rfl

@[simp] theorem onCause_peers (f : CauseUnit → CauseUnit) : (s.onCause f).peers = s.peers := rfl
@[simp] theorem onCause_seq (f : CauseUnit → CauseUnit) : (s.onCause f).seq = s.seq := rfl
@[simp] theorem onCause_speed (f : CauseUnit → CauseUnit) : (s.onCause f).speed = s.speed := rfl
@[simp] theorem onCause_gen (f : CauseUnit → CauseUnit) : (s.onCause f).gen = s.gen := rfl
@[simp] theorem onCause_reg (f : CauseUnit → CauseUnit) : (s.onCause f).reg = s.reg := rfl
@[simp] theorem onCause_limiter (f : CauseUnit → CauseUnit) : (s.onCause f).limiter = s.limiter := rfl
@[simp] theorem onCause_vib (f : CauseUnit → CauseUnit) : (s.onCause f).vib = s.vib := rfl
@[simp] theorem onCause_cause (f : CauseUnit → CauseUnit) : (s.onCause f).cause = f s.cause := rfl
@[simp] theorem onCause_records (f : CauseUnit → CauseUnit) : (s.onCause f).records = s.records := rfl
@[simp] theorem onCause_link (f : CauseUnit → CauseUnit) : (s.onCause f).link = s.link := rfl
@[simp] theorem onCause_loader (f : CauseUnit → CauseUnit) : (s.onCause f).loader = s.loader := rfl
@[simp] theorem onCause_monitor (f : CauseUnit → CauseUnit) : (s.onCause f).monitor = s.monitor := rfl
@[simp] theorem onCause_timers (f : CauseUnit → CauseUnit) : (s.onCause f).timers = s.timers := rfl
@[simp] theorem onCause_clock (f : CauseUnit → CauseUnit) : (s.onCause f).clock = s.clock := rfl
@[simp] theorem onCause_lines (f : CauseUnit → CauseUnit) : (s.onCause f).lines = s.lines := rfl
@[simp] theorem onCause_inputs (f : CauseUnit → CauseUnit) : (s.onCause f).inputs = s.inputs := rfl
@[simp] theorem onCause_free (f : CauseUnit → CauseUnit) : (s.onCause f).free = s.free := rfl
@[simp] theorem onCause_pending (f : CauseUnit → CauseUnit) : (s.onCause f).pending = s.pending := rfl

@[simp] theorem onRecords_peers (f : RecordStore → RecordStore) : (s.onRecords f).peers = s.peers := rfl
@[simp] theorem onRecords_seq (f : RecordStore → RecordStore) : (s.onRecords f).seq = s.seq := rfl
@[simp] theorem onRecords_speed (f : RecordStore → RecordStore) : (s.onRecords f).speed = s.speed := rfl
@[simp] theorem onRecords_gen (f : RecordStore → RecordStore) : (s.onRecords f).gen = s.gen := rfl
@[simp] theorem onRecords_reg (f : RecordStore → RecordStore) : (s.onRecords f).reg = s.reg := rfl
@[simp] theorem onRecords_limiter (f : RecordStore → RecordStore) : (s.onRecords f).limiter = s.limiter := rfl
@[simp] theorem onRecords_vib (f : RecordStore → RecordStore) : (s.onRecords f).vib = s.vib := rfl
@[simp] theorem onRecords_cause (f : RecordStore → RecordStore) : (s.onRecords f).cause = s.cause := rfl
@[simp] theorem onRecords_records (f : RecordStore → RecordStore) : (s.onRecords f).records = f s.records := rfl
@[simp] theorem onRecords_link (f : RecordStore → RecordStore) : (s.onRecords f).link = s.link := rfl
@[simp] theorem onRecords_loader (f : RecordStore → RecordStore) : (s.onRecords f).loader = s.loader := rfl
@[simp] theorem onRecords_monitor (f : RecordStore → RecordStore) : (s.onRecords f).monitor = s.monitor := rfl
@[simp] theorem onRecords_timers (f : RecordStore → RecordStore) : (s.onRecords f).timers = s.timers := rfl
@[simp] theorem onRecords_clock (f : RecordStore → RecordStore) : (s.onRecords f).clock = s.clock := rfl
@[simp] theorem onRecords_lines (f : RecordStore → RecordStore) : (s.onRecords f).lines = s.lines := rfl
@[simp] theorem onRecords_inputs (f : RecordStore → RecordStore) : (s.onRecords f).inputs = s.inputs := rfl
@[simp] theorem onRecords_free (f : RecordStore → RecordStore) : (s.onRecords f).free = s.free := rfl
@[simp] theorem onRecords_pending (f : RecordStore → RecordStore) : (s.onRecords f).pending = s.pending := rfl

@[simp] theorem onLink_peers (f : Link → Link) : (s.onLink f).peers = s.peers := rfl
@[simp] theorem onLink_seq (f : Link → Link) : (s.onLink f).seq = s.seq := rfl
@[simp] theorem onLink_speed (f : Link → Link) : (s.onLink f).speed = s.speed := rfl
@[simp] theorem onLink_gen (f : Link → Link) : (s.onLink f).gen = s.gen := rfl
@[simp] theorem onLink_reg (f : Link → Link) : (s.onLink f).reg = s.reg := rfl
@[simp] theorem onLink_limiter (f : Link → Link) : (s.onLink f).limiter = s.limiter := rfl
@[simp] theorem onLink_vib (f : Link → Link) : (s.onLink f).vib = s.vib := rfl
@[simp] theorem onLink_cause (f : Link → Link) : (s.onLink f).cause = s.cause := rfl
@[simp] theorem onLink_records (f : Link → Link) : (s.onLink f).records = s.records := rfl
@[simp] theorem onLink_link (f : Link → Link) : (s.onLink f).link = f s.link := rfl
@[simp] theorem onLink_loader (f : Link → Link) : (s.onLink f).loader = s.loader := rfl
@[simp] theorem onLink_monitor (f : Link → Link) : (s.onLink f).monitor = s.monitor := rfl
@[simp] theorem onLink_timers (f : Link → Link) : (s.onLink f).timers = s.timers := rfl
@[simp] theorem onLink_clock (f : Link → Link) : (s.onLink f).clock = s.clock := rfl
@[simp] theorem onLink_lines (f : Link → Link) : (s.onLink f).lines = s.lines := rfl
@[simp] theorem onLink_inputs (f : Link → Link) : (s.onLink f).inputs = s.inputs := rfl
@[simp] theorem onLink_free (f : Link → Link) : (s.onLink f).free = s.free := rfl
@[simp] theorem onLink_pending (f : Link → Link) : (s.onLink f).pending = s.pending := rfl

@[simp] theorem onLoader_peers (f : Loader → Loader) : (s.onLoader f).peers = s.peers := rfl
@[simp] theorem onLoader_seq (f : Loader → Loader) : (s.onLoader f).seq = s.seq := rfl
@[simp] theorem onLoader_speed (f : Loader → Loader) : (s.onLoader f).speed = s.speed := rfl
@[simp] theorem onLoader_gen (f : Loader → Loader) : (s.onLoader f).gen = s.gen := rfl
@[simp] theorem onLoader_reg (f : Loader → Loader) : (s.onLoader f).reg = s.reg := rfl
@[simp] theorem onLoader_limiter (f : Loader → Loader) : (s.onLoader f).limiter = s.limiter := rfl
@[simp] theorem onLoader_vib (f : Loader → Loader) : (s.onLoader f).vib = s.vib := rfl
@[simp] theorem onLoader_cause (f : Loader → Loader) : (s.onLoader f).cause = s.cause := rfl
@[simp] theorem onLoader_records (f : Loader → Loader) : (s.onLoader f).records = s.records := rfl
@[simp] theorem onLoader_link (f : Loader → Loader) : (s.onLoader f).link = s.link := rfl
@[simp] theorem onLoader_loader (f : Loader → Loader) : (s.onLoader f).loader = f s.loader := rfl
@[simp] theorem onLoader_monitor (f : Loader → Loader) : (s.onLoader f).monitor = s.monitor := rfl
@[simp] theorem onLoader_timers (f : Loader → Loader) : (s.onLoader f).timers = s.timers := rfl
@[simp] theorem onLoader_clock (f : Loader → Loader) : (s.onLoader f).clock = s.clock := rfl
@[simp] theorem onLoader_lines (f : Loader → Loader) : (s.onLoader f).lines = s.lines := rfl
@[simp] theorem onLoader_inputs (f : Loader → Loader) : (s.onLoader f).inputs = s.inputs := rfl
@[simp] theorem onLoader_free (f : Loader → Loader) : (s.onLoader f).free = s.free := rfl
@[simp] theorem onLoader_pending (f : Loader → Loader) : (s.onLoader f).pending = s.pending := rfl

@[simp] theorem onMonitor_peers (f : Monitor → Monitor) : (s.onMonitor f).peers = s.peers := rfl
@[simp] theorem onMonitor_seq (f : Monitor → Monitor) : (s.onMonitor f).seq = s.seq := rfl
@[simp] theorem onMonitor_speed (f : Monitor → Monitor) : (s.onMonitor f).speed = s.speed := rfl
@[simp] theorem onMonitor_gen (f : Monitor → Monitor) : (s.onMonitor f).gen = s.gen := rfl
@[simp] theorem onMonitor_reg (f : Monitor → Monitor) : (s.onMonitor f).reg = s.reg := rfl
@[simp] theorem onMonitor_limiter (f : Monitor → Monitor) : (s.onMonitor f).limiter = s.limiter := rfl
@[simp] theorem onMonitor_vib (f : Monitor → Monitor) : (s.onMonitor f).vib = s.vib := rfl
@[simp] theorem onMonitor_cause (f : Monitor → Monitor) : (s.onMonitor f).cause = s.cause := rfl
@[simp] theorem onMonitor_records (f : Monitor → Monitor) : (s.onMonitor f).records = s.records := rfl
@[simp] theorem onMonitor_link (f : Monitor → Monitor) : (s.onMonitor f).link = s.link := rfl
@[simp] theorem onMonitor_loader (f : Monitor → Monitor) : (s.onMonitor f).loader = s.loader := rfl
@[simp] theorem onMonitor_monitor (f : Monitor → Monitor) : (s.onMonitor f).monitor = f s.monitor := rfl
@[simp] theorem onMonitor_timers (f : Monitor → Monitor) : (s.onMonitor f).timers = s.timers := rfl
@[simp] theorem onMonitor_clock (f : Monitor → Monitor) : (s.onMonitor f).clock = s.clock := rfl
@[simp] theorem onMonitor_lines (f : Monitor → Monitor) : (s.onMonitor f).lines = s.lines := rfl
@[simp] theorem onMonitor_inputs (f : Monitor → Monitor) : (s.onMonitor f).inputs = s.inputs := rfl
@[simp] theorem onMonitor_free (f : Monitor → Monitor) : (s.onMonitor f).free = s.free := rfl
@[simp] theorem onMonitor_pending (f : Monitor → Monitor) : (s.onMonitor f).pending = s.pending := rfl

@[simp] theorem onTimers_peers (f : Timers → Timers) : (s.onTimers f).peers = s.peers := rfl
@[simp] theorem onTimers_seq (f : Timers → Timers) : (s.onTimers f).seq = s.seq := rfl
@[simp] theorem onTimers_speed (f : Timers → Timers) : (s.onTimers f).speed = s.speed := rfl
@[simp] theorem onTimers_gen (f : Timers → Timers) : (s.onTimers f).gen = s.gen := rfl
@[simp] theorem onTimers_reg (f : Timers → Timers) : (s.onTimers f).reg = s.reg := rfl
@[simp] theorem onTimers_limiter (f : Timers → Timers) : (s.onTimers f).limiter = s.limiter := rfl
@[simp] theorem onTimers_vib (f : Timers → Timers) : (s.onTimers f).vib = s.vib := rfl
@[simp] theorem onTimers_cause (f : Timers → Timers) : (s.onTimers f).cause = s.cause := rfl
@[simp] theorem onTimers_records (f : Timers → Timers) : (s.onTimers f).records = s.records := rfl
@[simp] theorem onTimers_link (f : Timers → Timers) : (s.onTimers f).link = s.link := rfl
@[simp] theorem onTimers_loader (f : Timers → Timers) : (s.onTimers f).loader = s.loader := rfl
@[simp] theorem onTimers_monitor (f : Timers → Timers) : (s.onTimers f).monitor = s.monitor := rfl
@[simp] theorem onTimers_timers (f : Timers → Timers) : (s.onTimers f).timers = f s.timers := rfl
@[simp] theorem onTimers_clock (f : Timers → Timers) : (s.onTimers f).clock = s.clock := rfl
@[simp] theorem onTimers_lines (f : Timers → Timers) : (s.onTimers f).lines = s.lines := rfl
@[simp] theorem onTimers_inputs (f : Timers → Timers) : (s.onTimers f).inputs = s.inputs := rfl
@[simp] theorem onTimers_free (f : Timers → Timers) : (s.onTimers f).free = s.free := rfl
@[simp] theorem onTimers_pending (f : Timers → Timers) : (s.onTimers f).pending = s.pending := rfl

@[simp] theorem onClock_peers (f : Clock → Clock) : (s.onClock f).peers = s.peers := rfl
@[simp] theorem onClock_seq (f : Clock → Clock) : (s.onClock f).seq = s.seq := rfl
@[simp] theorem onClock_speed (f : Clock → Clock) : (s.onClock f).speed = s.speed := rfl
@[simp] theorem onClock_gen (f : Clock → Clock) : (s.onClock f).gen = s.gen := rfl
@[simp] theorem onClock_reg (f : Clock → Clock) : (s.onClock f).reg = s.reg := rfl
@[simp] theorem onClock_limiter (f : Clock → Clock) : (s.onClock f).limiter = s.limiter := rfl
@[simp] theorem onClock_vib (f : Clock → Clock) : (s.onClock f).vib = s.vib := rfl
@[simp] theorem onClock_cause (f : Clock → Clock) : (s.onClock f).cause = s.cause := rfl
@[simp] theorem onClock_records (f : Clock → Clock) : (s.onClock f).records = s.records := rfl
@[simp] theorem onClock_link (f : Clock → Clock) : (s.onClock f).link = s.link := rfl
@[simp] theorem onClock_loader (f : Clock → Clock) : (s.onClock f).loader = s.loader := rfl
@[simp] theorem onClock_monitor (f : Clock → Clock) : (s.onClock f).monitor = s.monitor := rfl
@[simp] theorem onClock_timers (f : Clock → Clock) : (s.onClock f).timers = s.timers := rfl
@[simp] theorem onClock_clock (f : Clock → Clock) : (s.onClock f).clock = f s.clock := rfl
@[simp] theorem onClock_lines (f : Clock → Clock) : (s.onClock f).lines = s.lines := rfl
@[simp] theorem onClock_inputs (f : Clock → Clock) : (s.onClock f).inputs = s.inputs := rfl
@[simp] theorem onClock_free (f : Clock → Clock) : (s.onClock f).free = s.free := rfl
@[simp] theorem onClock_pending (f : Clock → Clock) : (s.onClock f).pending = s.pending := rfl

@[simp] theorem onLines_peers (f : Lines → Lines) : (s.onLines f).peers = s.peers := rfl
@[simp] theorem onLines_seq (f : Lines → Lines) : (s.onLines f).seq = s.seq := rfl
@[simp] theorem onLines_speed (f : Lines → Lines) : (s.onLines f).speed = s.speed := rfl
@[simp] theorem onLines_gen (f : Lines → Lines) : (s.onLines f).gen = s.gen := rfl
@[simp] theorem onLines_reg (f : Lines → Lines) : (s.onLines f).reg = s.reg := rfl
@[simp] theorem onLines_limiter (f : Lines → Lines) : (s.onLines f).limiter = s.limiter := rfl
@[simp] theorem onLines_vib (f : Lines → Lines) : (s.onLines f).vib = s.vib := rfl
@[simp] theorem onLines_cause (f : Lines → Lines) : (s.onLines f).cause = s.cause := rfl
@[simp] theorem onLines_records (f : Lines → Lines) : (s.onLines f).records = s.records := rfl
@[simp] theorem onLines_link (f : Lines → Lines) : (s.onLines f).link = s.link := rfl
@[simp] theorem onLines_loader (f : Lines → Lines) : (s.onLines f).loader = s.loader := rfl
@[simp] theorem onLines_monitor (f : Lines → Lines) : (s.onLines f).monitor = s.monitor := rfl
@[simp] theorem onLines_timers (f : Lines → Lines) : (s.onLines f).timers = s.timers := rfl
@[simp] theorem onLines_clock (f : Lines → Lines) : (s.onLines f).clock = s.clock := rfl
@[simp] theorem onLines_lines (f : Lines → Lines) : (s.onLines f).lines = f s.lines := rfl
@[simp] theorem onLines_inputs (f : Lines → Lines) : (s.onLines f).inputs = s.inputs := rfl
@[simp] theorem onLines_free (f : Lines → Lines) : (s.onLines f).free = s.free := rfl
@[simp] theorem onLines_pending (f : Lines → Lines) : (s.onLines f).pending = s.pending := rfl

@[simp] theorem onInputs_peers (f : Inputs → Inputs) : (s.onInputs f).peers = s.peers := rfl
@[simp] theorem onInputs_seq (f : Inputs → Inputs) : (s.onInputs f).seq = s.seq := rfl
@[simp] theorem onInputs_speed (f : Inputs → Inputs) : (s.onInputs f).speed = s.speed := rfl
@[simp] theorem onInputs_gen (f : Inputs → Inputs) : (s.onInputs f).gen = s.gen := rfl
@[simp] theorem onInputs_reg (f : Inputs → Inputs) : (s.onInputs f).reg = s.reg := rfl
@[simp] theorem onInputs_limiter (f : Inputs → Inputs) : (s.onInputs f).limiter = s.limiter := rfl
@[simp] theorem onInputs_vib (f : Inputs → Inputs) : (s.onInputs f).vib = s.vib := rfl
@[simp] theorem onInputs_cause (f : Inputs → Inputs) : (s.onInputs f).cause = s.cause := rfl
@[simp] theorem onInputs_records (f : Inputs → Inputs) : (s.onInputs f).records = s.records := rfl
@[simp] theorem onInputs_link (f : Inputs → Inputs) : (s.onInputs f).link = s.link := rfl
@[simp] theorem onInputs_loader (f : Inputs → Inputs) : (s.onInputs f).loader = s.loader := rfl
@[simp] theorem onInputs_monitor (f : Inputs → Inputs) : (s.onInputs f).monitor = s.monitor := rfl
@[simp] theorem onInputs_timers (f : Inputs → Inputs) : (s.onInputs f).timers = s.timers := rfl
@[simp] theorem onInputs_clock (f : Inputs → Inputs) : (s.onInputs f).clock = s.clock := rfl
@[simp] theorem onInputs_lines (f : Inputs → Inputs) : (s.onInputs f).lines = s.lines := rfl
@[simp] theorem onInputs_inputs (f : Inputs → Inputs) : (s.onInputs f).inputs = f s.inputs := rfl
@[simp] theorem onInputs_free (f : Inputs → Inputs) : (s.onInputs f).free = s.free := rfl
@[simp] theorem onInputs_pending (f : Inputs → Inputs) : (s.onInputs f).pending = s.pending := rfl

@[simp] theorem onPeers_st (f : PeerTable → PeerTable) : (s.onPeers f).st = s.st := rfl
@[simp] theorem onPeers_cfg (f : PeerTable → PeerTable) : (s.onPeers f).cfg = s.cfg := rfl
@[simp] theorem onPeers_causeField (f : PeerTable → PeerTable) (c : Cause) : (s.onPeers f).causeField c = s.causeField c := rfl
@[simp] theorem onPeers_actionOf (f : PeerTable → PeerTable) (c : Cause) : (s.onPeers f).actionOf c = s.actionOf c := rfl
@[simp] theorem onSeq_cfg (f : Sequencer → Sequencer) : (s.onSeq f).cfg = s.cfg := rfl
@[simp] theorem onSeq_entry (f : Sequencer → Sequencer) (n : Station) : (s.onSeq f).entry n = s.entry n := rfl
@[simp] theorem onSeq_causeField (f : Sequencer → Sequencer) (c : Cause) : (s.onSeq f).causeField c = s.causeField c := rfl
@[simp] theorem onSeq_actionOf (f : Sequencer → Sequencer) (c : Cause) : (s.onSeq f).actionOf c = s.actionOf c := rfl
@[simp] theorem onSpeed_st (f : SpeedUnit → SpeedUnit) : (s.onSpeed f).st = s.st := rfl
@[simp] theorem onSpeed_cfg (f : SpeedUnit → SpeedUnit) : (s.onSpeed f).cfg = s.cfg := rfl
@[simp] theorem onSpeed_entry (f : SpeedUnit → SpeedUnit) (n : Station) : (s.onSpeed f).entry n = s.entry n := rfl
@[simp] theorem onSpeed_causeField (f : SpeedUnit → SpeedUnit) (c : Cause) : (s.onSpeed f).causeField c = s.causeField c := rfl
@[simp] theorem onSpeed_actionOf (f : SpeedUnit → SpeedUnit) (c : Cause) : (s.onSpeed f).actionOf c = s.actionOf c := rfl
@[simp] theorem onGen_st (f : Generator → Generator) : (s.onGen f).st = s.st := rfl
@[simp] theorem onGen_cfg (f : Generator → Generator) : (s.onGen f).cfg = s.cfg := rfl
@[simp] theorem onGen_entry (f : Generator → Generator) (n : Station) : (s.onGen f).entry n = s.entry n := rfl
@[simp] theorem onGen_causeField (f : Generator → Generator) (c : Cause) : (s.onGen f).causeField c = s.causeField c := rfl
@[simp] theorem onGen_actionOf (f : Generator → Generator) (c : Cause) : (s.onGen f).actionOf c = s.actionOf c := rfl
@[simp] theorem onReg_st (f : Regulator → Regulator) : (s.onReg f).st = s.st := rfl
@[simp] theorem onReg_cfg (f : Regulator → Regulator) : (s.onReg f).cfg = s.cfg := rfl
@[simp] theorem onReg_entry (f : Regulator → Regulator) (n : Station) : (s.onReg f).entry n = s.entry n := rfl
@[simp] theorem onReg_causeField (f : Regulator → Regulator) (c : Cause) : (s.onReg f).causeField c = s.causeField c := rfl
@[simp] theorem onReg_actionOf (f : Regulator → Regulator) (c : Cause) : (s.onReg f).actionOf c = s.actionOf c := rfl
@[simp] theorem onLimiter_st (f : Limiter → Limiter) : (s.onLimiter f).st = s.st := rfl
@[simp] theorem onLimiter_cfg (f : Limiter → Limiter) : (s.onLimiter f).cfg = s.cfg := rfl
@[simp] theorem onLimiter_entry (f : Limiter → Limiter) (n : Station) : (s.onLimiter f).entry n = s.entry n := rfl
@[simp] theorem onLimiter_causeField (f : Limiter → Limiter) (c : Cause) : (s.onLimiter f).causeField c = s.causeField c := rfl
@[simp] theorem onLimiter_actionOf (f : Limiter → Limiter) (c : Cause) : (s.onLimiter f).actionOf c = s.actionOf c := rfl
@[simp] theorem onVib_st (f : VibWatch → VibWatch) : (s.onVib f).st = s.st := rfl
@[simp] theorem onVib_cfg (f : VibWatch → VibWatch) : (s.onVib f).cfg = s.cfg := rfl
@[simp] theorem onVib_entry (f : VibWatch → VibWatch) (n : Station) : (s.onVib f).entry n = s.entry n := rfl
@[simp] theorem onVib_causeField (f : VibWatch → VibWatch) (c : Cause) : (s.onVib f).causeField c = s.causeField c := rfl
@[simp] theorem onVib_actionOf (f : VibWatch → VibWatch) (c : Cause) : (s.onVib f).actionOf c = s.actionOf c := rfl
@[simp] theorem onCause_st (f : CauseUnit → CauseUnit) : (s.onCause f).st = s.st := rfl
@[simp] theorem onCause_cfg (f : CauseUnit → CauseUnit) : (s.onCause f).cfg = s.cfg := rfl
@[simp] theorem onCause_entry (f : CauseUnit → CauseUnit) (n : Station) : (s.onCause f).entry n = s.entry n := rfl
@[simp] theorem onRecords_st (f : RecordStore → RecordStore) : (s.onRecords f).st = s.st := rfl
@[simp] theorem onRecords_cfg (f : RecordStore → RecordStore) : (s.onRecords f).cfg = s.cfg := rfl
@[simp] theorem onRecords_entry (f : RecordStore → RecordStore) (n : Station) : (s.onRecords f).entry n = s.entry n := rfl
@[simp] theorem onRecords_causeField (f : RecordStore → RecordStore) (c : Cause) : (s.onRecords f).causeField c = s.causeField c := rfl
@[simp] theorem onRecords_actionOf (f : RecordStore → RecordStore) (c : Cause) : (s.onRecords f).actionOf c = s.actionOf c := rfl
@[simp] theorem onLink_st (f : Link → Link) : (s.onLink f).st = s.st := rfl
@[simp] theorem onLink_cfg (f : Link → Link) : (s.onLink f).cfg = s.cfg := rfl
@[simp] theorem onLink_entry (f : Link → Link) (n : Station) : (s.onLink f).entry n = s.entry n := rfl
@[simp] theorem onLink_causeField (f : Link → Link) (c : Cause) : (s.onLink f).causeField c = s.causeField c := rfl
@[simp] theorem onLink_actionOf (f : Link → Link) (c : Cause) : (s.onLink f).actionOf c = s.actionOf c := rfl
@[simp] theorem onLoader_st (f : Loader → Loader) : (s.onLoader f).st = s.st := rfl
@[simp] theorem onLoader_entry (f : Loader → Loader) (n : Station) : (s.onLoader f).entry n = s.entry n := rfl
@[simp] theorem onLoader_causeField (f : Loader → Loader) (c : Cause) : (s.onLoader f).causeField c = s.causeField c := rfl
@[simp] theorem onLoader_actionOf (f : Loader → Loader) (c : Cause) : (s.onLoader f).actionOf c = s.actionOf c := rfl
@[simp] theorem onMonitor_st (f : Monitor → Monitor) : (s.onMonitor f).st = s.st := rfl
@[simp] theorem onMonitor_cfg (f : Monitor → Monitor) : (s.onMonitor f).cfg = s.cfg := rfl
@[simp] theorem onMonitor_entry (f : Monitor → Monitor) (n : Station) : (s.onMonitor f).entry n = s.entry n := rfl
@[simp] theorem onMonitor_causeField (f : Monitor → Monitor) (c : Cause) : (s.onMonitor f).causeField c = s.causeField c := rfl
@[simp] theorem onMonitor_actionOf (f : Monitor → Monitor) (c : Cause) : (s.onMonitor f).actionOf c = s.actionOf c := rfl
@[simp] theorem onTimers_st (f : Timers → Timers) : (s.onTimers f).st = s.st := rfl
@[simp] theorem onTimers_cfg (f : Timers → Timers) : (s.onTimers f).cfg = s.cfg := rfl
@[simp] theorem onTimers_entry (f : Timers → Timers) (n : Station) : (s.onTimers f).entry n = s.entry n := rfl
@[simp] theorem onTimers_causeField (f : Timers → Timers) (c : Cause) : (s.onTimers f).causeField c = s.causeField c := rfl
@[simp] theorem onTimers_actionOf (f : Timers → Timers) (c : Cause) : (s.onTimers f).actionOf c = s.actionOf c := rfl
@[simp] theorem onClock_st (f : Clock → Clock) : (s.onClock f).st = s.st := rfl
@[simp] theorem onClock_cfg (f : Clock → Clock) : (s.onClock f).cfg = s.cfg := rfl
@[simp] theorem onClock_entry (f : Clock → Clock) (n : Station) : (s.onClock f).entry n = s.entry n := rfl
@[simp] theorem onClock_causeField (f : Clock → Clock) (c : Cause) : (s.onClock f).causeField c = s.causeField c := rfl
@[simp] theorem onClock_actionOf (f : Clock → Clock) (c : Cause) : (s.onClock f).actionOf c = s.actionOf c := rfl
@[simp] theorem onLines_st (f : Lines → Lines) : (s.onLines f).st = s.st := rfl
@[simp] theorem onLines_cfg (f : Lines → Lines) : (s.onLines f).cfg = s.cfg := rfl
@[simp] theorem onLines_entry (f : Lines → Lines) (n : Station) : (s.onLines f).entry n = s.entry n := rfl
@[simp] theorem onLines_causeField (f : Lines → Lines) (c : Cause) : (s.onLines f).causeField c = s.causeField c := rfl
@[simp] theorem onLines_actionOf (f : Lines → Lines) (c : Cause) : (s.onLines f).actionOf c = s.actionOf c := rfl
@[simp] theorem onInputs_st (f : Inputs → Inputs) : (s.onInputs f).st = s.st := rfl
@[simp] theorem onInputs_cfg (f : Inputs → Inputs) : (s.onInputs f).cfg = s.cfg := rfl
@[simp] theorem onInputs_entry (f : Inputs → Inputs) (n : Station) : (s.onInputs f).entry n = s.entry n := rfl
@[simp] theorem onInputs_causeField (f : Inputs → Inputs) (c : Cause) : (s.onInputs f).causeField c = s.causeField c := rfl
@[simp] theorem onInputs_actionOf (f : Inputs → Inputs) (c : Cause) : (s.onInputs f).actionOf c = s.actionOf c := rfl

end Sys2Proof.Machine
end

