-- ==== Sys2Proof/Laws/Steps.lean ====
section
/-!
SUPPORT. What an operation can do, said once: every shared operation is a chain of small changes (`Chain`), each of one
of the kinds of `Change`. A property that every kind of change keeps is kept by every operation. The flag tells changes
that leave the participant list in agreement with the entries (`true`) from those that may not (`false`).
-/

namespace Sys2Proof.Machine

/-- What a change of the torque limiter must leave for the allowance to stand, R68. -/
def Limiter.figures (l : Limiter) : List Nat × Bool × Bool × Contributor :=
  ([l.rated, l.stageValue, l.bandValue, l.creepCap, l.ceiling, l.overloadValue, l.clamp.level, l.allowance],
   l.limit, l.clamp.active, l.limiting)

/-- What a change of an entry must leave, R2, R7, R16. -/
def PeerEntry.standing (e : PeerEntry) : PeerKind × EntryState × Bool × Nat × Nat :=
  (e.kind, e.entry, e.foreign, e.silence, e.nonRunning)

/-- One change of one kind. -/
inductive Change : Bool → State → State → Prop
  | seq {b} (s : State) (f : Sequencer → Sequencer) (h : (f s.seq).station = s.seq.station) :
      Change b s (s.onSeq f)
  | speed {b} (s : State) (f) : Change b s (s.onSpeed f)
  | timers {b} (s : State) (f) : Change b s (s.onTimers f)
  | link {b} (s : State) (f) : Change b s (s.onLink f)
  | inputs {b} (s : State) (f) : Change b s (s.onInputs f)
  | loader {b} (s : State) (f) (h : (f s.loader).station = s.loader.station) : Change b s (s.onLoader f)
  | monitor {b} (s : State) (f) (h : (f s.monitor).supplyHeld = s.monitor.supplyHeld)
      (hc : (f s.monitor).clockLost = s.monitor.clockLost) : Change b s (s.onMonitor f)
  | free {b} (s : State) (n) : Change b s { s with free := n }
  | elapse {b} (s : State) (n) : Change b s (s.elapse n)
  | gen {b} (s : State) (f)
      (h : s.lines.convEn = false → s.reg.isBlocked → s.gen.isBlocked → (f s.gen).isBlocked) :
      Change b s (s.onGen f)
  | reg {b} (s : State) (f) (h : s.lines.convEn = false → s.reg.isBlocked → (f s.reg).isBlocked) :
      Change b s (s.onReg f)
  | limiter {b} (s : State) (f) (h : (f s.limiter).figures = s.limiter.figures) : Change b s (s.onLimiter f)
  | limit {b} (s : State) (f) : Change b s (s.onLimiter f).recompute
  | heat {b} (s : State) (f g) (h : (g s.cause.causes).selftestFail.latched = s.cause.causes.selftestFail.latched) :
      Change b s ((s.onLimiter f).onCauses g).recompute
  | vib {b} (s : State) (f) (h : (f s.vib).allowance = s.vib.allowance) : Change b s (s.onVib f)
  | derate {b} (s : State) (f) : Change b s (s.onVib f).recompute
  | causes {b} (s : State) (f) (h : b = true → (f s.cause.causes).selftestFail.latched
      = s.cause.causes.selftestFail.latched) : Change b s (s.onCauses f)
  | cause {b} (s : State) (f) (h : (f s.cause).causes = s.cause.causes) (hc : (f s.cause).context = s.cause.context) :
      Change b s (s.onCause f)
  | context {b} (s : State) (old ctx : TripContext) (h : s.cause.context = some old) (hc : old.Ok → ctx.Ok) :
      Change b s (s.changeContext ctx)
  | trip {b} (s : State) (number origin confirmed part c detail)
      (h : number = none → confirmed = false) :
      Change b s (s.beginTrip number origin confirmed part c detail)
  | subsequent {b} (s : State) (c carried) :
      Change b s (s.onCurrent (TripRecord.addSubsequent s.clock.timeMark c carried))
  | records {b} (s : State) (f) (h : s.records.Ok → (f s.records).Ok) : Change b s (s.onRecords f)
  | move {b} (s : State) (new) (h : s.st.blocksRun = true ∨ new.blocksRun = false) : Change b s (s.moveTo new)
  | refresh {b} (s : State) : Change b s s.refreshMembers
  | ownShare {b} (s : State) (f) (h : (f (s.entry s.loader.station)).standing = (s.entry s.loader.station).standing) :
      Change b s (s.onEntry s.loader.station f)
  | entry {b} (s : State) (n : Station) (f) (hn : n ≠ s.loader.station) (h : (s.entry n).Ok → (f (s.entry n)).Ok)
      (hp : b = true → (f (s.entry n)).participates = (s.entry n).participates) : Change b s (s.onEntry n f)
  | age {b} (s : State) (hp : b = true → ∀ n, n ≠ s.loader.station → (s.entry n).aged.participates
          = (s.entry n).participates) : Change b s s.ageEntries
  | expiries {b} (s : State) (n) : Change b s (s.onPeers fun p => { p with joinExpiries := n })

/-- A chain of changes. -/
def Chain (b : Bool) : State → State → Prop :=
  Relation.ReflTransGen (Change b)

namespace Chain

theorem refl {b} (s : State) : Chain b s s := Relation.ReflTransGen.refl

theorem one {b} {s t : State} (h : Change b s t) : Chain b s t := Relation.ReflTransGen.single h

theorem trans {b} {s t u : State} (h : Chain b s t) (k : Chain b t u) : Chain b s u := Relation.ReflTransGen.trans h k

/-- A property that every change keeps is kept by a chain. -/
theorem keeps {b} {P : State → Prop} (hP : ∀ s t, Change b s t → P s → P t) {s t : State} (h : Chain b s t) :
    P s → P t := by
  intro hs
  induction h with
  | refl => exact hs
  | tail _ h ih => exact hP _ _ h ih

/-- A chain that keeps the list in agreement is a chain. -/
theorem weaken {b} {s t : State} (h : Chain true s t) : Chain b s t := by
  cases b with
  | true => exact h
  | false =>
    induction h with
    | refl => exact .refl _
    | tail _ h ih =>
      refine ih.trans (.one ?_)
      cases h with
      | seq f h => exact .seq _ f h
      | speed f => exact .speed _ f
      | timers f => exact .timers _ f
      | link f => exact .link _ f
      | inputs f => exact .inputs _ f
      | loader f h => exact .loader _ f h
      | monitor f h hc => exact .monitor _ f h hc
      | free n => exact .free _ n
      | gen f h => exact .gen _ f h
      | reg f h => exact .reg _ f h
      | limiter f h => exact .limiter _ f h
      | limit f => exact .limit _ f
      | vib f h => exact .vib _ f h
      | derate f => exact .derate _ f
      | causes f h => exact .causes _ f (fun _ => h rfl)
      | cause f h hc => exact .cause _ f h hc
      | context old ctx h hc => exact .context _ old ctx h hc
      | trip n o c p c' d h => exact .trip _ n o c p c' d h
      | subsequent c n => exact .subsequent _ c n
      | move n h => exact .move _ n h
      | elapse n => exact .elapse _ n
      | heat f g h => exact .heat _ f g h
      | records f h => exact .records _ f h
      | entry n f hn h hp => exact .entry _ n f hn h (fun _ => hp rfl)
      | age hp => exact .age _ (fun _ => hp rfl)
      | refresh => exact .refresh _
      | ownShare f h => exact .ownShare _ f h
      | expiries n => exact .expiries _ n

end Chain

/-- The station state after a move. -/
@[simp] theorem st_moveTo (s : State) (new : StationState) : (s.moveTo new).st = new := by
  unfold State.moveTo
  split
  · assumption
  · rfl

section Basic

variable {b : Bool} (s : State)

@[simp] theorem st_onCauses (f) : (s.onCauses f).st = s.st := rfl
@[simp] theorem st_onEntry (n f) : (s.onEntry n f).st = s.st := rfl
@[simp] theorem st_writeOutcome (a c d) : (s.writeOutcome a c d).st = s.st := rfl
@[simp] theorem st_writeMarked (a) : (s.writeMarked a).st = s.st := rfl
@[simp] theorem st_refreshMembers : s.refreshMembers.st = s.st := rfl
@[simp] theorem st_recompute : s.recompute.st = s.st := rfl

theorem set_latched (t : CauseSet) (c : Cause) (v : CauseField) (h : c ≠ .selftestFail) :
    (t.set c v).selftestFail = t.selftestFail := by
  cases c <;> first | rfl | exact absurd rfl h

theorem cease_latched (t : CauseSet) (c : Cause) :
    (t.cease c).selftestFail.latched = t.selftestFail.latched := by
  cases c <;> rfl

theorem ceaseAll_latched (t : CauseSet) (cs : List Cause) :
    (cs.foldl CauseSet.cease t).selftestFail.latched = t.selftestFail.latched := by
  induction cs generalizing t with
  | nil => rfl
  | cons c cs ih => rw [List.foldl_cons, ih, cease_latched]

theorem chain_cease (c) : Chain b s (s.cease c) :=
  .one (.causes _ _ fun _ => cease_latched _ _)

theorem chain_ceaseAll (cs) : Chain b s (s.ceaseAll cs) :=
  .one (.causes _ _ fun _ => ceaseAll_latched _ _)

theorem chain_setCause (c v) (h : b = true → c ≠ .selftestFail) : Chain b s (s.setCause c v) :=
  .one (.causes _ _ fun hb => by rw [set_latched _ _ _ (h hb)])

theorem chain_latchCount (c) (h : b = true → c ≠ .selftestFail) : Chain b s (s.latchCount c) :=
  .one (.causes _ _ fun hb => by unfold CauseSet.latchCount; rw [set_latched _ _ _ (h hb)])

theorem chain_writeOutcome (a c d) : Chain b s (s.writeOutcome a c d) := .one (.seq _ _ rfl)

theorem chain_writeMarked (a) : Chain b s (s.writeMarked a) := chain_writeOutcome _ _ _ _

theorem chain_judgeJam : Chain b s s.judgeJam := by
  unfold State.judgeJam
  refine (Chain.one (.timers _ _)).trans (.one (.causes _ _ fun _ => ?_))
  split
  · rfl
  · exact cease_latched _ _

theorem chain_recompute : Chain b s s.recompute := .one (.limit s id)

theorem chain_reselectBand : Chain b s s.reselectBand := by
  unfold State.reselectBand
  split
  · exact .refl _
  · exact .one (.limit _ _)

theorem chain_recomputeTrim : Chain b s s.recomputeTrim := .one (.reg _ _ fun _ h => h)

theorem chain_setG (g) : Chain b s (s.setG g) := .one (.cause _ _ rfl rfl)

theorem chain_installClamp (o p) : Chain b s (s.installClamp o p) := by
  unfold State.installClamp
  split
  · exact .refl _
  · split
    · exact .one (.limit _ _)
    · exact .refl _

theorem chain_composeClamp (c) : Chain b s (s.composeClamp c) := by
  unfold State.composeClamp
  dsimp only
  split
  · exact chain_installClamp _ _ _
  · exact .one (.link _ _)

theorem chain_composeTrip (n c st f v) : Chain b s (s.composeTrip n c st f v) := by
  unfold State.composeTrip
  exact .one (.link _ _)

theorem chain_composeRoll : Chain b s s.composeRoll := by
  unfold State.composeRoll
  exact .one (.link _ _)

theorem chain_composeShare : Chain b s s.composeShare := by
  unfold State.composeShare
  exact (chain_recomputeTrim s).trans ((Chain.one (.ownShare _ _ rfl)).trans (.one (.link _ _)))

/-- A move from a state in which the blocks run. -/
theorem chain_moveTo (new) (h : s.st.blocksRun = true) : Chain b s (s.moveTo new) := .one (.move _ _ (.inl h))

theorem chain_abortSelftest : Chain b s s.abortSelftest :=
  (Chain.one (.seq _ _ rfl)).trans (chain_writeOutcome _ _ _ _)

@[simp] theorem st_abortSelftest : s.abortSelftest.st = s.st := rfl

theorem chain_tripMove : Chain b s s.tripMove := by
  unfold State.tripMove
  split
  all_goals try (rename_i h)
  · exact (chain_abortSelftest _).trans (chain_moveTo _ _ (by simp [h, StationState.blocksRun]))
  all_goals try exact .refl _
  all_goals split
  all_goals first
    | exact chain_moveTo _ _ (by simp [h, StationState.blocksRun])
    | exact (chain_moveTo _ _ (by simp [h, StationState.blocksRun])).trans
        (chain_moveTo _ _ (by simp [StationState.blocksRun]))

theorem chain_originTrip (c d) : Chain b s (s.originTrip c d) := by
  unfold State.originTrip
  exact (((chain_setG _ _).trans (.one (.trip _ _ _ _ _ _ _ (by simp)))).trans
    (chain_composeTrip _ _ _ _ _ _)).trans (chain_tripMove _)

theorem chain_followerTrip (n o d) : Chain b s (s.followerTrip n o d) := by
  unfold State.followerTrip
  exact (((chain_setG _ _).trans (chain_latchCount _ _ (by simp))).trans
    (.one (.trip _ _ _ _ _ _ _ (by simp)))).trans (chain_tripMove _)

theorem chain_loopTrip : Chain b s s.loopTrip := by
  unfold State.loopTrip
  exact ((((chain_latchCount _ _ (by simp)).trans (.one (.cause _ _ rfl rfl))).trans
    (.one (.trip _ _ _ _ _ _ _ (by simp)))).trans (chain_tripMove _)).trans (.one (.timers _ _))

theorem chain_loopCheck : Chain b s s.loopCheck := by
  unfold State.loopCheck
  split
  · exact chain_loopTrip _
  · exact .refl _

theorem chain_subsequentCause (c n) : Chain b s (s.subsequentCause c n) := by
  unfold State.subsequentCause
  dsimp only
  have h1 : Chain b s (if s.cause.context.isSome then
      s.onCurrent (TripRecord.addSubsequent s.clock.timeMark c n) else s) := by
    split
    · exact .one (.subsequent _ _ _)
    · exact .refl _
  refine h1.trans ?_
  generalize (if s.cause.context.isSome then
      s.onCurrent (TripRecord.addSubsequent s.clock.timeMark c n) else s) = u
  split
  · rename_i h
    exact chain_moveTo _ _ (by simp [h, StationState.blocksRun])
  · exact .refl _

theorem chain_actOnRise (c d) : Chain b s (s.actOnRise c d) := by
  unfold State.actOnRise
  split
  · split
    · exact chain_originTrip _ _ _
    · split
      · exact chain_subsequentCause _ _ _
      · exact .refl _
  · exact chain_composeClamp _ _
  · exact .refl _

theorem chain_rise (c d) (h : b = true → c ≠ .selftestFail) : Chain b s (s.rise c d) :=
  ((chain_setCause _ _ _ h).trans (chain_latchCount _ _ h)).trans (chain_actOnRise _ _ _)

theorem chain_present (c p d) (h : b = true → c ≠ .selftestFail) : Chain b s (s.present c p d) := by
  unfold State.present
  split
  · exact .refl _
  · split
    · split
      · exact .refl _
      · exact chain_rise _ _ _ h
    · exact chain_cease _ _

theorem chain_inFreeOrder {α : Type} (f : α → State → State) (n : Nat) (l : List α)
    (hf : ∀ x ∈ l, ∀ s, Chain b s (f x s)) : Chain b s (State.inFreeOrder f n l s) := by
  induction n generalizing l s with
  | zero =>
    match l, hf with
    | [], _ => exact .refl _
    | [x], hf => exact hf x (by simp) s
    | x :: y :: r, hf => exact hf x (by simp) s
  | succ n ih =>
    match l, hf with
    | [], _ => exact .refl _
    | [x], hf => exact hf x (by simp) s
    | x :: y :: r, hf =>
      unfold State.inFreeOrder
      dsimp only
      have hi : Config.freeChoice s.free % (x :: y :: r).length < (x :: y :: r).length :=
        Nat.mod_lt _ (by simp)
      refine (Chain.one (.free s (s.free + 1))).trans
        ((hf _ ?_ _).trans (ih _ _ fun z hz => hf z (List.mem_of_mem_eraseIdx hz)))
      rw [List.getD_eq_getElem _ _ hi]
      exact List.getElem_mem hi

theorem chain_enterMute : Chain b s s.enterMute := by
  unfold State.enterMute
  split
  · exact .refl _
  · have h (l : List ClampPayload) : ∀ u : State,
        Chain b u (l.foldl (fun s p => s.installClamp s.loader.station p) u) := by
      induction l with
      | nil => exact fun u => .refl u
      | cons p l ih => exact fun u => (chain_installClamp u _ p).trans (ih _)
    exact (Chain.one (.link s _)).trans (h _ _)

theorem chain_learnG (n) : Chain b s (s.learnG n) := by
  unfold State.learnG
  split
  · exact chain_setG _ _
  · exact .refl _

theorem chain_countValid : Chain b s s.countValid := .one (.link _ _)

end Basic

section Sequencing

variable {b : Bool} (s : State)

theorem chain_enterStopped (h : s.st.blocksRun = true) : Chain b s s.enterStopped :=
  (chain_moveTo _ _ h).trans (chain_loopCheck _)

theorem chain_enterStandby (h : s.st.blocksRun = true) : Chain b s s.enterStandby :=
  (chain_moveTo _ _ h).trans (chain_loopCheck _)

theorem chain_enterSelftest (tag) (h : s.st.blocksRun = true) : Chain b s (s.enterSelftest tag) :=
  ((Chain.one (.seq s (fun q => { q with selftestTag := tag }) rfl)).trans
    (chain_moveTo _ _ (by simpa [State.st] using h))).trans (chain_loopCheck _)

theorem chain_checkGroupShort : Chain b s s.checkGroupShort := chain_present _ _ _ _ (by simp)

theorem chain_enterMode (m) (h : s.st.blocksRun = true) : Chain b s (s.enterMode m) :=
  (chain_moveTo _ _ h).trans (chain_checkGroupShort _)

theorem chain_leaveBreakaway (h : s.st.blocksRun = true) : Chain b s s.leaveBreakaway := chain_enterMode _ _ h

theorem chain_enterBreakaway (h : s.st.blocksRun = true) : Chain b s s.enterBreakaway := by
  unfold State.enterBreakaway
  dsimp only
  refine ((chain_moveTo s .breakaway h).trans (chain_checkGroupShort _)).trans ?_
  split
  · rename_i h
    exact chain_leaveBreakaway _ (by simp [h.1, StationState.blocksRun])
  · exact .refl _

theorem chain_enterDecel (h : s.st.blocksRun = true) : Chain b s s.enterDecel := by
  unfold State.enterDecel
  dsimp only
  refine (chain_moveTo s .decel h).trans ?_
  split
  · exact chain_enterStopped _ (by simp [StationState.blocksRun])
  · exact .refl _

theorem chain_enterStarting (h : s.st.blocksRun = true) : Chain b s s.enterStarting := by
  unfold State.enterStarting
  dsimp only
  have k (u : State) (hu : u.st.blocksRun = true) :
      Chain b u (if u.seq.confirmation.isEmpty then u.enterBreakaway else u) := by
    split
    · exact chain_enterBreakaway _ hu
    · exact .refl _
  exact ((chain_moveTo s .starting h).trans
    ((Chain.one (.seq _ (fun q => { q with confirmation := (s.moveTo .starting).others }) rfl)).trans
      (.one (.timers _ _)))).trans (k _ (by
        show (s.moveTo .starting).st.blocksRun = true
        rw [st_moveTo]; rfl))

theorem chain_countChanged : Chain b s s.countChanged := by
  unfold State.countChanged
  split
  · rename_i h
    split
    · exact (chain_writeMarked _ _).trans (chain_enterStopped _ (by simp [h, StationState.blocksRun]))
    · split
      · exact (Chain.one (.seq _ _ rfl)).trans (chain_writeMarked _ _)
      · exact .refl _
  · split
    · exact (Chain.one (.seq _ _ rfl)).trans (chain_writeMarked _ _)
    · exact .refl _
  · rename_i h
    split
    · exact (chain_writeMarked _ _).trans (chain_moveTo _ _ (by simp [h, StationState.blocksRun]))
    · exact .refl _
  · exact .refl _

theorem chain_checkGroup (cc) : Chain b s (s.checkGroup cc) := by
  unfold State.checkGroup
  have k (v : State) : Chain b v (if v.st.driving then v else v.ceaseAll [.groupShort, .outOfStep]) := by
    split
    · exact .refl _
    · exact chain_ceaseAll _ _
  refine (chain_ceaseAll s _).trans ((chain_inFreeOrder _ _ _ _ ?_).trans (k _))
  intro c hc v
  refine chain_rise v c 0 fun _ => ?_
  rintro rfl
  cases cc <;> simp at hc

theorem chain_standbyExit : Chain b s s.standbyExit := by
  unfold State.standbyExit
  split
  · rename_i h
    split
    · exact chain_enterStopped _ (by simp [h.1, StationState.blocksRun])
    · exact chain_enterSelftest _ _ (by simp [h.1, StationState.blocksRun])
  · exact .refl _

/-- What follows the refresh in a re-evaluation. -/
theorem chain_reevaluate_after : Chain b s.refreshMembers s.reevaluate := by
  unfold State.reevaluate
  dsimp only
  generalize s.refreshMembers = u
  generalize s.count = before
  generalize (!s.seq.confirmation.isEmpty) = waiting
  have h1 : Chain b u (if u.st = .starting then u.onSeq fun q =>
      { q with confirmation := q.confirmation.filter u.peers.participants.contains } else u) := by
    split
    · exact .one (.seq _ _ rfl)
    · exact .refl _
  refine h1.trans ?_
  generalize (if u.st = .starting then u.onSeq fun q =>
      { q with confirmation := q.confirmation.filter u.peers.participants.contains } else u) = v
  have h2 : Chain b v (if (v.count != before) = true then v.countChanged else v) := by
    split
    · exact chain_countChanged _
    · exact .refl _
  refine h2.trans ?_
  generalize (if (v.count != before) = true then v.countChanged else v) = w
  refine ((chain_checkGroup w (v.count != before)).trans (chain_standbyExit _)).trans ?_
  generalize (w.checkGroup (v.count != before)).standbyExit = x
  split
  · rename_i h
    simp at h
    exact chain_enterBreakaway _ (by simp [h.2, StationState.blocksRun])
  · exact .refl _

theorem chain_reevaluate : Chain b s s.reevaluate :=
  (Chain.one (.refresh s)).trans (chain_reevaluate_after s)

theorem chain_peerCauses : Chain b s s.peerCauses :=
  ((chain_present _ _ _ _ (by simp)).trans (chain_present _ _ _ _ (by simp))).trans
    (chain_present _ _ _ _ (by simp))

theorem refreshed_ok (cls) (e : PeerEntry) : (e.refreshed cls).Ok := Nat.zero_le 2

/-- A refresh of a peer's entry: a change of the entry, then a chain that ends in agreement. -/
theorem chain_refreshPeer (o cls) (h : o ≠ s.loader.station) : Chain false s (s.refreshPeer o cls) := by
  unfold State.refreshPeer
  dsimp only
  have k (u : State) (c : Bool) : Chain false u (if c then u.peerCauses.reevaluate else u) := by
    split
    · exact (chain_peerCauses _).trans (chain_reevaluate _)
    · exact .refl _
  exact (Chain.one (.entry s o _ h (fun _ => refreshed_ok _ _) (by simp))).trans (k _ _)

theorem chain_haltFromJoining : Chain b s s.haltFromJoining := by
  unfold State.haltFromJoining
  dsimp only
  exact (((Chain.one (.move s .faultHalt (.inr rfl))).trans (.one (.link _ _))).trans
    (.one (.timers _ _))).trans (.one (.speed _ _))

theorem chain_duplicate : Chain b s s.duplicate := by
  unfold State.duplicate
  split
  · exact chain_haltFromJoining _
  · split
    · exact (chain_present _ _ _ _ (by simp)).trans (chain_enterMute _)
    · exact .refl _

end Sequencing

end Sys2Proof.Machine
end

