-- ==== Sys2Proof/Laws/Tables.lean ====
section
/-!
SUPPORT. The laws of the small tables: reading after writing in the tables of eight, in the cause set; saturating
counts.
-/

namespace Sys2Proof

theorem Eight.get_set {α : Type} (t : Eight α) (i j : Fin 8) (v : α) :
    (t.set i v).get j = if j = i then v else t.get j := by
  match i, j with
  | 0, 0 | 0, 1 | 0, 2 | 0, 3 | 0, 4 | 0, 5 | 0, 6 | 0, 7 => rfl
  | 1, 0 | 1, 1 | 1, 2 | 1, 3 | 1, 4 | 1, 5 | 1, 6 | 1, 7 => rfl
  | 2, 0 | 2, 1 | 2, 2 | 2, 3 | 2, 4 | 2, 5 | 2, 6 | 2, 7 => rfl
  | 3, 0 | 3, 1 | 3, 2 | 3, 3 | 3, 4 | 3, 5 | 3, 6 | 3, 7 => rfl
  | 4, 0 | 4, 1 | 4, 2 | 4, 3 | 4, 4 | 4, 5 | 4, 6 | 4, 7 => rfl
  | 5, 0 | 5, 1 | 5, 2 | 5, 3 | 5, 4 | 5, 5 | 5, 6 | 5, 7 => rfl
  | 6, 0 | 6, 1 | 6, 2 | 6, 3 | 6, 4 | 6, 5 | 6, 6 | 6, 7 => rfl
  | 7, 0 | 7, 1 | 7, 2 | 7, 3 | 7, 4 | 7, 5 | 7, 6 | 7, 7 => rfl

@[simp] theorem Eight.get_set_self {α : Type} (t : Eight α) (i : Fin 8) (v : α) : (t.set i v).get i = v := by
  simp [Eight.get_set]

theorem Eight.get_set_ne {α : Type} (t : Eight α) {i j : Fin 8} (v : α) (h : j ≠ i) :
    (t.set i v).get j = t.get j := by
  simp [Eight.get_set, h]

@[simp] theorem Eight.get_map {α β : Type} (f : Fin 8 → α → β) (t : Eight α) (j : Fin 8) :
    (t.map f).get j = f j (t.get j) := by
  match j with
  | 0 | 1 | 2 | 3 | 4 | 5 | 6 | 7 => rfl

theorem mem_eightNumbers (i : Fin 8) : i ∈ eightNumbers := by
  revert i
  decide

namespace Machine

@[simp] theorem CauseSet.get_set_self (t : CauseSet) (c : Cause) (v : CauseField) : (t.set c v).get c = v := by
  cases c <;> rfl

theorem CauseSet.get_set_ne (t : CauseSet) {c d : Cause} (v : CauseField) (h : d ≠ c) :
    (t.set c v).get d = t.get d := by
  cases c <;> cases d <;> first | rfl | exact absurd rfl h

theorem mem_causes (c : Cause) : c ∈ Cause.all := by
  cases c <;> decide

/-- A ceased cause keeps its latch and its count, R111. -/
theorem CauseSet.get_cease (t : CauseSet) (c : Cause) :
    (t.cease c).get c = { t.get c with present := false } := by
  simp [CauseSet.cease]

/-- A cause latched and counted keeps whether it is present, R111. -/
theorem CauseSet.get_latchCount (t : CauseSet) (c : Cause) :
    (t.latchCount c).get c = { t.get c with latched := true, count := bump 255 (t.get c).count } := by
  simp [CauseSet.latchCount]

theorem bump_le (limit count : Nat) : bump limit count ≤ limit := Nat.min_le_left _ _

end Machine

end Sys2Proof
end

