-- ==== Sys2Proof/Laws/Commands.lean ====
section
/-!
SUPPORT. What the operations of each command can do: chains of the changes of Laws/Steps.lean. Where a command disturbs
the participant list on the way, `Lands` says that a re-evaluation or a change of state settles it again.
-/

namespace Sys2Proof.Machine

/-- From `s` to `t` with the participant list settled at the latest on the way. -/
def Lands (s t : State) : Prop :=
  Chain true s t ∨ (∃ u, Chain false s u ∧ Chain true u.refreshMembers t)
    ∨ (∃ u new, u.st ≠ new ∧ u.st.blocksRun = true ∧ Chain false s u ∧ Chain true (u.moveTo new) t)

namespace Lands

theorem chain {s t : State} (h : Chain true s t) : Lands s t := .inl h

theorem refl (s : State) : Lands s s := .inl (.refl s)

theorem refreshed {s u t : State} (h : Chain false s u) (k : Chain true u.refreshMembers t) : Lands s t :=
  .inr (.inl ⟨u, h, k⟩)

theorem moved {s u t : State} (new : StationState) (hne : u.st ≠ new) (hb : u.st.blocksRun = true)
    (h : Chain false s u) (k : Chain true (u.moveTo new) t) : Lands s t :=
  .inr (.inr ⟨u, new, hne, hb, h, k⟩)

theorem before {s u t : State} (h : Lands s u) (k : Chain true u t) : Lands s t := by
  rcases h with h | ⟨v, h, l⟩ | ⟨v, new, hne, hb, h, l⟩
  · exact .chain (h.trans k)
  · exact .refreshed h (l.trans k)
  · exact .moved new hne hb h (l.trans k)

/-- A landing is a chain. -/
theorem loose {s t : State} (h : Lands s t) : Chain false s t := by
  rcases h with h | ⟨v, h, l⟩ | ⟨v, new, _, hb, h, l⟩
  · exact h.weaken
  · exact (h.trans (.one (.refresh v))).trans l.weaken
  · exact (h.trans (.one (.move v new (.inl hb)))).trans l.weaken

theorem trans {s u t : State} (h : Lands s u) (k : Lands u t) : Lands s t := by
  rcases k with k | ⟨v, k, l⟩ | ⟨v, new, hne, hb, k, l⟩
  · exact h.before k
  · exact .refreshed (h.loose.trans k) l
  · exact .moved new hne hb (h.loose.trans k) l

end Lands

theorem blocksRun_of (st : StationState) {new : StationState} (h : st = new) (hn : new.blocksRun = true) :
    st.blocksRun = true := h ▸ hn

section Regulating

variable {b : Bool} (s : State)

theorem chain_answerPeriod : Chain b s s.answerPeriod :=
  ((Chain.one (.gen s (fun g => { g with answered := true }) fun _ _ h => h)).trans
    (.one (.reg _ (fun r => { r with missCount := 0 }) fun _ h => h))).trans (chain_cease _ _)

theorem chain_stageOne (sample) : Chain b s (s.stageOne sample) :=
  (Chain.one (.reg s (Regulator.takeSample s.cfg sample) fun _ h => h)).trans (chain_present _ _ _ _ (by simp))

/-- OVERLOAD is an ALERT: presenting it changes the cause set alone. -/
theorem present_overload (p d) : ∃ g : CauseSet → CauseSet,
    (g s.cause.causes).selftestFail.latched = s.cause.causes.selftestFail.latched
      ∧ s.present .overload p d = s.onCauses g := by
  unfold State.present
  split
  · exact ⟨id, rfl, rfl⟩
  · split
    · split
      · exact ⟨id, rfl, rfl⟩
      · exact ⟨fun t => (t.set .overload { s.causeField .overload with present := true }).latchCount .overload,
          rfl, rfl⟩
    · exact ⟨fun t => t.cease .overload, rfl, rfl⟩

theorem chain_checkSurge : Chain b s s.checkSurge := by
  unfold State.checkSurge
  dsimp only
  split
  · exact chain_present _ _ _ _ (by simp)
  · exact .refl _

theorem chain_stageTwo : Chain b s s.stageTwo := by
  unfold State.stageTwo
  obtain ⟨g, hg, he⟩ := present_overload (s.onLimiter (Limiter.heat s.cfg s.reg.feedback s.periodUs))
    (s.onLimiter (Limiter.heat s.cfg s.reg.feedback s.periodUs)).limiter.limit s.reg.feedback
  have h : Chain b s (((s.onLimiter (Limiter.heat s.cfg s.reg.feedback s.periodUs)).onCauses g).recompute) :=
    .one (.heat s _ g hg)
  dsimp only
  erw [he]
  exact (h.trans (chain_judgeJam _)).trans (chain_checkSurge _)

theorem chain_regulate : Chain b s s.regulate := by
  unfold State.regulate
  dsimp only
  split
  · exact .one (.reg s _ fun _ _ => ⟨rfl, rfl, rfl, rfl, rfl, rfl⟩)
  · rename_i h
    have hc : ¬ s.lines.convEn = false := by simpa using h
    split
    · exact .one (.reg s _ fun h _ => absurd h hc)
    · exact .one (.reg s _ fun h _ => absurd h hc)

theorem chain_handOver : Chain b s s.handOver := by
  unfold State.handOver
  refine (Chain.one (.gen s (fun g => { g with demand := s.reg.conduction })
    fun _ hr hg => ⟨hg.1, hr.2.2.2.2.2⟩)).trans (.one (.reg _ _ fun _ h => h))

theorem chain_controlStep (sample) : Chain b s (s.controlStep sample) :=
  ((((chain_answerPeriod s).trans (chain_stageOne _ _)).trans (chain_stageTwo _)).trans (chain_regulate _)).trans
    (chain_handOver _)

/-- What CONDUCTION_PERIOD_START does while the blocks run. -/
theorem chain_periodStart :
    Chain b s ((s.onGen (Generator.latch s.lines.convEn)).onReg fun r =>
      { r with missCount := missCountAfter s.lines.convEn s.gen.answered s.reg.missCount }) :=
  (Chain.one (.gen s _ fun h _ hg => by
    rw [h]; exact ⟨rfl, hg.2⟩)).trans (.one (.reg _ (fun r => { r with missCount := _ }) fun _ h => h))

theorem chain_onEnd : Chain b s (s.onGen fun g => { g with phase := .off }) :=
  .one (.gen s _ fun _ _ h => ⟨rfl, h.2⟩)

theorem chain_speedChanged : Chain b s s.speedChanged :=
  ((chain_present _ _ _ _ (by simp)).trans (chain_reselectBand _)).trans (chain_judgeJam _)

theorem chain_checkRotation : Chain b s s.checkRotation := by
  unfold State.checkRotation
  split
  · rename_i h
    exact chain_leaveBreakaway _ (blocksRun_of _ h.1 rfl)
  · exact .refl _

theorem chain_tachEdge (e) : Chain b s (s.tachEdge e) := by
  unfold State.tachEdge
  split
  · exact .refl _
  · exact ((Chain.one (.speed s _)).trans (chain_speedChanged _)).trans (chain_checkRotation _)

theorem chain_standstillReached : Chain b s s.standstillReached := by
  unfold State.standstillReached
  split
  · rename_i h
    exact chain_enterStopped _ (blocksRun_of _ h rfl)
  · rename_i h
    exact chain_moveTo _ _ (blocksRun_of _ h rfl)
  · exact .refl _

end Regulating

section Vibration

variable {b : Bool} (s : State)

theorem chain_judgeAlert (fig band) : Chain b s (s.judgeAlert fig band) := by
  unfold State.judgeAlert
  split
  · dsimp only
    split
    · exact (Chain.one (.vib s _ rfl)).trans (chain_present _ _ _ _ (by simp))
    · exact .one (.vib s _ rfl)
  · exact (Chain.one (.vib s (fun v => { v with alertCount := 0 }) rfl)).trans (chain_cease _ _)

theorem chain_judgeTrip (fig band) : Chain b s (s.judgeTrip fig band) := by
  unfold State.judgeTrip
  split
  · dsimp only
    split
    · exact (Chain.one (.vib s _ rfl)).trans (chain_present _ _ _ _ (by simp))
    · exact .one (.vib s _ rfl)
  · exact (Chain.one (.vib s (fun v => { v with tripCount := 0 }) rfl)).trans (chain_cease _ _)

theorem chain_writeVib (a) : Chain b s (s.writeVib a) := by
  unfold State.writeVib
  split
  · exact .refl _
  · exact .one (.derate s _)

theorem chain_derate (fig band) : Chain b s (s.derate fig band) := by
  unfold State.derate
  split
  · exact .refl _
  · dsimp only
    have k (u : State) : Chain b u
        (if u.cfg.alertRms band ≤ fig.rms then u.onVib fun v => { v with quietCount := 0 }
          else if u.cfg.recoveryWindows ≤ u.vib.quietCount + 1 then
            (u.onVib fun v => { v with quietCount := 0 }).writeVib
              (min u.cfg.ratedCeiling (u.vib.allowance + u.cfg.derateStep))
          else u.onVib fun v => { v with quietCount := v.quietCount + 1 }) := by
      split
      · exact .one (.vib u _ rfl)
      · split
        · exact (Chain.one (.vib u (fun v => { v with quietCount := 0 }) rfl)).trans (chain_writeVib _ _)
        · exact .one (.vib u _ rfl)
    split
    · exact (chain_writeVib s _).trans (k _)
    · exact k s

theorem chain_completeWindow : Chain b s s.completeWindow := by
  unfold State.completeWindow
  dsimp only
  exact ((((Chain.one (.vib s _ rfl)).trans (chain_judgeAlert _ _ _)).trans (chain_judgeTrip _ _ _)).trans
    (chain_derate _ _ _)).trans (.one (.vib _ VibWatch.emptied rfl))

theorem chain_hearConverter : Chain b s s.hearConverter :=
  (Chain.one (.timers s _)).trans (chain_cease _ _)

theorem chain_takeVibSample (x) : Chain b s (s.takeVibSample x) := by
  unfold State.takeVibSample
  split
  · exact .refl _
  · dsimp only
    split
    · exact (Chain.one (.vib s _ rfl)).trans (chain_completeWindow _)
    · exact .one (.vib s _ rfl)

/-- The report of a test made in SELFTEST settles the list by its change of state. -/
theorem lands_selftestReport (passed) (h : s.st = .selftest) : Lands s (s.selftestReport passed) := by
  unfold State.selftestReport
  dsimp only
  have move (u : State) (hu : u.st = .selftest) (hc : Chain false s u) :
      Lands s (if u.someOtherShows StationState.startingOrRunning then u.enterStandby else u.enterStopped) := by
    split
    · exact .moved .standby (by rw [hu]; simp) (blocksRun_of _ hu rfl) hc (chain_loopCheck _)
    · exact .moved .stopped (by rw [hu]; simp) (blocksRun_of _ hu rfl) hc (chain_loopCheck _)
  have hd : Chain false s (s.onSeq fun q => { q with selftestDone := true }) := .one (.seq s _ rfl)
  cases passed with
  | true =>
    exact move _ h ((hd.trans (chain_setCause _ _ _ (by simp))).trans (chain_writeOutcome _ _ _ _))
  | false =>
    refine move _ ?_ ((hd.trans (chain_present _ _ _ _ (by simp))).trans (chain_writeOutcome _ _ _ _))
    simp only [Bool.false_eq_true, if_false]
    unfold State.present
    split
    · exact h
    · rw [if_pos rfl]
      split
      · exact h
      · exact h

theorem lands_completeTestWindow (fig) (h : s.st = .selftest) : Lands s (s.completeTestWindow fig) := by
  unfold State.completeTestWindow
  dsimp only
  have hc {b} : Chain b s (s.onVib fun v => { v.emptied with
      failMark := s.vib.failMark || !criterionMet s.cfg s.vib.phase fig, patternCount := 0,
      phase := s.vib.phase.next }) := .one (.vib s _ rfl)
  split
  · exact .trans (.chain hc) (lands_selftestReport _ _ h)
  · exact .chain hc

theorem lands_patternSample (fig : Option Figures) (h : s.st = .selftest) :
    ∀ u, u = (s.onVib fun v => { (v.take v.patternValue) with patternCount := v.patternCount + 1 }).onTimers
        (fun t => { t with pattern := some 100 }) →
      Lands s (if 256 ≤ u.vib.patternCount then u.completeTestWindow (fig.getD u.vib.figures) else u) := by
  rintro u rfl
  have hc {b} : Chain b s ((s.onVib fun v =>
      { (v.take v.patternValue) with patternCount := v.patternCount + 1 }).onTimers
        fun t => { t with pattern := some 100 }) := (Chain.one (.vib s _ rfl)).trans (.one (.timers _ _))
  split
  · exact .trans (.chain hc) (lands_completeTestWindow _ _ h)
  · exact .chain hc

end Vibration

section Trips

variable {b : Bool} (s : State)

theorem chain_stopLoopWait : Chain b s s.stopLoopWait := .one (.timers s _)

theorem chain_changeContext (old ctx : TripContext) (h : s.cause.context = some old) (hc : old.Ok → ctx.Ok) :
    Chain b s (s.changeContext ctx) := .one (.context s old ctx h hc)

/-- While the number is pending nothing is confirmed and no co-origin is held. -/
theorem pending_ok {ctx : TripContext} (h : ctx.Ok) (hn : ctx.number = none) :
    ctx.confirmed = false ∧ ctx.coOrigins = [] :=
  ⟨h.2 hn, h.1.2.2 (h.2 hn)⟩

theorem chain_settleNumber (ctx n o) (h : s.cause.context = some ctx) (hn : ctx.number = none) :
    Chain b s (s.settleNumber ctx n o) := by
  unfold State.settleNumber
  refine ((chain_setG s n).trans (chain_changeContext _ ctx _ h fun ok => ?_)).trans (chain_stopLoopWait _)
  have k := (pending_ok ok hn).2
  refine ⟨⟨by simp [k], ?_, fun _ => k⟩, fun h => absurd h (by simp)⟩
  intro o' _
  simp [k]

theorem chain_numberLoopTrip : Chain b s s.numberLoopTrip := by
  unfold State.numberLoopTrip
  split
  · exact .refl _
  · rename_i ctx h
    split
    · exact .refl _
    · rename_i hn
      simp at hn
      dsimp only
      refine ((chain_setG s (successor s.cause.g)).trans (chain_changeContext _ ctx _ h fun ok => ?_)).trans
        (chain_composeTrip _ _ _ _ _ _)
      have k := (pending_ok ok hn).2
      refine ⟨⟨by simp [TripContext.ownNumber, k], ?_, fun _ => k⟩, fun h => absurd h (by simp [TripContext.ownNumber])⟩
      intro o' _
      simp [TripContext.ownNumber, k]

theorem chain_countStale : Chain b s s.countStale := by
  unfold State.countStale
  exact .one (.link s _)

theorem chain_peerTripSubsequent (n) : Chain b s (s.peerTripSubsequent n) :=
  ((chain_setG s n).trans (chain_latchCount _ _ (by simp))).trans (chain_subsequentCause _ _ _)

theorem confirm_ok {ctx : TripContext} (h : ctx.Ok) (hc : ctx.confirmed = false) (station sender) :
    (ctx.confirm station sender).Ok ∨ ctx.number = none := by
  by_cases hn : ctx.number = none
  · exact .inr hn
  · have k := h.1.2.2 hc
    refine .inl ⟨⟨by simp [TripContext.confirm, k], ?_, fun _ => k⟩, fun h => absurd h hn⟩
    intro o' _
    simp [TripContext.confirm, k]

theorem addCoOrigin_ok {ctx : TripContext} (h : ctx.Ok) (hc : ctx.confirmed = true) (sender code) :
    (ctx.addCoOrigin sender code).Ok := by
  unfold TripContext.addCoOrigin
  split
  · exact h
  · rename_i hn
    simp only [not_or, List.any_eq_true, beq_iff_eq, not_exists, not_and] at hn
    have hm : sender ∉ ctx.coOrigins.map (·.station) := by
      intro hm
      obtain ⟨x, hx, hs⟩ := List.mem_map.mp hm
      exact hn.2 x hx hs
    refine ⟨⟨?_, ?_, ?_⟩, h.2⟩
    · rw [List.map_append]
      exact List.Nodup.append h.1.1 (by simp) (by simpa using hm)
    · intro o ho hmem
      rw [List.map_append, List.mem_append] at hmem
      rcases hmem with hmem | hmem
      · exact h.1.2.1 o ho hmem
      · simp at hmem
        exact hn.1 (hmem ▸ ho)
    · intro hf
      exact absurd hc (by simp [show ctx.confirmed = false from hf])

theorem chain_tripWhileTripped (sender p) : Chain b s (s.tripWhileTripped sender p) := by
  unfold State.tripWhileTripped
  split
  · split
    · exact chain_peerTripSubsequent _ _
    · exact chain_countStale _
  · rename_i ctx h
    split
    · rename_i hn
      simp at hn
      split
      · exact chain_settleNumber _ _ _ _ h hn
      · exact chain_countStale _
    · rename_i hnum
      split
      · split
        · rename_i hc
          split
          · exact .refl _
          · exact chain_changeContext _ _ _ h fun ok => addCoOrigin_ok ok hc _ _
        · rename_i hc
          refine chain_changeContext _ _ _ h fun ok => ?_
          rcases confirm_ok ok (by simpa using hc) s.loader.station sender with k | k
          · exact k
          · simp [k] at hnum
      · split
        · exact chain_peerTripSubsequent _ _
        · exact chain_countStale _

theorem chain_takeTrip (sender p) : Chain b s (s.takeTrip sender p) := by
  unfold State.takeTrip
  split
  · split
    · exact .refl _
    · exact chain_learnG _ _
  · split
    · split
      · exact chain_followerTrip _ _ _ _
      · exact chain_countStale _
    · split
      · split
        · exact chain_setG _ _
        · exact chain_countStale _
      · split
        · exact chain_tripWhileTripped _ _ _
        · exact .refl _

end Trips

section Expiries

variable {b : Bool} (s : State)

theorem participates_of_standing {e e' : PeerEntry} (h : e'.standingDiffers e = false) (hs : e'.share = e.share) :
    e'.participates = e.participates := by
  simp [PeerEntry.standingDiffers] at h
  unfold PeerEntry.participates
  rw [h.1.1, h.1.2, h.2, hs]

theorem aged_share (e : PeerEntry) : e.aged.share = e.share := by
  unfold PeerEntry.aged
  split <;> rfl

theorem lands_age : Lands s s.age := by
  unfold State.age
  dsimp only
  split
  · exact .refreshed ((Chain.one (.age s (by simp))).trans (chain_peerCauses _)) (chain_reevaluate_after _)
  · rename_i hn
    refine .chain ?_
    simp only [standingsDiffer, List.any_eq_true, not_exists, not_and, Bool.not_eq_true] at hn
    refine .one (.age s fun _ n hne => participates_of_standing ?_ (aged_share _))
    have h := hn n (mem_eightNumbers n)
    simpa [State.ageEntries, State.entry, hne] using h

theorem chain_presentAll : Chain b s s.presentAll := by
  unfold State.presentAll
  refine chain_inFreeOrder _ _ _ _ fun c hc u => chain_present _ _ _ _ ?_
  rintro - rfl
  simp [State.conditionNow] at hc

theorem chain_joinEnd (h : s.st = .joining) : Chain b s s.joinEnd := by
  unfold State.joinEnd
  dsimp only
  exact (((((Chain.one (.link s _)).trans (.one (.seq _ (fun q => { q with selftestTag := 0 }) rfl))).trans
    (chain_moveTo _ _ (blocksRun_of _ h rfl))).trans (.one (.timers _ _))).trans (chain_composeShare _)).trans
    (chain_presentAll _)

theorem chain_joinStep : Chain b s s.joinStep := by
  unfold State.joinStep
  split
  · exact .refl _
  · rename_i h
    dsimp only
    refine (Chain.one (.expiries s (s.peers.joinExpiries + 1))).trans ?_
    split
    · exact chain_composeRoll _
    · exact chain_joinEnd _ (by simpa using h)

theorem chain_loseDemand : Chain b s s.loseDemand := by
  unfold State.loseDemand
  split
  · rename_i h
    exact chain_enterStopped _ (blocksRun_of _ h rfl)
  all_goals first
    | exact .refl _
    | (rename_i h; exact chain_enterDecel _ (blocksRun_of _ h rfl))

theorem chain_demandExpiry : Chain b s (if s.st.startingOrRunning then (s.present .demandLoss true 0).loseDemand else s) := by
  split
  · exact (chain_present _ _ _ _ (by simp)).trans (chain_loseDemand _)
  · exact .refl _

theorem chain_setStage (n) : Chain b s (s.setStage n) := by
  unfold State.setStage
  exact .trans (t := ((s.onTimers fun t => { t with stage := some (s.cfg.stageTime * 1000) }).onSpeed
      fun u => { u with stageEdges := 0 }))
    ((Chain.one (.timers s _)).trans (.one (.speed _ _)))
    (.one (.limit _ fun l => { l with stage := n, stageValue := s.cfg.stageLevel n }))

theorem chain_testSurge : Chain b s s.testSurge := by
  unfold State.testSurge
  split
  · exact chain_cease _ _
  · exact .refl _

theorem appendRing_length (ring : List HistoryEntry) (e : HistoryEntry) (h : ring.length ≤ 48) :
    (appendRing ring e).length ≤ 48 := by
  unfold appendRing
  split
  · rw [List.length_append, List.length_singleton]
    omega
  · rw [List.length_append, List.length_drop, List.length_singleton]
    omega

theorem appendTail_closed (e : HistoryEntry) (r : TripRecord) (h : (r.appendTail e).closed = false) :
    r.closed = false := by
  unfold TripRecord.appendTail at h
  split at h
  · exact h
  · rename_i hn
    simpa using hn

theorem appendTail_ok {n : Nat} {r : TripRecord} (e : HistoryEntry) (h : r.Ok n) : (r.appendTail e).Ok n := by
  obtain ⟨h1, h2, h3, h4, h5, h6, h7, h8, h9⟩ := h
  unfold TripRecord.appendTail
  split
  · exact ⟨h1, h2, h3, h4, h5, h6, h7, h8, h9⟩
  · rename_i hc
    have hl := h3 (by simpa using hc)
    refine ⟨h1, ?_, ?_, ?_, h5, h6, h7, h8, h9⟩
    · show (r.tail ++ [e]).length ≤ 16
      rw [List.length_append, List.length_singleton]
      omega
    · intro hd
      show (r.tail ++ [e]).length < 16
      rw [List.length_append, List.length_singleton]
      have : decide (16 ≤ r.tail.length + 1) = false := hd
      simp at this
      omega
    · intro hd ht
      have h1 : decide (16 ≤ r.tail.length + 1) = true := hd
      have h2 : (r.tail ++ [e]).length < 16 := ht
      rw [List.length_append, List.length_singleton] at h2
      simp at h1
      omega

theorem keptCount_congr {a b : Eight (Option TripRecord)}
    (h : ∀ i, (a.get i).any (·.keep) = (b.get i).any (·.keep)) : keptCount a = keptCount b := by
  unfold keptCount
  simp only [h]

/-- A change of every record that keeps each record in order, and neither opens nor keeps one. -/
theorem records_map_ok (r : RecordStore) (f : TripRecord → TripRecord) (ring : List HistoryEntry)
    (hr : ring.length ≤ 48) (hok : ∀ x : TripRecord, x.Ok r.serial → (f x).Ok r.serial)
    (hclosed : ∀ x, (f x).closed = false → x.closed = false) (hkeep : ∀ x, (f x).keep = x.keep) (h : r.Ok) :
    RecordStore.Ok { r with ring := ring, slots := r.slots.map fun _ x => x.map f } := by
  obtain ⟨_, h2, h3, h4, h5, h6⟩ := h
  refine ⟨hr, h2, ?_, ?_, ?_, ?_⟩
  · intro i x hx
    simp only [Eight.get_map, Option.map_eq_some_iff] at hx
    obtain ⟨y, hy, rfl⟩ := hx
    exact hok y (h3 i y hy)
  · intro i x hx hc
    simp only [Eight.get_map, Option.map_eq_some_iff] at hx
    obtain ⟨y, hy, rfl⟩ := hx
    exact h4 i y hy (hclosed y hc)
  · intro i hi
    simpa using h5 i hi
  · rw [keptCount_congr (b := r.slots)]
    · exact h6
    · intro i
      rw [Eight.get_map]
      cases r.slots.get i with
      | none => rfl
      | some x => exact hkeep x

theorem appendTail_keep (e : HistoryEntry) (r : TripRecord) : (r.appendTail e).keep = r.keep := by
  unfold TripRecord.appendTail
  split <;> rfl

theorem take_ok (testing : Bool) (e : HistoryEntry) (r : RecordStore) (h : r.Ok) : (r.take testing e).Ok := by
  refine records_map_ok r _ _ ?_ (fun x hx => appendTail_ok e hx) (fun x hx => appendTail_closed e x hx)
    (appendTail_keep e) h
  split
  · exact h.1
  · exact appendRing_length _ _ h.1

theorem chain_take (testing e) : Chain b s (s.onRecords (RecordStore.take testing e)) :=
  .one (.records s _ (take_ok testing e s.records))

end Expiries

section Inputs

variable {b : Bool} (s : State)

theorem chain_judgeLockout : Chain b s s.judgeLockout := by
  unfold State.judgeLockout
  split
  · exact .refl _
  · split
    · split
      · exact .one (.timers s _)
      · exact .refl _
    · exact .one (.timers s _)

theorem actionOf_selftestFail : s.actionOf .selftestFail ≠ .trip := by
  simp [State.actionOf, ActionTable.action, ActionTable.row, Cause.fixedAction]

theorem chain_exitRise (x) (h : x ≠ some .selftestFail) : Chain b s (s.exitRise x) := by
  unfold State.exitRise
  split
  · exact chain_loopCheck _
  · rename_i c
    exact (chain_latchCount _ _ fun _ hc => h (by rw [hc])).trans (chain_actOnRise _ _ _)

theorem lands_lockoutExit (h : s.st = .lockout) : Lands s s.lockoutExit := by
  unfold State.lockoutExit
  split
  · refine .moved (u := s.onCauses CauseSet.readied) .tripped ?_ (blocksRun_of _ h rfl) (.one (.causes s _ (by simp)))
      (.refl _)
    show s.st ≠ _
    rw [h]
    simp
  · dsimp only
    refine .moved (u := s.onCauses CauseSet.unlatch) _ ?_ (blocksRun_of _ h rfl) (.one (.causes s _ (by simp)))
      (chain_inFreeOrder _ _ _ _ fun x hx u => ?_)
    · show s.st ≠ _
      rw [h]
      split <;> simp
    · refine chain_exitRise u x ?_
      rintro rfl
      unfold State.exitRises at hx
      rw [List.mem_append] at hx
      rcases hx with hx | hx
      · split at hx <;> simp at hx
      · simp [actionOf_selftestFail] at hx

theorem lands_actOnFiltered : Lands s s.actOnFiltered := by
  unfold State.actOnFiltered
  dsimp only
  split
  · rename_i h
    exact .trans (.chain (chain_judgeLockout s)) (lands_lockoutExit _ h.1)
  · exact .chain (chain_judgeLockout s)

end Inputs

section Demands

variable {b : Bool} (s : State)

theorem chain_noteDemand (p) : Chain b s (s.noteDemand p) := by
  unfold State.noteDemand
  exact (((Chain.one (.limit s _)).trans (.one (.reg _ _ fun _ h => h))).trans (.one (.timers _ _))).trans
    (chain_cease _ _)

theorem chain_answerDemand (c p) : Chain b s (s.answerDemand c p) := chain_writeOutcome _ _ _ _

theorem chain_mark (p) : Chain b s (s.mark p) := .one (.seq s _ rfl)

theorem chain_intend (m) : Chain b s (s.intend m) := .one (.seq s _ rfl)

theorem chain_demandStart (m p) (h : s.st.blocksRun = true) : Chain b s (s.demandStart m p) := by
  unfold State.demandStart
  split
  · exact chain_answerDemand _ _ _
  · split
    · exact chain_answerDemand _ _ _
    · split
      · exact chain_answerDemand _ _ _
      · exact (((chain_intend _ _).trans (chain_mark _ _)).trans (chain_answerDemand _ _ _)).trans
          (chain_enterStarting _ h)

theorem chain_demandResume (m p) (h : s.st.blocksRun = true) : Chain b s (s.demandResume m p) := by
  unfold State.demandResume
  split
  · exact chain_answerDemand _ _ _
  · split
    · exact chain_answerDemand _ _ _
    · split
      · exact chain_answerDemand _ _ _
      · exact ((chain_mark _ _).trans (chain_answerDemand _ _ _)).trans (chain_enterMode _ _ h)

theorem chain_demandIntended (m p) : Chain b s (s.demandIntended m p) :=
  (chain_intend _ _).trans (chain_answerDemand _ _ _)

theorem chain_demandChange (m p) (h : s.st.blocksRun = true) : Chain b s (s.demandChange m p) := by
  unfold State.demandChange
  dsimp only
  split
  · exact chain_answerDemand _ _ _
  · exact (chain_answerDemand _ _ _).trans (chain_enterMode _ _ h)

theorem chain_demandStop (p) : Chain b s (s.demandStop p) := by
  unfold State.demandStop
  split
  · rename_i h
    exact (chain_answerDemand _ _ _).trans (chain_enterStopped _ (blocksRun_of s.st h rfl))
  all_goals first
    | exact .refl _
    | (rename_i h; exact (chain_answerDemand _ _ _).trans (chain_enterDecel _ (blocksRun_of s.st h rfl)))

theorem chain_demandGo (m p) : Chain b s (s.demandGo m p) := by
  unfold State.demandGo
  split
  · rename_i h
    exact chain_demandStart _ _ _ (blocksRun_of _ h rfl)
  · rename_i h
    exact chain_demandResume _ _ _ (blocksRun_of _ h rfl)
  all_goals try first
    | exact .refl _
    | exact chain_mark _ _
    | exact chain_answerDemand _ _ _
  all_goals
    rename_i h
    dsimp only
    split
    · exact chain_mark _ _
    · first
        | exact (chain_mark _ _).trans (chain_demandIntended _ _ _)
        | exact (chain_mark _ _).trans (chain_demandChange _ _ _ (blocksRun_of s.st h rfl))

theorem chain_takeDemand (p) : Chain b s (s.takeDemand p) := by
  unfold State.takeDemand
  dsimp only
  split
  · exact (chain_noteDemand _ _).trans (chain_demandStop _ _)
  · exact (chain_noteDemand _ _).trans (chain_demandGo _ _ _)

end Demands

section Records

variable {b : Bool} (s : State)

theorem keptCount_set_le (slots : Eight (Option TripRecord)) (i : Fin 8) (v : Option TripRecord) :
    keptCount (slots.set i v) ≤ keptCount slots + (if v.any (·.keep) then 1 else 0) := by
  unfold keptCount
  simp only [← List.countP_eq_length_filter, eightNumbers, List.countP_cons, List.countP_nil, Eight.get_set]
  match i with
  | 0 | 1 | 2 | 3 | 4 | 5 | 6 | 7 =>
    simp only [Fin.reduceEq, if_false, if_true]
    split <;> omega

theorem setKeep_ok (r : RecordStore) (i : Fin 8) (keep : Bool) (hk : keep = true → keptCount r.slots < 4)
    (h : r.Ok) :
    RecordStore.Ok { r with slots := r.slots.set i ((r.slots.get i).map fun x => { x with keep := keep }) } := by
  obtain ⟨h1, h2, h3, h4, h5, h6⟩ := h
  have hget (j) : ∀ x, (r.slots.set i ((r.slots.get i).map fun x => { x with keep := keep })).get j = some x →
      ∃ y, r.slots.get j = some y ∧ (x = y ∨ x = { y with keep := keep }) := by
    intro x hx
    rw [Eight.get_set] at hx
    split at hx
    · rename_i hj
      rw [Option.map_eq_some_iff] at hx
      obtain ⟨y, hy, rfl⟩ := hx
      exact ⟨y, hj ▸ hy, .inr rfl⟩
    · exact ⟨x, hx, .inl rfl⟩
  refine ⟨h1, h2, ?_, ?_, ?_, ?_⟩
  · intro j x hx
    obtain ⟨y, hy, rfl | rfl⟩ := hget j x hx
    · exact h3 j x hy
    · exact h3 j y hy
  · intro j x hx hc
    obtain ⟨y, hy, rfl | rfl⟩ := hget j x hx
    · exact h4 j x hy hc
    · exact h4 j y hy hc
  · intro j hj
    show ((r.slots.set i _).get j).isSome = true
    rw [Eight.get_set]
    split
    · rename_i hji
      rw [Option.isSome_map]
      exact hji ▸ h5 j hj
    · exact h5 j hj
  · have hle := keptCount_set_le r.slots i ((r.slots.get i).map fun x => { x with keep := keep })
    refine Nat.le_trans hle ?_
    cases keep with
    | true =>
      have := hk rfl
      split <;> omega
    | false =>
      have : ((r.slots.get i).map fun x => { x with keep := false }).any (·.keep) = false := by
        cases r.slots.get i <;> rfl
      simpa [this] using h6

theorem discard_ok (r : RecordStore) (h : r.Ok) : r.discard.Ok := by
  obtain ⟨h1, h2, h3, h4, h5, h6⟩ := h
  have hget (i) : ∀ x, (r.slots.map fun _ x => discardSlot x).get i = some x →
      r.slots.get i = some x ∧ replaceable (r.slots.get i) = false := by
    intro x hx
    rw [Eight.get_map] at hx
    unfold discardSlot at hx
    split at hx
    · simp at hx
    · rename_i hn
      exact ⟨hx, by simpa using hn⟩
  refine ⟨h1, h2, fun i x hx => h3 i x (hget i x hx).1, ?_, ?_, ?_⟩
  · intro i x hx hc
    have hi := h4 i x (hget i x hx).1 hc
    simp only [RecordStore.discard, hi]
    rw [show (r.slots.map fun _ x => discardSlot x).get i = some x from hx]
    rfl
  · intro i hi
    simp only [RecordStore.discard] at hi
    split at hi
    · split at hi
      · rename_i hs
        cases hi
        exact hs
      · simp at hi
    · simp at hi
  · refine Nat.le_trans (le_of_eq ?_) h6
    refine keptCount_congr fun i => ?_
    simp only [RecordStore.discard, Eight.get_map]
    unfold discardSlot
    split
    · rename_i hr
      cases hs : r.slots.get i with
      | none => rfl
      | some x =>
        rw [hs] at hr
        simp [replaceable] at hr
        simp [hr.2]
    · rfl

theorem chain_setKeep (i keep) (h : keep = true → keptCount s.records.slots < 4) : Chain b s (s.setKeep i keep) :=
  .one (.records s _ (setKeep_ok _ i keep h))

theorem chain_answerOrder (c p) : Chain b s (s.answerOrder c p) := chain_writeOutcome _ _ _ _

theorem chain_keepRecord (p) : Chain b s (State.keepRecord p s) := by
  unfold State.keepRecord
  split
  · exact chain_answerOrder _ _ _
  · split
    · exact chain_answerOrder _ _ _
    · split
      · exact chain_answerOrder _ _ _
      · split
        · exact chain_answerOrder _ _ _
        · rename_i h
          exact (chain_setKeep _ _ _ fun _ => by omega).trans (chain_answerOrder _ _ _)

theorem chain_releaseRecord (p) : Chain b s (State.releaseRecord p s) := by
  unfold State.releaseRecord
  split
  · exact chain_answerOrder _ _ _
  · split
    · exact chain_answerOrder _ _ _
    · exact (chain_setKeep _ _ _ (by simp)).trans (chain_answerOrder _ _ _)

theorem chain_discardRecords (p) : Chain b s (State.discardRecords p s) :=
  (Chain.one (.records s _ (discard_ok s.records))).trans (chain_answerOrder _ _ _)

theorem chain_orderSelftest (p) : Chain b s (State.orderSelftest p s) := by
  unfold State.orderSelftest
  split
  · rename_i h
    exact (chain_answerOrder _ _ _).trans (chain_enterSelftest _ _ (blocksRun_of s.st h rfl))
  · exact chain_answerOrder _ _ _

theorem clearAnswer_taken (n) (h : s.clearAnswer n = .taken) : s.st = .tripped := by
  unfold State.clearAnswer at h
  split at h
  · simp at h
  · split at h
    · simp at h
    · rename_i hs
      exact Classical.not_not.mp hs

theorem lands_clearTrip (p) : Lands s (State.clearTrip p s) := by
  unfold State.clearTrip
  split
  · rename_i h
    have ht := clearAnswer_taken s _ h
    unfold State.beginClear
    dsimp only
    have k (u : State) (hu : u.st.blocksRun = true) : Chain true u (if u.loopSensed then u else u.enterStopped) := by
      split
      · exact .refl _
      · exact chain_enterStopped _ hu
    refine .moved (u := s.onCauses CauseSet.unlatchAll) .clearing ?_ (blocksRun_of s.st ht rfl)
      (.one (.causes s _ (by simp))) ((((Chain.one (.timers _ _)).trans (.one (.cause _
        (fun u => { u with clearTag := some p.tag }) rfl rfl))).trans (chain_answerOrder _ _ _)).trans (k _ ?_))
    · show s.st ≠ _
      rw [ht]
      simp
    · show ((s.onCauses CauseSet.unlatchAll).moveTo .clearing).st.blocksRun = true
      rw [st_moveTo]
      rfl
  · exact .chain (chain_answerOrder _ _ _)

end Records

section Frames

variable {b : Bool} (s : State)

theorem lands_refreshPeer (o cls) (h : o ≠ s.loader.station) : Lands s (s.refreshPeer o cls) := by
  unfold State.refreshPeer
  dsimp only
  split
  · exact .refreshed ((Chain.one (.entry s o _ h (fun _ => refreshed_ok _ _) (by simp))).trans
      (chain_peerCauses _)) (chain_reevaluate_after _)
  · rename_i hn
    refine .chain (.one (.entry s o _ h (fun _ => refreshed_ok _ _) fun _ => ?_))
    refine participates_of_standing ?_ rfl
    simpa [State.onEntry, State.entry] using hn

/-- A frame on the line: unheard it moves the line alone, and heard it is counted and handled. -/
theorem lands_hears (f) (handle : State → State) (h : Lands s.countValid (handle s.countValid)) :
    Lands s (s.hears f handle) := by
  unfold State.hears
  split
  · exact .chain (.one (.link s _))
  · split
    · exact .chain (.one (.link s _))
    · exact .trans (.chain (chain_countValid s)) h

/-- Another station's start bit read by an active controller that sends nothing, R147. -/
theorem frameBegins_active {l : Link} (ha : l.active = true) (ht : l.transmitter = none) (hb : l.abortBits = 0) :
    l.frameBegins = { l with lineBusy := true, idle := 0, bitMicros := 0 } := by
  simp [Link.frameBegins, ha, ht, hb]

/-- Before ten recessive bits have been read a frame is bits of the line, at most nine of them recessive at its end. -/
theorem hears_unheard (f) (handle : State → State) (ha : s.link.active = true) (hl : s.link.listening = false) :
    s.hears f handle = { s with link := { s.link with
      idle := idleAfter s.link.idle f.lineBits, bitMicros := 0, abortBits := 0, lineBusy := false } } := by
  have h := (idleAfter_lineBits s.link.idle f).2
  have h10 : (idleAfter s.link.idle f.lineBits == 10) = false := by
    rw [beq_eq_false_iff_ne]
    omega
  simp [State.hears, ha, hl, Link.lineRead, State.onLink, h10]

/-- A frame that is neither a SHARE nor a ROLL: settled, and then perhaps its owner. -/
theorem lands_frameArrives (f) (owner : State → State) :
    ∃ u, Lands s u ∧ (s.frameArrives f owner = u
      ∨ (s.link.active = true ∧ s.frameArrives f owner = owner u)) := by
  unfold State.frameArrives State.hears
  split
  · exact ⟨_, .chain (.one (.link s _)), .inl rfl⟩
  · rename_i ha
    have ha : s.link.active = true := by simpa using ha
    split
    · exact ⟨_, .chain (.one (.link s _)), .inl rfl⟩
    · dsimp only
      split
      · exact ⟨_, .chain ((chain_countValid _).trans (chain_duplicate _)), .inl rfl⟩
      · rename_i hne
        have h : Lands s (s.countValid.refreshPeer f.origin f.cls) :=
          .trans (.chain (chain_countValid s)) (lands_refreshPeer _ _ _ hne)
        split
        · refine ⟨_, h.before ?_, .inl rfl⟩
          exact .one (.link _ _)
        · exact ⟨_, h, .inr ⟨ha, rfl⟩⟩

/-- The same where the owner lands too. -/
theorem lands_frame (f) (owner : State → State) (h : ∀ u, Lands u (owner u)) :
    Lands s (s.frameArrives f owner) := by
  obtain ⟨u, hu, he | ⟨-, he⟩⟩ := lands_frameArrives s f owner
  · exact he ▸ hu
  · exact he ▸ hu.trans (h u)

theorem lands_orderArrives (o k p) (act : State → State) (h : ∀ u, Lands u (act u)) :
    Lands s (s.orderArrives o k p act) := by
  refine lands_frame _ _ _ fun u => ?_
  split
  · exact h u
  · exact .refl u

theorem chain_takeQuery (item q a) : Chain b s (s.takeQuery item q a) := by
  unfold State.takeQuery
  split
  · exact .refl _
  · split
    · exact .refl _
    · split
      · exact .one (.link s _)
      · exact .one (.link s _)

theorem lands_query (o item q) (answer : State → Answer) : Lands s (s.query o item q answer) :=
  lands_frame _ _ _ fun _ => .chain (chain_takeQuery _ _ _ _)

theorem chain_confirmStart (o p) : Chain b s (s.confirmStart o p) := by
  unfold State.confirmStart
  split
  · rename_i h
    dsimp only
    have hc : Chain b s (s.onSeq fun q => { q with confirmation := q.confirmation.filter (· ≠ o) }) :=
      .one (.seq s _ rfl)
    split
    · exact hc.trans (chain_enterBreakaway _ (blocksRun_of s.st h.1 rfl))
    · exact hc
  · exact .refl _

theorem chain_peerRotation (o p) : Chain b s (s.peerRotation o p) := by
  unfold State.peerRotation
  split
  · rename_i h
    exact chain_leaveBreakaway _ (blocksRun_of _ h.1 rfl)
  · exact .refl _

theorem chain_followStage (o p) : Chain b s (s.followStage o p) := by
  unfold State.followStage
  split
  · exact chain_setStage _ _
  · exact .refl _

theorem chain_trimAtShare (o) : Chain b s (s.trimAtShare o) := by
  unfold State.trimAtShare
  split
  · exact chain_recomputeTrim _
  · exact .refl _

theorem chain_settleByShare (o p) : Chain b s (s.settleByShare o p) := by
  unfold State.settleByShare
  split
  · exact .refl _
  · rename_i ctx h
    split
    · rename_i hc
      simp at hc
      exact chain_settleNumber _ _ _ _ h hc.1.2
    · exact .refl _

theorem chain_learnFrom (o g) : Chain b s (s.learnFrom o g) := by
  unfold State.learnFrom
  split
  · exact chain_learnG _ _
  · exact .refl _

/-- The readers of a SHARE after the list has been refreshed. -/
theorem chain_readShare (o p) : Chain b s.refreshMembers (s.readShare o p) := by
  unfold State.readShare
  exact ((((((chain_reevaluate_after s).trans (chain_learnFrom _ _ _)).trans (chain_confirmStart _ _ _)).trans
    (chain_peerRotation _ _ _)).trans (chain_followStage _ _ _)).trans (chain_trimAtShare _ _)).trans
    (chain_settleByShare _ _ _)

theorem takeShare_ok (sig p) (e : PeerEntry) : (e.takeShare sig p).Ok := Nat.zero_le 2

theorem takeRoll_ok (sig p) (e : PeerEntry) : (e.takeRoll sig p).Ok := Nat.zero_le 2

theorem lands_takeShare (o p) (h : o ≠ s.loader.station) : Lands s (s.takeShare o p) := by
  unfold State.takeShare
  dsimp only
  have hc : Chain false s (s.onEntry o (PeerEntry.takeShare s.cfg.signature p)).peerCauses :=
    (Chain.one (.entry s o _ h (fun _ => takeShare_ok _ _ _) (by simp))).trans (chain_peerCauses _)
  split
  · exact .refreshed hc (chain_followerTrip _ _ _ _)
  · exact .refreshed hc (chain_readShare _ _ _)

theorem lands_takeRoll (o p) (h : o ≠ s.loader.station) : Lands s (s.takeRoll o p) := by
  unfold State.takeRoll
  exact .refreshed ((Chain.one (.entry s o _ h (fun _ => takeRoll_ok _ _ _) (by simp))).trans (chain_peerCauses _))
    ((chain_reevaluate_after _).trans (chain_learnFrom _ _ _))

end Frames

section Sending

variable {b : Bool} (s : State)

theorem chain_muteOnEcho (n) : Chain b s (s.muteOnEcho n) := by
  unfold State.muteOnEcho
  exact ((Chain.one (.link s _)).trans (chain_enterMute _)).trans (chain_present _ _ _ _ (by simp))

theorem chain_takeEcho (f) : Chain b s (s.takeEcho f) := by
  unfold State.takeEcho
  have hc : Chain b s (s.countValid.onEntry s.loader.station fun e => { e with heard := bump 65535 e.heard }) :=
    (chain_countValid s).trans (.one (.ownShare _ _ rfl))
  cases f with
  | trip p => exact hc.trans (chain_takeTrip _ _ _)
  | clamp p => exact hc.trans (chain_installClamp _ _ _)
  | share _ => exact hc
  | reply _ => exact hc
  | roll _ => exact hc

end Sending

section Presented

variable (s : State)

/-- The conditions that the end of joining presents are those that stand (Safety.lean). -/
theorem stands_iff (c : Cause) : s.Stands c ↔ s.conditionNow c = true := by
  cases c <;>
    simp [State.Stands, State.conditionNow, State.peerSilentNow, State.peerLostNow, State.foreignNow, State.groupDrive,
      mem_eightNumbers, Option.isSome_iff_ne_none, and_assoc]

/-- A TRIP-action condition that stands hands over the detail value that Safety.lean names. -/
theorem detailOf_standing {c : Cause} (h : s.Stands c) (ht : c ≠ .overload) : s.detailOf c = s.standingDetail c := by
  cases c <;> first | rfl | exact absurd rfl ht | exact h.elim

/-- The entry a frame leaves, before anything is made of it. -/
theorem countValid_onEntry (n : Station) (f : PeerEntry → PeerEntry) :
    s.countValid.onEntry n f = s.withEntry n (f (s.entry n)) := rfl

/-- R86: while MUTE a CLAMP composed is applied here. -/
theorem composeClamp_mute {c : Cause} (h : s.link.mute = true) :
    s.composeClamp c = s.installClamp s.loader.station (s.clampOf c) := by
  simp only [State.composeClamp, State.clampOf, h, if_true]

/-- R85: an own CLAMP that is ignored changes nothing. -/
theorem installClamp_ignored {p : ClampPayload} (h : s.IgnoresOwnClamp p) : s.installClamp s.loader.station p = s := by
  unfold State.installClamp
  rcases h with h | h | ⟨h, h'⟩
  · simp [h]
  · simp [h]
  · split
    · rfl
    · rw [if_neg]
      simp [h, h']

/-- R85: an own CLAMP that is not ignored is the record, and the allowance follows (R68). -/
theorem installClamp_own {p : ClampPayload} (h : ¬s.IgnoresOwnClamp p) :
    s.installClamp s.loader.station p = (s.onLimiter fun l => { l with clamp := s.ownClamp p }).recompute := by
  simp only [State.IgnoresOwnClamp, not_or, not_and, Bool.not_eq_true, not_lt] at h
  obtain ⟨foreign, hold, level⟩ := h
  unfold State.installClamp
  rw [foreign, if_neg (by simpa using hold), if_pos]
  · rfl
  · cases active : s.limiter.clamp.active
    · rfl
    · simpa using level active

end Presented

end Sys2Proof.Machine
end

