-- ==== Sys2Proof/Laws/Keeps.lean ====
section
/-!
SUPPORT. What every change of Laws/Steps.lean keeps: the queue, the station and the held lines; the output lines (R20,
R53, R62); the allowance (R68); the participant list (R17); the peer table (R2, R7); the records (R130 to R132).
-/

namespace Sys2Proof.Machine

variable {b : Bool} {s t : State}

/-- A move to another state, in its parts. -/
theorem moveTo_ne (s : State) {new : StationState} (h : s.st ≠ new) :
    s.moveTo new = (((s.moveBlocks new).recompute).carryReference s.st new).refreshMembers := if_neg h

theorem moveTo_eq (s : State) {new : StationState} (h : s.st = new) : s.moveTo new = s := if_pos h

/-- A move as it is, or in its parts. -/
theorem moveTo_cases {P : State → Prop} (s : State) (new : StationState) (h0 : s.st = new → P s)
    (h1 : s.st ≠ new → P ((((s.moveBlocks new).recompute).carryReference s.st new).refreshMembers)) :
    P (s.moveTo new) := by
  by_cases h : s.st = new
  · rw [moveTo_eq s h]; exact h0 h
  · rw [moveTo_ne s h]; exact h1 h

/-- What no change touches. -/
theorem change_outer (h : Change b s t) :
    t.pending = s.pending ∧ t.loader.station = s.loader.station ∧ t.monitor.supplyHeld = s.monitor.supplyHeld
      ∧ t.monitor.clockLost = s.monitor.clockLost := by
  cases h with
  | loader f h => exact ⟨rfl, h, rfl, rfl⟩
  | monitor f h hc => exact ⟨rfl, rfl, h, hc⟩
  | elapse n =>
    unfold State.elapse
    split <;> exact ⟨rfl, rfl, rfl, rfl⟩
  | move new h =>
    refine moveTo_cases (P := fun t => t.pending = s.pending ∧ t.loader.station = s.loader.station
      ∧ t.monitor.supplyHeld = s.monitor.supplyHeld ∧ t.monitor.clockLost = s.monitor.clockLost) s new ?_ ?_
    · exact fun _ => ⟨rfl, rfl, rfl, rfl⟩
    · exact fun _ => ⟨rfl, rfl, rfl, rfl⟩
  | _ => exact ⟨rfl, rfl, rfl, rfl⟩

theorem chain_outer (h : Chain b s t) :
    t.pending = s.pending ∧ t.loader.station = s.loader.station ∧ t.monitor.supplyHeld = s.monitor.supplyHeld
      ∧ t.monitor.clockLost = s.monitor.clockLost := by
  induction h with
  | refl => exact ⟨rfl, rfl, rfl, rfl⟩
  | tail _ h ih =>
    obtain ⟨h1, h2, h3, h4⟩ := change_outer h
    exact ⟨h1.trans ih.1, h2.trans ih.2.1, h3.trans ih.2.2.1, h4.trans ih.2.2.2⟩

theorem chain_inReset (h : Chain b s t) : t.inReset = s.inReset := by
  unfold State.inReset
  rw [(chain_outer h).2.2.1, (chain_outer h).2.2.2]

/-- The station state changes by moves alone. -/
theorem change_st (h : Change b s t) : t.st = s.st ∨ ∃ new, t = s.moveTo new := by
  cases h with
  | seq f h => exact .inl h
  | elapse n =>
    refine .inl ?_
    unfold State.elapse
    split <;> rfl
  | move new h => exact .inr ⟨new, rfl⟩
  | _ => exact .inl rfl

/-- The lines as R20 gives them, and the regulator and the generator blocked where R53 and R62 block them. -/
def State.LinesOk (s : State) : Prop :=
  s.lines = s.st.lines ∧ (s.lines.convEn = false → s.reg.isBlocked ∧ s.gen.isBlocked)

theorem blocked_isBlocked (r : Regulator) : r.blocked.isBlocked := ⟨rfl, rfl, rfl, rfl, rfl, rfl⟩

theorem gen_blocked_isBlocked (g : Generator) : g.blocked.isBlocked := ⟨rfl, rfl⟩

theorem regulating_convEn {st : StationState} (h : st.regulating = true) : st.lines.convEn = true := by
  cases st <;> simp_all [StationState.regulating, StationState.lines]

theorem move_lines (s : State) (new : StationState) (h : s.LinesOk) : (s.moveTo new).LinesOk := by
  refine moveTo_cases s new (fun _ => h) fun _ => ⟨rfl, fun hc => ?_⟩
  have hc : new.lines.convEn = false := hc
  have hr : new.regulating = false := by
    cases hn : new.regulating with
    | false => rfl
    | true => rw [regulating_convEn hn] at hc; exact absurd hc (by simp)
  constructor
  · show Regulator.isBlocked (Regulator.mk _ _ _ _ _ _ _ _ _ _ _ _ _)
    simp [Regulator.isBlocked, State.carryReference, State.moveBlocks, State.ceaseAll, State.onCauses, State.recompute, State.judgeJam, hr, hc, Regulator.blocked]
  · show Generator.isBlocked (if new.lines.convEn then s.gen else s.gen.blocked)
    rw [hc]
    exact ⟨rfl, rfl⟩

theorem change_lines (h : Change b s t) (hs : s.LinesOk) : t.LinesOk := by
  cases h with
  | seq f h => exact ⟨by rw [show (s.onSeq f).st = s.st from h]; exact hs.1, hs.2⟩
  | gen f h => exact ⟨hs.1, fun hc => ⟨(hs.2 hc).1, h hc (hs.2 hc).1 (hs.2 hc).2⟩⟩
  | reg f h => exact ⟨hs.1, fun hc => ⟨h hc (hs.2 hc).1, (hs.2 hc).2⟩⟩
  | elapse n =>
    unfold State.elapse
    split
    · exact hs
    · refine ⟨hs.1, fun hc => ⟨(hs.2 hc).1, ?_⟩⟩
      show Generator.isBlocked (if _ then _ else _)
      split
      · exact (hs.2 hc).2
      · exact (hs.2 hc).2
  | move new _ => exact move_lines s new hs
  | _ => exact hs

/-- The limiting contributor is a function of what applies and of the values. -/
theorem limitingNow_congr {s t : State} (ha : ∀ c, t.applies c = s.applies c)
    (hv : ∀ c, t.contributorValue c = s.contributorValue c) : t.limitingNow = s.limitingNow := by
  have h1 : t.applies = s.applies := funext ha
  have h2 : t.lower = s.lower := by
    funext x y
    simp only [State.lower, hv]
  simp only [State.limitingNow, h1, h2]

theorem allowance_congr {s t : State} (ha : ∀ c, t.applies c = s.applies c)
    (hv : ∀ c, t.contributorValue c = s.contributorValue c) (hl : t.limiter.limiting = s.limiter.limiting)
    (hw : t.limiter.allowance = s.limiter.allowance) (h : s.AllowanceOk) : t.AllowanceOk := by
  have k := limitingNow_congr ha hv
  exact ⟨by rw [hl, k, h.1], by rw [hw, k, hv, h.2]⟩

/-- A recomputed allowance is the one of R68. -/
theorem recompute_allowance (s : State) : s.recompute.AllowanceOk := ⟨rfl, rfl⟩

theorem change_allowance (h : Change b s t) (hs : s.AllowanceOk) : t.AllowanceOk := by
  cases h with
  | seq f h =>
    refine allowance_congr (s := s) (fun c => ?_) (fun c => rfl) rfl rfl hs
    show c.applies (s.onSeq f).st _ _ = _
    rw [show (s.onSeq f).st = s.st from h]
    rfl
  | limiter f h =>
    simp only [Limiter.figures, Prod.mk.injEq, List.cons.injEq, and_true] at h
    obtain ⟨⟨h1, h2, h3, h4, h5, h6, h7, h8⟩, h9, h10, h11⟩ := h
    refine allowance_congr (s := s) (fun c => ?_) (fun c => ?_) h11 h8 hs
    · show c.applies s.st (f s.limiter).limit (f s.limiter).clamp.active = _
      rw [h9, h10]
      rfl
    · cases c <;> first | assumption | rfl
  | vib f h =>
    refine allowance_congr (s := s) (fun c => rfl) (fun c => ?_) rfl rfl hs
    cases c <;> first | assumption | rfl
  | limit f => exact recompute_allowance _
  | heat f g h => exact recompute_allowance _
  | derate f => exact recompute_allowance _
  | elapse n =>
    unfold State.elapse
    split
    · exact hs
    · have hc : (s.limiter.clamp.elapse n).active = s.limiter.clamp.active
          ∧ (s.limiter.clamp.elapse n).level = s.limiter.clamp.level := by
        unfold ClampRecord.elapse
        split <;> exact ⟨rfl, rfl⟩
      refine allowance_congr (s := s) (fun c => ?_) (fun c => ?_) rfl rfl hs
      · show c.applies s.st s.limiter.limit (s.limiter.clamp.elapse n).active = _
        rw [hc.1]
        rfl
      · cases c <;> first | exact hc.2 | rfl
  | move new _ =>
    exact moveTo_cases s new (fun _ => hs) fun _ => recompute_allowance (s.moveBlocks new)
  | _ => exact hs

theorem participantsNow_congr {s t : State} (hst : t.st = s.st) (hn : t.loader.station = s.loader.station)
    (hr : t.ready = s.ready)
    (he : ∀ n, n ≠ s.loader.station → (t.entry n).participates = (s.entry n).participates) :
    t.participantsNow = s.participantsNow := by
  unfold State.participantsNow
  rw [hst]
  have h : t.isParticipant = s.isParticipant := by
    funext n
    unfold State.isParticipant
    rw [hst, hn, hr]
    split
    · rfl
    · rename_i h
      exact he n h
  rw [h]

/-- A re-evaluation settles the list. -/
theorem refreshMembers_settled (s : State) : s.refreshMembers.ParticipantsOk := rfl

theorem participants_congr {s t : State} (hst : t.st = s.st) (hn : t.loader.station = s.loader.station)
    (hr : t.ready = s.ready)
    (he : ∀ n, n ≠ s.loader.station → (t.entry n).participates = (s.entry n).participates)
    (hp : t.peers.participants = s.peers.participants) (h : s.ParticipantsOk) : t.ParticipantsOk := by
  unfold State.ParticipantsOk
  rw [participantsNow_congr hst hn hr he, hp]
  exact h

theorem change_participants (h : Change true s t) (hs : s.ParticipantsOk) : t.ParticipantsOk := by
  cases h with
  | seq f h => exact participants_congr (s := s) h rfl rfl (fun _ _ => rfl) rfl hs
  | loader f h =>
    exact participants_congr (s := s) rfl h rfl (fun _ _ => rfl) rfl hs
  | causes f h =>
    refine participants_congr (s := s) rfl rfl ?_ (fun _ _ => rfl) rfl hs
    unfold State.ready
    exact congrArg _ (h rfl)
  | cause f h _ =>
    refine participants_congr (s := s) rfl rfl ?_ (fun _ _ => rfl) rfl hs
    show (!((f s.cause).causes.get _).latched) = _
    rw [h]
    rfl
  | heat f g h =>
    refine participants_congr (s := s) rfl rfl ?_ (fun _ _ => rfl) rfl hs
    unfold State.ready State.recompute State.judgeJam
    refine congrArg _ (Eq.trans ?_ h)
    show CauseField.latched (CauseSet.get (if _ then _ else _) _) = _
    split
    · rfl
    · exact cease_latched _ _
  | limit f =>
    refine participants_congr (s := s) rfl rfl ?_ (fun _ _ => rfl) rfl hs
    unfold State.ready State.recompute State.judgeJam
    refine congrArg _ ?_
    show CauseField.latched (CauseSet.get (if _ then _ else _) _) = _
    split
    · rfl
    · exact cease_latched _ _
  | derate f =>
    refine participants_congr (s := s) rfl rfl ?_ (fun _ _ => rfl) rfl hs
    unfold State.ready State.recompute State.judgeJam
    refine congrArg _ ?_
    show CauseField.latched (CauseSet.get (if _ then _ else _) _) = _
    split
    · rfl
    · exact cease_latched _ _
  | elapse n =>
    unfold State.elapse
    split <;> exact hs
  | move new _ =>
    exact moveTo_cases s new (fun _ => hs) fun _ => refreshMembers_settled _
  | refresh => exact refreshMembers_settled _
  | ownShare f h =>
    refine participants_congr (s := s) rfl rfl rfl (fun n hn => ?_) rfl hs
    show PeerEntry.participates ((s.peers.entries.set _ _).get n) = _
    rw [Eight.get_set_ne _ _ hn]
    rfl
  | entry n f hn h hp =>
    refine participants_congr (s := s) rfl rfl rfl (fun m hm => ?_) rfl hs
    show PeerEntry.participates ((s.peers.entries.set _ _).get m) = _
    rw [Eight.get_set]
    split
    · rename_i he
      subst he
      exact hp rfl
    · rfl
  | age hp =>
    refine participants_congr (s := s) rfl rfl rfl (fun m hm => ?_) rfl hs
    show PeerEntry.participates ((Eight.map _ _).get m) = _
    rw [Eight.get_map, if_neg hm]
    exact hp rfl m hm
  | _ => exact hs

theorem lands_participants (h : Lands s t) (hs : s.ParticipantsOk) : t.ParticipantsOk := by
  rcases h with h | ⟨u, _, h⟩ | ⟨u, new, hne, _, _, h⟩
  · exact Chain.keeps (fun _ _ => change_participants) h hs
  · exact Chain.keeps (fun _ _ => change_participants) h (refreshMembers_settled u)
  · refine Chain.keeps (fun _ _ => change_participants) h ?_
    rw [moveTo_ne u hne]
    exact refreshMembers_settled _

theorem ok_of_standing {e e' : PeerEntry} (h : e'.standing = e.standing) (he : e.Ok) : e'.Ok := by
  simp only [PeerEntry.standing, Prod.mk.injEq] at h
  unfold PeerEntry.Ok
  rw [h.2.1, h.2.2.2.1]
  exact he

theorem ownOk_of_standing {e e' : PeerEntry} (h : e'.standing = e.standing) (he : e.OwnOk) : e'.OwnOk := by
  simp only [PeerEntry.standing, Prod.mk.injEq] at h
  obtain ⟨h1, h2, h3, h4, h5⟩ := h
  exact ⟨h1.trans he.1, h2.trans he.2.1, h3.trans he.2.2.1, h4.trans he.2.2.2.1, h5.trans he.2.2.2.2⟩

theorem aged_ok {e : PeerEntry} (h : e.Ok) : e.aged.Ok := by
  unfold PeerEntry.aged
  split
  · exact h
  · rename_i hne
    have hb : bump 10 e.silence = min 10 (e.silence + 1) := rfl
    generalize bump 10 e.silence = n at hb
    unfold PeerEntry.Ok at *
    cases hen : e.entry <;> simp only [hen] at h
    · exact absurd hen hne
    all_goals
      simp only [entryStateAt]
      by_cases h10 : 10 ≤ n
      · simp only [h10, if_true]
        omega
      · by_cases h3 : 3 ≤ n
        · simp only [h10, h3, if_true, if_false]
          refine ⟨trivial, ?_⟩
          omega
        · simp only [h10, h3, if_false]
          omega

theorem move_peers (s : State) (new : StationState) (h : s.st.blocksRun = true ∨ new.blocksRun = false)
    (hs : s.PeersOk) : (s.moveTo new).PeersOk := by
  refine moveTo_cases s new (fun _ => hs) fun _ => ⟨fun n => ?_, fun hb => ?_⟩
  · show PeerEntry.Ok ((Eight.map _ _).get n)
    rw [Eight.get_map]
    exact hs.1 n
  · show PeerEntry.OwnOk ((Eight.map _ _).get s.loader.station)
    rw [Eight.get_map]
    have hb : new.blocksRun = true := hb
    rcases h with h | h
    · obtain ⟨h1, h2, h3, h4, h5⟩ := hs.2 h
      refine ⟨h1, h2, h3, h4, ?_⟩
      show (if _ then 0 else (s.entry s.loader.station).nonRunning) = 0
      split
      · rfl
      · exact h5
    · rw [h] at hb
      exact absurd hb (by simp)

theorem change_peers (h : Change b s t) (hs : s.PeersOk) : t.PeersOk := by
  cases h with
  | seq f h => exact ⟨hs.1, by rw [show (s.onSeq f).st = s.st from h]; exact hs.2⟩
  | loader f h =>
    refine ⟨hs.1, fun hb => ?_⟩
    show PeerEntry.OwnOk (s.entry (f s.loader).station)
    rw [h]
    exact hs.2 hb
  | elapse n =>
    unfold State.elapse
    split <;> exact hs
  | move new h => exact move_peers s new h hs
  | ownShare f h =>
    constructor
    · intro n
      show PeerEntry.Ok ((s.peers.entries.set _ _).get n)
      rw [Eight.get_set]
      split
      · exact ok_of_standing h (hs.1 _)
      · exact hs.1 n
    · intro hb
      show PeerEntry.OwnOk ((s.peers.entries.set s.loader.station _).get s.loader.station)
      rw [Eight.get_set_self]
      exact ownOk_of_standing h (hs.2 hb)
  | entry n f hn h hp =>
    constructor
    · intro m
      show PeerEntry.Ok ((s.peers.entries.set _ _).get m)
      rw [Eight.get_set]
      split
      · exact h (hs.1 n)
      · exact hs.1 m
    · intro hb
      show PeerEntry.OwnOk ((s.peers.entries.set n _).get s.loader.station)
      rw [Eight.get_set_ne _ _ (Ne.symm hn)]
      exact hs.2 hb
  | age hp =>
    constructor
    · intro m
      show PeerEntry.Ok ((Eight.map _ _).get m)
      rw [Eight.get_map]
      split
      · exact hs.1 m
      · exact aged_ok (hs.1 m)
    · intro hb
      show PeerEntry.OwnOk ((Eight.map _ _).get s.loader.station)
      rw [Eight.get_map, if_pos rfl]
      exact hs.2 hb
  | _ => exact hs

theorem cut_closed (x : TripRecord) : x.cut.closed = true := by
  unfold TripRecord.cut
  split
  · assumption
  · rfl

theorem cut_keep (x : TripRecord) : x.cut.keep = x.keep := by
  unfold TripRecord.cut
  split <;> rfl

theorem cut_ok {n : Nat} {x : TripRecord} (h : x.Ok n) : x.cut.Ok n := by
  obtain ⟨h1, h2, h3, h4, h5, h6, h7, h8, h9⟩ := h
  unfold TripRecord.cut
  split
  · exact ⟨h1, h2, h3, h4, h5, h6, h7, h8, h9⟩
  · exact ⟨h1, h2, fun h => absurd h (by simp), fun _ _ => rfl, h5, h6, h7, h8, h9⟩

theorem TripRecord.Ok.mono {m n : Nat} {x : TripRecord} (h : x.Ok m) (hmn : m ≤ n) : x.Ok n := by
  obtain ⟨h1, h2, h3, h4, h5, h6, h7, h8, h9⟩ := h
  exact ⟨h1, h2, h3, h4, h5, h6, h7, Nat.le_trans h8 hmn, h9⟩

theorem cutFilling_get (slots : Eight (Option TripRecord)) (i : Fin 8) :
    (cutFilling slots).get i = (slots.get i).map TripRecord.cut := by
  unfold cutFilling
  rw [Eight.get_map]

theorem cutFilling_kept (slots : Eight (Option TripRecord)) : keptCount (cutFilling slots) = keptCount slots := by
  refine keptCount_congr fun i => ?_
  rw [cutFilling_get]
  cases slots.get i with
  | none => rfl
  | some x => exact cut_keep x

theorem insert_ok {r : RecordStore} (h : r.Ok) (x : TripRecord) (hc : x.closed = false) (hk : x.keep = false)
    (ht : x.tail = []) (hh : x.history.length ≤ 48) (hs : x.subsequent = []) (ho : x.overflow = 0)
    (hco : coOriginsOk x.origin x.confirmed x.coOrigins) : (r.insert x).Ok := by
  obtain ⟨h1, h2, h3, h4, h5, h6⟩ := h
  have cut (i) : ∀ y, (cutFilling r.slots).get i = some y → y.Ok r.serial ∧ y.closed = true := by
    intro y hy
    rw [cutFilling_get, Option.map_eq_some_iff] at hy
    obtain ⟨z, hz, rfl⟩ := hy
    exact ⟨cut_ok (h3 i z hz), cut_closed z⟩
  have hser : r.serial ≤ nextSerial r.serial ∧ 1 ≤ nextSerial r.serial ∧ nextSerial r.serial ≤ 4294967295 := by
    unfold nextSerial
    omega
  unfold RecordStore.insert
  dsimp only
  split
  · refine ⟨h1, h2, fun i y hy => (cut i y hy).1, fun i y hy hyc => ?_, fun i hi => ?_, ?_⟩
    · rw [(cut i y hy).2] at hyc
      exact absurd hyc (by simp)
    · show ((cutFilling r.slots).get i).isSome = true
      rw [cutFilling_get, Option.isSome_map]
      exact h5 i hi
    · show keptCount (cutFilling r.slots) ≤ 4
      rw [cutFilling_kept]
      exact h6
  · rename_i i _
    refine ⟨h1, hser.2.2, fun j y hy => ?_, fun j y hy hyc => ?_, fun j hj => ?_, ?_⟩
    · have hy : ((cutFilling r.slots).set i _).get j = some y := hy
      rw [Eight.get_set] at hy
      split at hy
      · cases hy
        refine ⟨hh, ?_, fun _ => ?_, fun hcl => ?_, ?_, ?_, hser.2.1, Nat.le_refl _, hco⟩
        · show x.tail.length ≤ 16
          rw [ht]
          simp
        · show x.tail.length < 16
          rw [ht]
          simp
        · have hcl : x.closed = true := hcl
          rw [hc] at hcl
          exact absurd hcl (by simp)
        · show x.subsequent.length ≤ 4
          rw [hs]
          simp
        · show x.overflow ≤ 255
          rw [ho]
          simp
      · exact (cut j y hy).1.mono hser.1
    · have hy : ((cutFilling r.slots).set i _).get j = some y := hy
      rw [Eight.get_set] at hy
      split at hy
      · rename_i hji
        exact congrArg some hji.symm
      · rw [(cut j y hy).2] at hyc
        exact absurd hyc (by simp)
    · have hj : some i = some j := hj
      cases hj
      show (((cutFilling r.slots).set i _).get i).isSome = true
      rw [Eight.get_set_self]
      rfl
    · refine Nat.le_trans (keptCount_set_le _ _ _) ?_
      rw [cutFilling_kept]
      show _ + (if x.keep = true then 1 else 0) ≤ 4
      rw [hk]
      simpa using h6

/-- A change of the current record that keeps it in order. -/
theorem onCurrent_ok {r : RecordStore} (h : r.Ok) (f : TripRecord → TripRecord)
    (hok : ∀ x : TripRecord, x.Ok r.serial → (f x).Ok r.serial) (hclosed : ∀ x, (f x).closed = x.closed)
    (hkeep : ∀ x, (f x).keep = x.keep) : (r.onCurrent f).Ok := by
  have hr := h
  obtain ⟨h1, h2, h3, h4, h5, h6⟩ := h
  unfold RecordStore.onCurrent
  split
  · exact hr
  · rename_i i hi
    have hget (j) : ∀ y, (r.slots.set i ((r.slots.get i).map f)).get j = some y →
        ∃ z, r.slots.get j = some z ∧ (y = z ∨ y = f z) := by
      intro y hy
      rw [Eight.get_set] at hy
      split at hy
      · rename_i hji
        rw [Option.map_eq_some_iff] at hy
        obtain ⟨z, hz, rfl⟩ := hy
        exact ⟨z, hji ▸ hz, .inr rfl⟩
      · exact ⟨y, hy, .inl rfl⟩
    refine ⟨h1, h2, fun j y hy => ?_, fun j y hy hc => ?_, fun j hj => ?_, ?_⟩
    · obtain ⟨z, hz, rfl | rfl⟩ := hget j y hy
      · exact h3 j y hz
      · exact hok z (h3 j z hz)
    · obtain ⟨z, hz, rfl | rfl⟩ := hget j y hy
      · exact h4 j y hz hc
      · exact h4 j z hz (by rw [← hclosed z]; exact hc)
    · show ((r.slots.set i _).get j).isSome = true
      rw [Eight.get_set]
      split
      · rename_i hji
        rw [Option.isSome_map]
        exact hji ▸ h5 j hj
      · exact h5 j hj
    · refine Nat.le_trans (le_of_eq (keptCount_congr fun j => ?_)) h6
      show ((r.slots.set i _).get j).any _ = _
      rw [Eight.get_set]
      split
      · rename_i hji
        subst hji
        cases r.slots.get j with
        | none => rfl
        | some x => exact hkeep x
      · rfl

theorem addSubsequent_ok {n : Nat} {x : TripRecord} (now c carried) (h : x.Ok n) :
    (x.addSubsequent now c carried).Ok n := by
  obtain ⟨h1, h2, h3, h4, h5, h6, h7, h8, h9⟩ := h
  unfold TripRecord.addSubsequent
  split
  · rename_i hl
    refine ⟨h1, h2, h3, h4, ?_, h6, h7, h8, h9⟩
    show (x.subsequent ++ _).length ≤ 4
    rw [List.length_append, List.length_singleton]
    omega
  · exact ⟨h1, h2, h3, h4, h5, Nat.min_le_left _ _, h7, h8, h9⟩

theorem addSubsequent_closed (now c carried) (x : TripRecord) :
    (x.addSubsequent now c carried).closed = x.closed := by
  unfold TripRecord.addSubsequent
  split <;> rfl

theorem addSubsequent_keep (now c carried) (x : TripRecord) : (x.addSubsequent now c carried).keep = x.keep := by
  unfold TripRecord.addSubsequent
  split <;> rfl

theorem change_records (h : Change b s t) (hs : s.RecordsOk) : t.RecordsOk := by
  cases h with
  | cause f h hc =>
    refine ⟨hs.1, fun ctx hctx => hs.2 ctx ?_⟩
    rw [← hctx]
    exact hc.symm
  | context old ctx h hc =>
    have hctx := hc (hs.2 old h)
    refine ⟨onCurrent_ok hs.1 _ (fun x hx => ?_) (fun x => rfl) fun x => rfl, fun c hcx => ?_⟩
    · obtain ⟨h1, h2, h3, h4, h5, h6, h7, h8, _⟩ := hx
      exact ⟨h1, h2, h3, h4, h5, h6, h7, h8, hctx.1⟩
    · have hcx : some ctx = some c := hcx
      cases hcx
      exact hctx
  | trip number origin confirmed part c detail h =>
    have hco (o : Option Station) (cf : Bool) : coOriginsOk o cf [] := ⟨by simp, by simp, fun _ => rfl⟩
    refine ⟨insert_ok hs.1 _ rfl rfl rfl hs.1.1 rfl rfl (hco _ _), fun ctx hcx => ?_⟩
    have hcx : some _ = some ctx := hcx
    cases hcx
    exact ⟨hco _ _, h⟩
  | subsequent c n =>
    exact ⟨onCurrent_ok hs.1 _ (fun x hx => addSubsequent_ok _ _ _ hx) (addSubsequent_closed _ _ _)
      (addSubsequent_keep _ _ _), hs.2⟩
  | records f h => exact ⟨h hs.1, hs.2⟩
  | elapse n =>
    unfold State.elapse
    split <;> exact hs
  | move new _ => exact moveTo_cases s new (fun _ => hs) fun _ => hs
  | _ => exact hs

/-- While a frame of another station is on the line no bit is counted, however long it lasts, R147. -/
theorem elapse_lineBusy (s : State) (n) (h : s.link.lineBusy = true) : (s.elapse n).link = s.link := by
  unfold State.elapse
  split
  · rfl
  · simp [Link.elapse, h]

/-- Passing bits move the place on the line alone: the idle count, the place in the bit, the abort mark still to send and
whether ten recessive bits have been read. -/
theorem elapse_link (bitTime n : Nat) (l : Link) : ∃ idle micros abort listening,
    l.elapse bitTime n =
      { l with idle := idle, bitMicros := micros, abortBits := abort, listening := listening } := by
  unfold Link.elapse
  split
  · exact ⟨l.idle, l.bitMicros, l.abortBits, l.listening, rfl⟩
  · exact ⟨_, _, _, _, rfl⟩

end Sys2Proof.Machine
end

