-- ==== Sys2Proof/Laws/Answers.lean ====
section
/-!
SUPPORT. Per command: it answers a next state, and that state lands from the one it was given. The commands that reset
or start the block (ORDER_RESTART, the resets, SETTLE_TIME_EXPIRY, PARAMETER_READ_COMPLETE) are told apart.
-/

namespace Sys2Proof.Machine

/-- The answer is a next state that lands. -/
def Answers (o : Out) (s : State) : Prop := ∃ t, o = .next t ∧ Lands s t

theorem Answers.of {s t : State} (h : Lands s t) : Answers (.next t) s := ⟨t, rfl, h⟩

/-- A guard that leaves the state as it is. -/
theorem lands_ite {s : State} {p : Prop} [Decidable p] {x : State} (h : ¬p → Lands s x) :
    Lands s (if p then s else x) := by
  split
  · exact .refl s
  · rename_i hp
    exact h hp

/-- Two ways that both land. -/
theorem lands_either {s : State} {p : Prop} [Decidable p] {x y : State} (hx : Lands s x) (hy : Lands s y) :
    Lands s (if p then x else y) := by
  split
  · exact hx
  · exact hy

variable (s : State)

theorem answers_currentSampleArrival (x) : Answers (execCurrentSampleArrival x s) s := by
  refine .of ?_
  split
  · exact .chain (chain_controlStep _ _)
  · exact .refl s

theorem answers_conductionPeriodStart : Answers (execConductionPeriodStart s) s := by
  refine .of (lands_ite fun _ => ?_)
  dsimp only
  split
  · exact .chain ((chain_periodStart s).trans (chain_present _ _ _ _ (by simp)))
  · exact .chain (chain_periodStart s)

theorem answers_conductionOnEnd : Answers (execConductionOnEnd s) s := by
  refine .of ?_
  split
  · exact .chain (chain_onEnd s)
  · exact .refl s

theorem answers_standstill : Answers (execStandstill s) s :=
  .of (lands_ite fun _ => .chain (((Chain.one (.speed s _)).trans (chain_speedChanged _)).trans
    (chain_standstillReached _)))

theorem answers_vibSampleArrival (x h) : Answers (execVibSampleArrival x h s) s := by
  refine .of ?_
  split
  · exact .chain ((chain_hearConverter s).trans (chain_takeVibSample _ _))
  · exact .refl s

theorem answers_vibSilenceExpiry : Answers (execVibSilenceExpiry s) s :=
  .of (lands_ite fun _ => .chain ((Chain.one (.timers s _)).trans (chain_present _ _ _ _ (by simp))))

theorem answers_patternSample (f) : Answers (execPatternSample f s) s := by
  refine .of (lands_ite fun h => ?_)
  rw [not_or] at h
  exact lands_patternSample s f (Classical.not_not.mp h.1) _ rfl

theorem answers_loopSenseChange (x) : Answers (execLoopSenseChange x s) s := by
  refine .of ?_
  have hc : Chain true s (s.onInputs fun i => { i with loopOthers := x }) := .one (.inputs s _)
  split
  · exact .chain (hc.trans (chain_loopCheck _))
  · split
    · rename_i h
      simp only [Bool.and_eq_true, beq_iff_eq] at h
      exact .chain (hc.trans (chain_enterStopped _ (blocksRun_of _ h.2 rfl)))
    · exact .chain hc

theorem answers_loopWaitExpiry : Answers (execLoopWaitExpiry s) s :=
  .of (lands_ite fun _ => .chain ((chain_stopLoopWait s).trans (chain_numberLoopTrip _)))

theorem answers_clearWindowExpiry : Answers (execClearWindowExpiry s) s := by
  refine .of (lands_ite fun _ => ?_)
  dsimp only
  split
  · rename_i h
    exact .chain (((Chain.one (.timers s _)).trans (chain_moveTo _ _ (blocksRun_of s.st h rfl))).trans
      (chain_writeOutcome _ _ _ _))
  · exact .chain (.one (.timers s _))

theorem answers_agingExpiry : Answers (execAgingExpiry s) s :=
  .of (lands_ite fun _ => (Lands.trans (.chain (.one (.timers s _))) (lands_age _)).before (chain_joinStep _))

theorem answers_shareTimerExpiry : Answers (execShareTimerExpiry s) s :=
  .of (lands_ite fun _ => .chain ((Chain.one (.timers s _)).trans (chain_composeShare _)))

theorem answers_historyTimerExpiry : Answers (execHistoryTimerExpiry s) s :=
  .of (lands_ite fun _ => .chain ((Chain.one (.timers s _)).trans (chain_take _ _ _)))

theorem answers_demandTimerExpiry : Answers (execDemandTimerExpiry s) s :=
  .of (lands_ite fun _ => .chain ((Chain.one (.timers s _)).trans (chain_demandExpiry _)))

theorem answers_startWindowExpiry : Answers (execStartWindowExpiry s) s := by
  refine .of (lands_ite fun _ => ?_)
  dsimp only
  split
  · rename_i h
    exact .chain (((Chain.one (.timers s _)).trans (chain_writeMarked _ _)).trans
      (chain_enterStopped _ (blocksRun_of s.st h rfl)))
  · exact .chain (.one (.timers s _))

theorem answers_stageTimerExpiry : Answers (execStageTimerExpiry s) s := by
  refine .of (lands_ite fun _ => ?_)
  split
  · exact .chain (.one (.timers s _))
  · split
    · exact .chain (chain_setStage s _)
    · exact .chain ((Chain.one (.timers s _)).trans (chain_present _ _ _ _ (by simp)))

theorem answers_jamTimerExpiry : Answers (execJamTimerExpiry s) s :=
  .of (lands_ite fun _ => .chain ((Chain.one (.timers s _)).trans (chain_present _ _ _ _ (by simp))))

theorem answers_surgeTimerExpiry : Answers (execSurgeTimerExpiry s) s :=
  .of (lands_ite fun _ => .chain (((Chain.one (.timers s _)).trans (chain_testSurge _)).trans
    (.one (.limiter _ _ rfl))))

theorem answers_clampHoldExpiry : Answers (execClampHoldExpiry s) s := by
  refine .of (lands_ite fun _ => ?_)
  dsimp only
  split
  · exact .chain (.one (.limit s _))
  · exact .chain ((Chain.one (.limit s _)).trans (chain_composeClamp _ _))

theorem answers_lockoutTimerExpiry : Answers (execLockoutTimerExpiry s) s := by
  refine .of (lands_ite fun _ => ?_)
  dsimp only
  split
  · rename_i h
    exact .chain ((Chain.one (.timers s _)).trans (chain_moveTo _ _ (blocksRun_of s.st h rfl)))
  · exact .chain (.one (.timers s _))

theorem answers_localInputEdge (i l) : Answers (execLocalInputEdge i l s) s := by
  refine .of (lands_ite fun _ => ?_)
  dsimp only
  split
  · exact .chain (.one (.inputs s _))
  · exact .chain ((Chain.one (.inputs s _)).trans (.one (.timers _ _)))

theorem answers_localInputFiltered (i) : Answers (execLocalInputFiltered i s) s := by
  refine .of (lands_ite fun _ => ?_)
  have hc : Chain true s ((s.onTimers (Timers.setFilter i none)).onSeq (Sequencer.setFiltered i (s.pin i))) :=
    (Chain.one (.timers s _)).trans (.one (.seq _ _ (by cases i <;> rfl)))
  cases i with
  | lstop => exact .trans (.chain (hc.trans (chain_present _ _ _ _ (by simp)))) (lands_actOnFiltered _)
  | maint => exact .trans (.chain hc) (lands_actOnFiltered _)

theorem answers_demandFrame (o p) : Answers (execDemandFrame o p s) s :=
  .of (lands_frame _ _ _ fun _ => .chain (chain_takeDemand _ _))

theorem answers_orderSelftest (o p) : Answers (execOrderSelftest o p s) s :=
  .of (lands_orderArrives _ _ _ _ _ fun _ => .chain (chain_orderSelftest _ _))

theorem answers_clearTrip (o p) : Answers (execClearTrip o p s) s :=
  .of (lands_orderArrives _ _ _ _ _ fun _ => lands_clearTrip _ _)

theorem answers_keepRecord (o p) : Answers (execKeepRecord o p s) s :=
  .of (lands_orderArrives _ _ _ _ _ fun _ => .chain (chain_keepRecord _ _))

theorem answers_releaseRecord (o p) : Answers (execReleaseRecord o p s) s :=
  .of (lands_orderArrives _ _ _ _ _ fun _ => .chain (chain_releaseRecord _ _))

theorem answers_discardRecords (o p) : Answers (execDiscardRecords o p s) s :=
  .of (lands_orderArrives _ _ _ _ _ fun _ => .chain (chain_discardRecords _ _))

theorem answers_orderUndefinedKind (o k p) : Answers (execOrderUndefinedKind o k p s) s :=
  .of (lands_orderArrives _ _ _ _ _ fun u => .refl u)

theorem answers_tripFrame (o p) : Answers (execTripFrame o p s) s :=
  .of (lands_frame _ _ _ fun _ => .chain (chain_takeTrip _ _ _))

theorem answers_clampFrame (o p) : Answers (execClampFrame o p s) s :=
  .of (lands_frame _ _ _ fun _ => .chain (chain_installClamp _ _ _))

theorem answers_shareFrame (o p) : Answers (execShareFrame o p s) s := by
  refine .of (lands_hears _ _ _ ?_)
  split
  · exact .chain (chain_duplicate _)
  · rename_i h
    exact lands_takeShare _ _ _ h

theorem answers_rollFrame (o p) : Answers (execRollFrame o p s) s := by
  refine .of (lands_hears _ _ _ ?_)
  split
  · exact .chain (chain_duplicate _)
  · rename_i h
    exact lands_takeRoll _ _ _ h

theorem answers_replyFrame (o ws) : Answers (execReplyFrame o ws s) s :=
  .of (lands_frame _ _ _ fun u => .refl u)

theorem answers_query (o item q) (answer : State → Answer) : Answers (.next (s.query o item q answer)) s :=
  .of (lands_query _ _ _ _ _)

theorem answers_frameDiscard (bits) : Answers (execFrameDiscard bits s) s := by
  refine .of (lands_either (.chain (.one (.link s _))) (lands_either (.chain (.one (.link s _))) ?_))
  split
  · exact .chain (.one (.link s _))
  · exact .refl s
  · exact .refl s

theorem answers_transmitStart (start) : Answers (execTransmitStart s start) s := by
  refine .of ?_
  cases start
  · exact lands_either (.chain (.one (.link s _))) (.refl s)
  · exact lands_ite fun _ => .chain (.one (.link s _))

theorem answers_arbitrationLoss : Answers (execArbitrationLoss s) s :=
  .of (lands_ite fun _ => .chain (.one (.link s _)))

theorem answers_echoFault : Answers (execEchoFault s) s := by
  refine .of ?_
  split
  · exact .refl s
  · dsimp only
    split
    · exact .chain ((Chain.one (.link s _)).trans (chain_muteOnEcho _ _))
    · exact .chain ((Chain.one (.link s _)).trans (.one (.link _ _)))

theorem answers_transmitSuccess : Answers (execTransmitSuccess s) s := by
  refine .of ?_
  split
  · exact .refl s
  · exact .chain ((Chain.one (.link s _)).trans (chain_takeEcho _ _))

theorem answers_guardTimerExpiry : Answers (execGuardTimerExpiry s) s := by
  refine .of (lands_ite fun _ => ?_)
  split
  · exact .chain (.one (.timers s _))
  · exact .chain (((Chain.one (.timers s _)).trans (.one (.loader _ (fun l => { l with guardFound := some s.cfg.crc })
      rfl))).trans (chain_present _ _ _ _ (by simp)))

theorem answers_settingsUpset (i v) : Answers (execSettingsUpset i v s) s :=
  .of (.chain (.one (.loader s _ rfl)))

theorem answers_supplyLevelCrossing (n) : Answers (execSupplyLevelCrossing n s) s := by
  refine .of ?_
  have hc : Chain true s (s.onInputs fun i => { i with supplyMillivolts := n }) := .one (.inputs s _)
  split
  · exact .chain hc
  · exact .chain ((hc.trans (.one (.monitor _ _ rfl rfl))).trans (chain_present _ _ _ _ (by simp)))

/-- ORDER_RESTART: settled, and then perhaps the reset. -/
theorem answers_orderRestart (o p) : ∃ u, Lands s u ∧
    (execOrderRestart o p s = .next u
      ∨ (s.link.active = true ∧ execOrderRestart o p s = .next ((u.beginReset .restart).endReset))) := by
  obtain ⟨u, hu, he | ⟨ha, he⟩⟩ := lands_frameArrives s ⟨classOrder, o, p.words 2⟩ fun s =>
    if s.addressed p.target then State.orderRestart p s else s
  · exact ⟨u, hu, .inl (congrArg _ he)⟩
  · have hx : execOrderRestart o p s = .next (if u.addressed p.target then State.orderRestart p u else u) :=
      congrArg _ he
    rw [hx]
    split
    · unfold State.orderRestart
      split
      · exact ⟨u, hu, .inr ⟨ha, rfl⟩⟩
      · exact ⟨_, hu.before (chain_answerOrder _ _ _), .inl rfl⟩
    · exact ⟨u, hu, .inl rfl⟩

/-- An answer that lands leaves a state that lands. -/
theorem Answers.landed {o : Out} {s : State} (h : Answers o s) : Lands s (landed s o) := by
  obtain ⟨t, rfl, ht⟩ := h
  exact ht

/-- An own event taken lands, but for the end of the settle time, which reads the straps. -/
theorem lands_takeOwn (c : Instr) (h : ∀ straps, c ≠ .settleTimeExpiry straps) : Lands s (s.takeOwn c) := by
  refine Answers.landed ?_
  split
  · exact answers_conductionPeriodStart s
  · exact answers_conductionOnEnd s
  · exact answers_standstill s
  · exact answers_vibSilenceExpiry s
  · exact answers_patternSample s _
  · exact answers_loopWaitExpiry s
  · exact answers_clearWindowExpiry s
  · exact answers_agingExpiry s
  · exact answers_shareTimerExpiry s
  · exact answers_historyTimerExpiry s
  · exact answers_demandTimerExpiry s
  · exact answers_startWindowExpiry s
  · exact answers_stageTimerExpiry s
  · exact answers_jamTimerExpiry s
  · exact answers_surgeTimerExpiry s
  · exact answers_clampHoldExpiry s
  · exact answers_lockoutTimerExpiry s
  · exact answers_localInputFiltered s _
  · exact answers_transmitStart s _
  · exact absurd rfl (h _)
  · exact answers_guardTimerExpiry s
  · exact .of (.refl s)

/-- The choice among due events moves the free counter alone. -/
theorem lands_nextDue {s t : State} {c : Instr} (h : s.nextDue = some (c, t)) : Lands s t := by
  unfold State.nextDue at h
  split at h
  · simp at h
  · simp only [Option.some.injEq, Prod.mk.injEq] at h
    exact h.2 ▸ .refl s
  · simp only [Option.some.injEq, Prod.mk.injEq] at h
    exact h.2 ▸ .chain (.one (.free s _))

/-- A property is kept while time passes when every landing and the end of the settle time keep it. -/
theorem takeDue_keeps {P : State → Prop} (hl : ∀ s t, Lands s t → P s → P t)
    (hs : ∀ straps s, P s → P (landed s (execSettleTimeExpiry straps s))) (n : Nat) (s : State) (h : P s) :
    P (s.takeDue n) := by
  induction n generalizing s with
  | zero => exact h
  | succ n ih =>
    unfold State.takeDue
    split
    · exact h
    · rename_i c t hd
      have ht : P t := hl _ _ (lands_nextDue hd) h
      refine ih _ ?_
      by_cases hc : ∃ straps, c = .settleTimeExpiry straps
      · obtain ⟨straps, rfl⟩ := hc
        exact hs straps t ht
      · exact hl _ _ (lands_takeOwn t c fun straps e => hc ⟨straps, e⟩) ht

/-- The same over the whole time that passes before an edge. -/
theorem pass_keeps {P : State → Prop} (hl : ∀ s t, Lands s t → P s → P t)
    (hs : ∀ straps s, P s → P (landed s (execSettleTimeExpiry straps s))) (n : Nat) (s : State) (h : P s) :
    P (s.pass n) := by
  induction n generalizing s with
  | zero => exact h
  | succ n ih => exact ih _ (hl _ _ (.chain (.one (.elapse _ 1))) (takeDue_keeps hl hs ownKinds s h))

/-- TACH_EDGE answers a next state: time passes, and the edge lands from there. -/
theorem answers_tachEdge (e n) : ∃ t, execTachEdge e n s = .next t ∧ Lands (s.pass n) t :=
  ⟨_, rfl, .chain (chain_tachEdge _ _)⟩

end Sys2Proof.Machine
end

