-- ==== Sys2Proof/Tests/Slice0.lean ====
section
/-!
SUPPORT. The tests: what the well-formedness check refuses, the spec's worked numbers, one step on small states, and
for every statement with hypotheses a state and operands that meet them (`witness_…`), clause by clause.
-/

namespace Sys2Proof.Machine.Tests

/-! The tests are checked one after the other: each waits for the kernel's check of those before it, and a thread for
each that waits would take more memory than the check has. -/
set_option Elab.async false

/-! ### Small states -/

/-- The words of a parameter block that passes R164, in four pieces: a group of 4, carrier period 1000 µs, share period
10 ms. -/
def blockA : List Word :=
  [0x224E, 0x0007, 1000, 100, 0x1432, 15, 16960, 500, 1200, 1000, 100, 200, 300, 2000, 1000, 1500]
def blockB : List Word :=
  [1000, 800, 0x08C8, 1500, 900, 1000, 0x2846, 500, 600, 700, 800, 900, 1000, 300, 600, 900]
def blockC : List Word :=
  [1200, 1100, 1000, 900, 700, 1000, 30, 0, 800, 900, 1000, 1000, 0x1990, 0x3214, 2000, 100]
def blockD : List Word :=
  [200, 500, 400, 100, 100, 110, 120, 130, 200, 210, 220, 230, 300, 310, 320, 330]

/-- The 64 words. -/
def block : Settings :=
  blockA ++ blockB ++ blockC ++ blockD

/-- The 130 bytes of the block with its CRC. -/
def blockBytes : List Byte :=
  (block ++ [0xBA0D]).flatMap fun (w : Word) => [w.extractLsb' 8 8, w.extractLsb' 0 8]

theorem test_crcOfBlock : block.crc = 0xBA0D := by
  have a : (bitsOfWords blockA).foldl crcBit 0xFFFF = 33793 := by decide +kernel
  have b : (bitsOfWords blockB).foldl crcBit 33793 = 60700 := by decide +kernel
  have c : (bitsOfWords blockC).foldl crcBit 60700 = 48277 := by decide +kernel
  have d : (bitsOfWords blockD).foldl crcBit 48277 = 47629 := by decide +kernel
  unfold bitsOfWords at a b c d
  simp only [Settings.crc, crc16, block, bitsOfWords, List.flatMap_append, List.foldl_append, a, b, c, d]
  decide

/-- A SHARE of a station in RUN. -/
def shareRun : SharePayload :=
  { state := 6, intended := 0, notReady := false, stage := 0, limiting := 0, feedback := 500, allowance := 800,
    speed := 400, g := 1, signature := 7, outcomeSource := 0, alertPresent := false, clampCausePresent := false,
    tripCauseLatched := false, vibrationDerating := false, overloadLimiting := false, mutePending := false,
    outcomeCode := 0, outcomeTag := 0 }

/-- Station 3 in state `st` with the settings of `block`, heard by a supervisor at 4 and by a drive at 5 that last
showed `share`; 3 and 5 are the participants. -/
def placed (st : StationState) (share : SharePayload := shareRun) : State :=
  let heard : PeerEntry := { PeerEntry.empty with entry := .present, kind := .drive }
  let s : State := { State.reset with
    peers :=
      { entries := ⟨.empty, .empty, .empty, heard, { heard with kind := .other }, { heard with share := some share },
                    .empty, .empty⟩,
        participants := [], joinExpiries := 0 }
    seq := { State.reset.seq with station := st }
    loader := { State.reset.loader with settings := some block, station := 3, step := .done, guardWord := 0xBA0D }
    cause := { State.reset.cause with actions := block.actions }
    link := { State.reset.link with active := true, listening := true, idle := 10 }
    gen := { State.reset.gen with period := some 1000 }
    lines := st.lines
    limiter := { State.reset.limiter with rated := 1000, ceiling := 900, creepCap := 700, overloadValue := 1000,
                                          bandValue := 1200, envelope := block.envelope }
    vib := { State.reset.vib with allowance := 1000 } }
  let s := { s with peers := { s.peers with participants := s.participantsNow } }
  { s with limiter := { s.limiter with limiting := s.limitingNow, allowance := s.contributorValue s.limitingNow } }

/-- `placed` with every timer running and one due to end in 1 µs each. -/
def timed (st : StationState) : State :=
  { placed st with
    timers :=
      { settle := some 1, guard := some 1, aging := some 1, share := some 1, history := some 1, demand := some 1,
        startWindow := some 1, lockout := some 1, lstopFilter := some 1, maintFilter := some 1, loopWait := some 1,
        clearWindow := some 1, stage := some 1, jam := some 1, surge := some 1, silence := some 1,
        pattern := some 1 } }

/-- An order to station 3. -/
def order : OrderPayload := { target := 3, tag := 9, argument := 0 }

/-- A demand for RUN. -/
def demandRun : DemandPayload := { mode := 1, sequence := 5, speedTarget := 800, ceiling := 900 }

/-- A TRIP with number 1. -/
def trip1 : TripPayload := { number := 1, causeCode := 1, stateAtTrip := 6, feedback := 0, speed := 0 }

/-- A CLAMP. -/
def clamp800 : ClampPayload := { level := 800, hold := 1, causeCode := 6 }

/-- A query to station 3. -/
def query : QueryPayload := { target := 3, tag := 2, index := 0, sub := 0 }

/-- A record. -/
def record : TripRecord :=
  { closed := true, keep := false, serial := 1, number := some 1, origin := some 3, confirmed := false,
    ownPart := .origin, coOrigins := [], firstCause := .jam, detail := 0, timeMark := 0, stateAtTrip := .run,
    snapshot := { feedback := 0, reference := 0, allowance := 0, limiting := .rated, speed := 0, vibRms := 0,
                  vibPeak := 0, overloadPercent := 0, stage := 0 },
    subsequent := [], overflow := 0, history := [], tail := [], tailCut := true }

/-- A trip context with a number and no confirmed origin. -/
def context : TripContext :=
  { number := some 1, origin := some 3, confirmed := false, ownPart := .origin, coOrigins := [], stateAtTrip := .run }

/-! ### Well-formed commands -/

theorem test_replyOfOneWordRefused : (Instr.replyFrame 4 [0]).wellFormed = false := by decide
theorem test_replyOfNineWordsRefused : (Instr.replyFrame 4 (List.replicate 9 0)).wellFormed = false := by decide
theorem test_definedOrderKindRefused : (Instr.orderUndefinedKind 4 6 order).wellFormed = false := by decide
theorem test_definedItemRefused : (Instr.queryNoSuchItem 4 10 query).wellFormed = false := by decide
theorem test_validFrameIsNoDiscard :
    (Instr.frameDiscard (Frame.lineBits ⟨classQuery, 4, [0, 0]⟩)).wellFormed = false := by decide +kernel
theorem test_shortReadRefused : (Instr.parameterReadComplete (List.replicate 129 0)).wellFormed = false := by
  decide +kernel
theorem test_brownOutEndBelowLevelRefused : (Instr.brownOutEnd 2700).wellFormed = false := by decide

theorem test_boundariesAccepted :
    (Instr.replyFrame 4 [0, 0]).wellFormed = true ∧ (Instr.replyFrame 4 (List.replicate 8 0)).wellFormed = true
      ∧ (Instr.orderUndefinedKind 4 0 order).wellFormed = true ∧ (Instr.orderUndefinedKind 4 7 order).wellFormed = true
      ∧ (Instr.queryNoSuchItem 4 0 query).wellFormed = true ∧ (Instr.queryNoSuchItem 4 11 query).wellFormed = true
      ∧ (Instr.frameDiscard [false, true, true, true, true, true]).wellFormed = true
      ∧ (Instr.parameterReadComplete (List.replicate 130 0)).wellFormed = true
      ∧ (Instr.brownOutEnd 2701).wellFormed = true := by decide +kernel

/-! ### Numbers that the spec works out -/

/-- R145: 103 bits for 3 words, 123 for 4 and 203 for 8, gap and inserted bits included. -/
theorem test_frameLength :
    (Frame.lineBits ⟨classClamp, 1, [0, 0, 0]⟩).length + 4 = 103
      ∧ (Frame.lineBits ⟨classTrip, 1, [0, 0, 0, 0]⟩).length + 4 = 123
      ∧ (Frame.lineBits ⟨classShare, 1, List.replicate 8 0⟩).length + 4 = 203 := by decide +kernel

/-- R146: the CRC of no bits is the initial value, and of the bytes 1 to 9 in ASCII it is the generator's known
check value. -/
theorem test_crc :
    crc16 [] = 0xFFFF ∧ crc16 (bitsOfWords [0x3132, 0x3334, 0x3536, 0x3738] ++ bitsMsb 8 0x39) = 0x29B1 := by
  decide +kernel

/-- R93: the mean square 2 000 000 has the root 1414, and 1 440 000 has 1200. -/
theorem test_rms : isqrt 2000000 = 1414 ∧ isqrt 1440000 = 1200 := by decide

/-- R47: an edge 600 000 µs after the one before gives 24 000 000 / 600 000 = 40 ‰. -/
theorem test_speedOfLateEdge : 24000000 / 600000 = 40 := by decide

/-- R52: with P = 2000 and a demand of 950, H is 1900 µs and L 100 µs. -/
theorem test_onCount :
    ∃ t, exec .conductionPeriodStart
        { placed .run with gen := { (placed .run).gen with period := some 2000, demand := 950, answered := true } }
        = .next t ∧ t.gen.onCount = 1900 ∧ t.gen.offCount = 100 ∧ t.gen.phase = .on :=
  ⟨_, rfl, by decide, by decide, by decide⟩

/-- R113: 1 follows 65535, 0 is none, and a half-circle ahead is not newer. -/
theorem test_serialOrder :
    successor 65535 = 1 ∧ newer 1 65535 = true ∧ newer 0 5 = false ∧ newer 5 0 = true ∧ newer 32768 0 = true
      ∧ newer 32769 1 = false ∧ newer 32768 1 = true := by decide

/-- R164: the block passes; all bytes FFh are BLANK. -/
theorem test_blockPasses : checkBlock blockBytes = .ok block := by
  have ff : blockBytes.all (· == 0xFF) = false := by decide +kernel
  have words : wordsOfBytes blockBytes = block ++ [0xBA0D] := by decide +kernel
  have front : (block ++ [0xBA0D]).take 64 = block := by decide +kernel
  have last : (block ++ [0xBA0D]).getD 64 0 = 0xBA0D := by decide +kernel
  have ranges : block.inRange = true := by decide +kernel
  have consistent : block.consistent = true := by decide +kernel
  simp only [checkBlock, ff, words, front, last, test_crcOfBlock, ranges, consistent, Bool.false_eq_true,
    Bool.true_eq_false, if_false, ne_eq, not_true_eq_false]

theorem test_blankBlock :
    (match checkBlock (List.replicate 130 0xFF) with | .error e => e == .blank | .ok _ => false) = true := by
  decide +kernel

/-- R144, R169, spec/11 section 11.3: a DEMAND RUN of station 4, sequence 5, as words, and back. -/
theorem test_demandWords :
    frameOfCommand (.demandFrame 4 demandRun) = some ⟨3, 4, [0x0105, 800, 900]⟩
      ∧ commandOfFrame ⟨3, 4, [0x0105, 800, 900]⟩ = some (.demandFrame 4 demandRun) := by decide +kernel

/-- No row of the table gives bits. -/
theorem test_noTableWord : decodeTableWord 16 1 = none := rfl


/-! ### The hypotheses of the statements can be met, each clause at a boundary of its range -/

/-- In FAULT_HALT, with no timer running, nothing in the transmitter and the flag set, no event has a place; a start-up
that does not read takes no parameter read. -/
theorem witness_EveryCommandAnswersNext :
    (let s := { placed .faultHalt with timers := .stopped }
     s.timers.settle = none ∧ s.timers.guard = none ∧ s.timers.aging = none ∧ s.timers.share = none
       ∧ s.timers.history = none ∧ s.timers.demand = none ∧ s.timers.startWindow = none ∧ s.timers.lockout = none
       ∧ s.timers.lstopFilter = none ∧ s.timers.maintFilter = none ∧ s.timers.loopWait = none
       ∧ s.timers.clearWindow = none ∧ s.timers.stage = none ∧ s.timers.jam = none ∧ s.timers.surge = none
       ∧ s.timers.silence = none ∧ s.limiter.clamp.active = false ∧ s.st ≠ .selftest ∧ s.vib.phase = .none
       ∧ s.st.blocksRun = false ∧ s.speed.standstill = true ∧ s.st ≠ .loading ∧ s.loader.step ≠ .reading
       ∧ s.link.transmitter = none)
      ∧ State.reset.link.idle ≠ 10 ∧ { (placed .run).link with bitMicros := 1 }.bitMicros ≠ 0
      ∧ ([] : List Byte).length ≠ 130 := by decide

theorem witness_IdleStepLetsTimePass :
    (State.reset.pending = [] ∧ State.reset.dueEvents = [] ∧ State.reset.inReset = false)
      ∧ (let s := { placed .run with timers := { (placed .run).timers with share := some 0 } }
         s.pending = [] ∧ s.dueEvents = [.shareTimerExpiry])
      ∧ (let s := { placed .run with timers := { (placed .run).timers with share := some 0, history := some 0 } }
         s.pending = [] ∧ 2 ≤ s.dueEvents.length)
      ∧ { State.reset with monitor := { State.reset.monitor with clockLost := true } }.inReset = true
      ∧ (placed .run).link.active = true ∧ (placed .run).link.transmitter = none
      ∧ (placed .run).link.lineBusy = false ∧ State.reset.link.active = false
      ∧ (placed .run).cfg.bitRateCode = 0 ∧ Settings.bitRateCode (block.set 0 0x624E) = 1
      ∧ Settings.bitRateCode (block.set 0 0xA24E) = 2 := by
  decide +kernel

theorem witness_StepKeepsOutputs :
    (timed .run).OutputsOk ∧ ∃ t, step (timed .run) = .next t :=
  ⟨⟨fun _ => rfl, fun h => absurd h (by decide), fun h => absurd h (by decide)⟩, _, rfl⟩

theorem witness_StepKeepsAllowance : (timed .run).AllowanceOk ∧ ∃ t, step (timed .run) = .next t :=
  ⟨⟨rfl, rfl⟩, _, rfl⟩

theorem witness_StepKeepsParticipants : (timed .run).ParticipantsOk ∧ ∃ t, step (timed .run) = .next t :=
  ⟨rfl, _, rfl⟩

theorem witness_StepKeepsPeers : (timed .run).PeersOk ∧ ∃ t, step (timed .run) = .next t := by
  refine ⟨⟨fun n => ?_, fun _ => ⟨rfl, rfl, rfl, rfl, rfl⟩⟩, _, rfl⟩
  fin_cases n <;> first | exact trivial | exact Nat.zero_le 2

/-- A tripped station with one closed record, its current one. -/
def recorded : State :=
  { placed .tripped with
    cause := { (placed .tripped).cause with g := 1, context := some context }
    records := { ring := [], slots := ⟨some record, none, none, none, none, none, none, none⟩, serial := 1,
                 current := some 0 } }

theorem witness_StepKeepsRecords : recorded.RecordsOk ∧ ∃ t, step recorded = .next t := by
  have slots : ∀ (i : Fin 8) (x : TripRecord), recorded.records.slots.get i = some x → i = 0 ∧ x = record := by
    intro i x h
    fin_cases i <;> simp_all [recorded, Eight.get]
  have ctx : context.Ok := ⟨⟨by decide, fun o _ => by simp [context], fun _ => rfl⟩, fun _ => rfl⟩
  refine ⟨⟨⟨by decide, by decide, fun i x h => ?_, fun i x h hc => ?_, fun i h => ?_, by decide⟩, fun c h => ?_⟩,
    _, rfl⟩
  · obtain ⟨rfl, rfl⟩ := slots i x h
    exact ⟨by decide, by decide, by decide, fun _ _ => rfl, by decide, by decide, by decide, by decide,
      by decide, fun o _ => by simp [record], fun _ => rfl⟩
  · obtain ⟨rfl, rfl⟩ := slots i x h
    exact nomatch hc
  · cases h
    rfl
  · cases h
    exact ctx

/-- The store of `placed` is in order, in every state. -/
theorem placed_recordsOk (st : StationState) : (placed st).RecordsOk := by
  refine ⟨⟨Nat.zero_le _, Nat.zero_le _, fun i x h => ?_, fun i x h => ?_, fun i h => (nomatch h), Nat.zero_le _⟩,
    fun c h => (nomatch h)⟩ <;> fin_cases i <;> exact nomatch h

theorem witness_StepKeepsVibration : (timed .run).VibrationOk ∧ ∃ t, step (timed .run) = .next t :=
  ⟨⟨by decide, by decide, by decide, fun _ => ⟨by decide, by decide⟩, fun h => (nomatch h), fun h => (nomatch h),
    fun _ => rfl⟩, _, rfl⟩

theorem witness_LineBitsRoundTrip :
    lengthAllowed 0 4 = true ∧ lengthAllowed 1 3 = true ∧ lengthAllowed 5 2 = true ∧ lengthAllowed 6 2 = true
      ∧ lengthAllowed 6 8 = true := by decide

theorem witness_CommandFrameRoundTrip :
    (Instr.replyFrame 4 [0, 0]).wellFormed = true ∧ (∃ f, frameOfCommand (.replyFrame 4 [0, 0]) = some f)
      ∧ (Instr.replyFrame 4 (List.replicate 8 0)).wellFormed = true
      ∧ (∃ f, frameOfCommand (.orderUndefinedKind 4 15 order) = some f)
      ∧ (Instr.orderUndefinedKind 4 15 order).wellFormed = true :=
  ⟨rfl, ⟨_, rfl⟩, rfl, ⟨_, rfl⟩, rfl⟩

/-- `placed` with the capture timer at `capture` and the speed 50. -/
def turning (st : StationState) (capture : Nat) : State :=
  { placed st with speed := { capture := capture, speed := 50, standstill := false, stageEdges := 2 } }

theorem witness_TachEdgeMeasuresSpeed :
    (let u := (turning .run 49).pass 1
     u.st.blocksRun = true ∧ u.cfg.edgeQualifies .rising = true ∧ 50 ≤ u.speed.capture)
      ∧ (let u := (turning .stopped 20000).pass 0
         u.st.joined = true ∧ u.cfg.edgeQualifies .falling = true ∧ 50 ≤ u.speed.capture ∧ u.st ≠ .breakaway
           ∧ u.st.cruising = false ∧ min 1500 (u.cfg.tachConstant / u.speed.capture) = 50
           ∧ 50 ≤ u.cfg.overspeedLimit ∧ u.limiter.band = u.cfg.bandOf 50)
      ∧ ((turning .run 49).pass 0).speed.capture < 50
      ∧ ((turning .loading 49).pass 0).st.blocksRun = false
      ∧ Settings.edgeSelect (block.set 0 0x224C) = 0 ∧ Settings.edgeSelect (block.set 0 0x224D) = 1 ∧ block.edgeSelect = 2
      ∧ (placed .run).dueEvents = [] ∧ (turning .run 500000).dueEvents = [.standstill] := by decide +kernel

theorem witness_RotationEndsBreakaway :
    ∃ u, u = (turning .breakaway 20000).pass 0 ∧ u.st = .breakaway ∧ u.cfg.edgeQualifies .rising = true
      ∧ 50 ≤ u.speed.capture ∧ u.cfg.rotationEdges ≤ min 255 (u.speed.stageEdges + 1)
      ∧ min 1500 (u.cfg.tachConstant / u.speed.capture) ≤ u.cfg.overspeedLimit ∧ u.ParticipantsOk
      ∧ u.cfg.minCreep ≤ u.count :=
  ⟨_, rfl, rfl, by decide, by decide, by decide, by decide, rfl, by decide⟩

theorem witness_StandstillReached :
    (∀ st ∈ [StationState.decel, .tripDecel, .run, .selftest], st.joined = true)
      ∧ StationState.blocksRun .faultHalt = false ∧ State.reset.speed.standstill = true
      ∧ ∀ st ∈ [StationState.decel, .tripDecel, .run, .selftest, .joining],
      (turning st 500000).st.blocksRun = true ∧ (turning st 500000).speed.standstill = false
        ∧ (turning st 500000).inputs.loopOthers = false := by decide

theorem witness_ControlStepTakesSample :
    (placed .joining).st.blocksRun = true ∧ (placed .stopped).st.joined = true
      ∧ (placed .stopped).lines.convEn = false ∧ (placed .stopped).st.cruising = false
      ∧ (1500 : Word) ≠ 0x8000 ∧ (1500 : Word).toInt ≤ (placed .stopped).cfg.overcurrentLimit
      ∧ (placed .loading).st.blocksRun = false := by decide

/-- `placed` in RUN with an action for SURGE. -/
def surging (action : Action) : State :=
  { placed .run with cause := { (placed .run).cause with actions := { block.actions with surge := ⟨action, 600⟩ } } }

/-- A sample of 1500 is above the surge threshold over the reference 0 and below the overcurrent limit, and meets the jam
conditions at speed 0; one of 0 does neither. -/
theorem witness_ControlStepTakesSample_surgeAndJam :
    (∀ a ∈ [Action.trip, .clamp, .alert], (surging a).st.cruising = true ∧ (surging a).link.mute = false
        ∧ ((surging a).causeField .surge).present = false ∧ (surging a).cause.actions.surge.action = a)
      ∧ ((placed .run).cfg.surgeThreshold : Int) < 1500 - (placed .run).limiter.surgeReference
      ∧ (match exec (.currentSampleArrival 1500) (surging .clamp) with
        | .next t => t.reg.overCurrent == false && t.st == .run
            && decide (0 < t.cfg.jamSpeed ∧ 0 < t.limiter.allowance ∧ t.limiter.allowance * 95 ≤ 1500 * 100)
        | _ => false) = true
      ∧ (match exec (.currentSampleArrival 0) (surging .clamp) with
        | .next t => t.reg.overCurrent == false && t.st == .run && t.reg.feedback == 0
        | _ => false) = true := by decide +kernel

theorem witness_ReferenceWithinAllowance :
    (placed .run).st.blocksRun = true ∧ (∃ t, exec (.currentSampleArrival 500) (placed .run) = .next t
      ∧ t.lines.convEn = true)
      ∧ (∃ t, exec (.currentSampleArrival 1501) (placed .run) = .next t ∧ t.lines.convEn = false) :=
  ⟨rfl, ⟨_, rfl, rfl⟩, _, rfl, rfl⟩

theorem witness_SpeedAndCurrentLoops :
    (let s := { placed .breakaway with limiter := { (placed .breakaway).limiter with stage := 1, stageValue := 800 } }
     s.st = .breakaway ∧ s.lines.convEn = true
       ∧ (match exec (.currentSampleArrival 500) s with | .next t => t.st == .breakaway | _ => false) = true)
    ∧ ∀ st ∈ [StationState.run, .creep, .decel], (placed st).st.regulating = true ∧ (placed st).lines.convEn = true
      ∧ (match exec (.currentSampleArrival 1500) (placed st) with | .next t => t.st == st | _ => false) = true := by
  decide +kernel

theorem witness_CarrierPeriod :
    (let s := placed .run
     s.st.blocksRun = true ∧ s.lines.convEn = true ∧ s.gen.answered = false ∧ min 3 (s.reg.missCount + 1) ≠ 3)
      ∧ (let s := { placed .run with reg := { (placed .run).reg with missCount := 2 } }
         s.st.blocksRun = true ∧ s.lines.convEn = true ∧ s.gen.answered = false ∧ min 3 (s.reg.missCount + 1) = 3
           ∧ s.st.joined = true)
      ∧ (placed .run).gen.offCount = 0
      ∧ 0 < { (placed .run).gen with offCount := 1 }.offCount := by decide

/-- A window that holds 255 samples, each of the value `v`. -/
def windowed (st : StationState) (v : Nat) : State :=
  { placed st with vib := { (placed st).vib with count := 255, sumSquares := 255 * v ^ 2, peak := v } }

theorem witness_VibrationWindow :
    (placed .joining).st.blocksRun = true ∧ (placed .joining).st.evaluating = false
      ∧ (placed .run).st.evaluating = true ∧ { (placed .run).vib with count := 254 }.count < 255
      ∧ (placed .faultHalt).st.blocksRun = false
      ∧ (windowed .run 100).st.evaluating = true ∧ (windowed .run 100).vib.count = 255
      ∧ (windowed .run 100).VibrationOk ∧ (windowed .run 32768).VibrationOk := by
  refine ⟨by decide, by decide, by decide, by decide, by decide, by decide, by decide, ?_, ?_⟩ <;>
    exact ⟨by decide, by decide, by decide, fun _ => ⟨by decide +kernel, by decide⟩, fun h => (nomatch h),
      fun h => (nomatch h), fun _ => rfl⟩

/-- The alert limit of band 0 is 100: reached at 100, not at 99; the third quiet window is the last. -/
theorem witness_DerateAndRecovery :
    (match exec (.vibSampleArrival 100 true) (windowed .run 100) with
      | .next t => t.st == .run && decide (t.cfg.alertRms t.vib.latestBand ≤ t.vib.latestRms)
      | _ => false) = true
      ∧ (match exec (.vibSampleArrival 99 true) (windowed .run 99) with
        | .next t => t.st == .run && decide (t.vib.latestRms < t.cfg.alertRms t.vib.latestBand)
        | _ => false) = true
      ∧ (windowed .run 99).cfg.recoveryWindows = 3 ∧ (windowed .run 99).st.regulating = true := by decide +kernel

/-- A self-test window with 255 samples of the amplitude 371 taken. -/
def testing (phase : TestPhase) : State :=
  let v := if phase = .zero then 0 else 371
  { placed .selftest with
    vib := { (placed .selftest).vib with
      phase := phase, count := 255, patternCount := 255, sumSquares := 255 * v ^ 2, peak := v, amplitude := 371 } }

theorem witness_SelftestPattern :
    (testing .high1).cfg.patternAmplitude = 371 ∧ (testing .high1).st = .selftest
      ∧ (∀ p ∈ [TestPhase.high1, .high2, .zero], (testing p).vib.phase ≠ .none ∧ (testing p).vib.patternCount = 255)
      ∧ (testing .high2).vib.sumSquares = 255 * (testing .high2).vib.amplitude ^ 2
      ∧ (testing .high2).vib.peak = (testing .high2).vib.amplitude
      ∧ { (testing .high1).vib with patternCount := 254 }.patternCount < 255
      ∧ (testing .zero).inputs.loopOthers = false
      ∧ (testing .zero).vib.sumSquares = 0 ∧ (testing .zero).vib.peak = 0
      ∧ { (testing .zero).vib with failMark := true }.failMark = true := by decide +kernel

/-- The windows of the self-test are within the bounds of StepKeepsVibration. -/
theorem witness_StepKeepsVibration_selftest : (testing .high1).VibrationOk ∧ (testing .zero).VibrationOk := by
  constructor <;>
    exact ⟨by decide, by decide, by decide, fun h => (nomatch h), fun _ => ⟨rfl, by decide +kernel, by decide⟩,
      fun _ h => absurd rfl h, fun h => absurd rfl h⟩

/-- `placed` with others driving the loop. -/
def looped (st : StationState) : State :=
  { placed st with inputs := { (placed st).inputs with loopOthers := true } }

theorem witness_LoopSenseChanges :
    (∀ st ∈ [StationState.selftest, .stopped, .starting, .breakaway, .run, .creep, .decel, .standby],
        st.canTrip = true ∧ (placed st).lines.loopDrive = false ∧ (placed st).inputs.loopOthers = false)
      ∧ (looped .clearing).st = .clearing ∧ (looped .clearing).lines.loopDrive = false
      ∧ (looped .clearing).inputs.loopOthers = true
      ∧ StationState.canTrip .joining = false ∧ (placed .tripped).lines.loopDrive = true
      ∧ (placed .run).RecordsOk := by
  refine ⟨by decide, by decide, by decide, by decide, by decide, by decide, placed_recordsOk _⟩

/-- A tripped station after a loop trip, its number pending and the loop wait running. -/
def numberPending : State :=
  { timed .tripped with
    cause := { (timed .tripped).cause with
      context := some { context with number := none, origin := none, ownPart := .follower } }
    records := { recorded.records with
      slots := ⟨some { record with number := none, origin := none, ownPart := .follower }, none, none, none, none, none,
                none, none⟩ } }

theorem witness_LoopWaitAndClearWindow :
    numberPending.timers.loopWait.isSome = true
      ∧ numberPending.cause.context = some { context with number := none, origin := none, ownPart := .follower }
      ∧ (let s := { numberPending with cause := { numberPending.cause with context := some context } }
         s.timers.loopWait.isSome = true ∧ s.cause.context = some context ∧ context.number ≠ none)
      ∧ (let s := { timed .clearing with inputs := (looped .clearing).inputs }
         s.st = .clearing ∧ s.timers.clearWindow.isSome = true ∧ s.inputs.loopOthers = true
           ∧ { s.cause with clearTag := some 9 }.clearTag = some 9) := by decide

theorem witness_AgingExpiry :
    (timed .run).timers.aging.isSome = true ∧ (timed .run).st ≠ .joining
      ∧ (∀ n, n ≠ (timed .run).loader.station → ((timed .run).entry n).entry = .absent
          ∨ (((timed .run).entry n).entry = .present ∧ ((timed .run).entry n).silence < 2))
      ∧ ((timed .run).entry 5).entry ≠ .absent
      ∧ ({ (timed .run).entry 5 with silence := 2 }.aged).entry ≠ ((timed .run).entry 5).entry
      ∧ ({ (timed .run).entry 5 with entry := .silent, silence := 9 }.aged).entry = .lost := by decide

/-- `placed` with min_run 3 and drives 5 and 6 heard of, of which 6 shows `shown` and is `there`; the list still holds
three, the start mark is 5 and both drives are still waited for. -/
def grouped (st : StationState) (there : EntryState) (shown : BitVec 4) : State :=
  let six : PeerEntry := { PeerEntry.empty with
    entry := there, kind := .drive, share := some { shareRun with state := shown }, nonRunning := 2 }
  let s := placed st
  { s with
    loader := { s.loader with settings := some (block.set 0 0x234E) }
    peers := { s.peers with entries := s.peers.entries.set 6 six, participants := [3, 5, 6] }
    seq := { s.seq with startMark := some 5, confirmation := if st = .starting then [5, 6] else [] } }

/-- With 6 lost the count falls from three to two, below min_run alone; with 5 lost too it falls below min_creep. -/
theorem witness_AgingExpiry_group :
    (∀ st ∈ [StationState.starting, .breakaway, .run, .creep, .standby, .stopped, .tripped],
        (grouped st .lost 6).st = st ∧ (grouped st .lost 6).seq.startMark = some 5
        ∧ (grouped st .lost 6).inputs.loopOthers = false
        ∧ ((grouped st .lost 6).causeField .groupShort).present = false
        ∧ ((grouped st .lost 6).causeField .outOfStep).present = false
        ∧ (grouped st .lost 6).seq.intended = .run)
      ∧ (∀ st ∈ [StationState.starting, .breakaway, .run],
        (grouped st .lost 6).participantsNow = [3, 5] ∧ (grouped st .lost 6).count = 3
        ∧ (grouped st .lost 6).cfg.minCreep = 2 ∧ (grouped st .lost 6).cfg.minRun = 3
        ∧ (let u := grouped st .lost 6
           let alone := { u with peers := { u.peers with entries := u.peers.entries.set 5 .empty } }
           alone.participantsNow = [3] ∧ alone.count = 3 ∧ alone.seq.confirmation.filter (· ∈ [3]) = []))
      ∧ (grouped .starting .lost 6).seq.confirmation = [5, 6]
      ∧ ((grouped .starting .lost 6).entry 5).shows StationState.regulating = true
      ∧ (grouped .run .present 3).participantsNow = [3, 5, 6] ∧ 2 ≤ ((grouped .run .present 3).entry 6).nonRunning
      ∧ ((grouped .standby .lost 6).entry 5).shows StationState.startingOrRunning = true
      ∧ (∀ st ∈ [StationState.breakaway, .run, .creep], st.driving = true)
      ∧ StationState.driving .tripped = false := by decide +kernel

/-- Station 3 at its fourth aging expiry of JOINING, the filtered LSTOP level active (TRIP), the supply below its
warning level and PEER_LOST standing for 6 (CLAMP both), with 5 showing `shown` and TRLOOP held by others or not. -/
def joinEnding (shown : BitVec 4) (held mute : Bool) : State :=
  let s := placed .joining { shareRun with state := shown }
  { s with
    timers := { s.timers with aging := some 0 }
    peers := { s.peers with
      joinExpiries := 3
      entries := s.peers.entries.set 6 { PeerEntry.empty with entry := .lost, kind := .drive, silence := 10 } }
    seq := { s.seq with lstop := true }
    monitor := { s.monitor with supplyLow := true }
    cause := { s.cause with actions := { s.cause.actions with peerLost := ⟨.clamp, 600⟩, supplyLow := ⟨.clamp, 700⟩ } }
    inputs := { s.inputs with loopOthers := held }
    link := { s.link with mute := mute } }

/-- The state after the aging of the fourth expiry. -/
def joinAged (s : State) : State :=
  { s with timers := { s.timers with aging := some (s.cfg.sharePeriod * 1000) } }.age

/-- A peer in RUN leads to STANDBY, one in SELFTEST to SELFTEST, and TRLOOP held, or a peer that shows TRIPPED, to
TRIPPED; with the first level still inactive and the supply well there is no rise of either action. -/
theorem witness_JoiningEnds :
    (timed .joining).timers.aging.isSome = true ∧ (timed .joining).peers.joinExpiries < 3
      ∧ (∀ shown ∈ [2, 6, 10], ∀ held ∈ [true, false], ∀ mute ∈ [true, false],
          (joinEnding shown held mute).timers.aging.isSome = true ∧ (joinEnding shown held mute).st = .joining
          ∧ (joinEnding shown held mute).peers.joinExpiries = 3 ∧ (joinEnding shown held mute).link.mute = mute
          ∧ (joinEnding shown held mute).cause.context = none
          ∧ (joinAged (joinEnding shown held mute)).joinEndState
              = (if held ∨ shown = 10 then .tripped else if shown = 6 then .standby else .selftest)
          ∧ (joinEnding shown held mute).actionOf .localStop = .trip
          ∧ ((joinEnding shown held mute).causeField .localStop).present = false
          ∧ (joinEnding shown held mute).actionOf .supplyLow = .clamp
          ∧ ((joinEnding shown held mute).causeField .supplyLow).present = false)
      ∧ ((joinAged (joinEnding 6 false true)).Stands .localStop ∧ (joinAged (joinEnding 6 false true)).Stands .supplyLow
          ∧ (joinAged (joinEnding 6 false true)).Stands .peerLost)
      ∧ (∀ c, ¬(joinAged (timed .joining)).Stands c)
      ∧ (∀ st, (placed st).RecordsOk)
      ∧ ¬(joinEnding 6 false true).IgnoresOwnClamp ((joinEnding 6 false true).clampOf .supplyLow)
      ∧ { (joinEnding 6 false true).entry 3 with foreign := true }.foreign = true := by
  refine ⟨rfl, by decide, by decide +kernel, ⟨rfl, rfl, 6, by decide, rfl, rfl, rfl⟩, fun c h => ?_, placed_recordsOk,
    ?_, rfl⟩
  · rw [stands_iff] at h
    revert h
    cases c <;> decide +kernel
  · rintro (h | h | ⟨h, _⟩) <;> exact absurd h (by decide +kernel)

/-- R15, R109 to R115, R132: at the end of joining in STANDBY the LOCAL_STOP that stands trips the station after the
first SHARE, and a CLAMP-action condition alone composes its CLAMP. -/
theorem test_joiningEndsAsConditionsStand :
    (let s := joinEnding 6 false false
     let well := { s with peers := { s.peers with entries := s.peers.entries.set 6 .empty } }
     (match exec .agingExpiry { well with monitor := { s.monitor with supplyLow := false } } with
      | .next t => t.st == .tripped && t.cause.g == 1 && (t.causeField .localStop).latched
          && (t.link.shareSlot.map (·.state)) == some 12
          && ((t.records.slots.get 0).map (·.firstCause)) == some .localStop
      | _ => false)
     && (match exec .agingExpiry { well with seq := { s.seq with lstop := false } } with
      | .next t => t.st == .standby && (t.causeField .supplyLow).latched && t.records.current.isNone
          && t.link.clampSlot == some (s.clampOf .supplyLow)
      | _ => false)) = true := by decide +kernel

theorem witness_ShareComposed :
    (timed .run).timers.share.isSome = true ∧ (timed .run).link.mute = false
      ∧ { (timed .run).link with mute := true }.mute = true := by decide

/-- Both drives balance; with the peer showing STOPPED the station balances alone; with allowances 0 the sum is 0. -/
theorem witness_BalanceTrim :
    ((timed .run).inBalance 3 = true ∧ (timed .run).balancingSet = [3, 5])
      ∧ { timed .run with peers := (placed .run { shareRun with state := 3 }).peers }.balancingSet = [3] := by
  decide

theorem witness_AllowanceIsSmallest :
    (placed .run).AllowanceOk ∧ (placed .run).limiter.allowance = 900 ∧ (placed .run).limiter.limiting = .ceiling :=
  ⟨⟨rfl, rfl⟩, rfl, rfl⟩

theorem witness_HistoryEntryTaken : (timed .run).timers.history.isSome = true := rfl

theorem witness_DemandAndStartTimers :
    (∀ st ∈ [StationState.starting, .breakaway, .run, .creep, .decel], st.startingOrRunning = true
        ∧ (timed st).inputs.loopOthers = false ∧ ((timed st).causeField .demandLoss).present = false)
      ∧ StationState.startingOrRunning .stopped = false ∧ (timed .run).timers.demand.isSome = true
      ∧ (timed .starting).timers.startWindow.isSome = true
      ∧ { (timed .starting).seq with startMark := some 5 }.startMark = some 5 := by decide

theorem witness_StageAdvances :
    (timed .breakaway).timers.stage.isSome = true ∧ { (timed .breakaway).limiter with stage := 2 }.stage < 3
      ∧ { (timed .breakaway).limiter with stage := 3 }.stage = 3
      ∧ ((timed .breakaway).causeField .noBreakaway).present = false ∧ (timed .run).st ≠ .breakaway := by decide

/-- `placed` with the clamp record active, every cause as `causes` gives it. -/
def clamped (causes : CauseSet) : State :=
  { placed .run with
    limiter := { (placed .run).limiter with clamp := { ClampRecord.reset with active := true, level := 800 } }
    cause := { (placed .run).cause with
      causes := causes, actions := { block.actions with surge := ⟨.clamp, 600⟩, peerLost := ⟨.clamp, 600⟩ } } }

theorem witness_SurgeAndClampHoldTimers :
    (timed .run).timers.surge.isSome = true
      ∧ (let s := clamped .reset
         s.limiter.clamp.active = true ∧ ∀ c ∈ Cause.all, s.actionOf c = .clamp → (s.causeField c).present = false)
      ∧ (let up : CauseField := { present := true, latched := true, count := 1 }
         let s := clamped { CauseSet.reset with surge := up, peerLost := up }
         s.actionOf .surge = .clamp ∧ (s.causeField .surge).present = true ∧ s.link.mute = false
           ∧ (s.entry s.loader.station).foreign = false ∧ 0 < s.cfg.clampHold
           ∧ s.cause.actions.level .surge < 65536
           ∧ ∀ d ∈ Cause.all, s.actionOf d = .clamp → (s.causeField d).present = true →
              s.cause.actions.level .surge < s.cause.actions.level d
                ∨ (s.cause.actions.level .surge = s.cause.actions.level d ∧ Cause.surge.code ≤ d.code)) := by
  decide +kernel

theorem witness_LocalInputs :
    (placed .run).inputs.lstopPin ≠ true ∧ (placed .run).inputs.maintPin = false
      ∧ (timed .run).st ≠ .tripped ∧ (timed .run).st ≠ .lockout ∧ (timed .run).timers.lstopFilter.isSome = true
      ∧ (timed .run).timers.maintFilter.isSome = true := by decide

theorem witness_Lockout :
    (timed .tripped).timers.lockout.isSome = true ∧ (timed .tripped).st = .tripped
      ∧ (timed .tripped).timers.maintFilter.isSome = true ∧ (timed .stopped).st ≠ .tripped
      ∧ (timed .tripped).timers.lstopFilter.isSome = true ∧ recorded.cause.context.isSome = true
      ∧ ((timed .tripped).causeField .localStop).present = false ∧ (timed .tripped).inputs.lstopPin = false
      ∧ { (timed .tripped).inputs with lstopPin := true }.lstopPin = true
      ∧ (timed .lockout).timers.lstopFilter.isSome = true ∧ (timed .lockout).inputs.lstopPin = false
      ∧ (timed .lockout).seq.maint = false ∧ (timed .lockout).inputs.loopOthers = false
      ∧ (timed .lockout).st = .lockout ∧ (timed .lockout).inputs.maintPin = false
      ∧ (timed .lockout).seq.lstop = false ∧ { (timed .lockout).seq with lstop := true }.lstop = true
      ∧ (∀ c ∈ Cause.all, c.resetOnly = true → ((timed .lockout).causeField c).latched = false)
      ∧ (∀ c ∈ Cause.all, (timed .lockout).actionOf c = .trip → ((timed .lockout).causeField c).present = false)
      ∧ Cause.resetOnly .linkTransmit = true
      ∧ { (timed .lockout).inputs with maintPin := true }.maintPin = true := by decide +kernel

/-- Station 3 in LOCKOUT, both levels about to be inactive, OVERCURRENT present, the loop held or not. -/
def lockedOut (loop : Bool) : State :=
  { (timed .lockout).setCause .overcurrent { present := true, latched := false, count := 0 } with
    inputs := { (timed .lockout).inputs with loopOthers := loop } }

theorem witness_Lockout_trips :
    (∀ loop ∈ [true, false], (lockedOut loop).st = .lockout ∧ (lockedOut loop).inputs.loopOthers = loop
        ∧ (lockedOut loop).timers.lstopFilter.isSome = true ∧ (lockedOut loop).timers.maintFilter.isSome = true
        ∧ (lockedOut loop).inputs.lstopPin = false ∧ (lockedOut loop).inputs.maintPin = false
        ∧ (lockedOut loop).seq.lstop = false ∧ (lockedOut loop).seq.maint = false
        ∧ (∀ c ∈ Cause.all, c.resetOnly = true → ((lockedOut loop).causeField c).latched = false)
        ∧ (lockedOut loop).actionOf .overcurrent = .trip ∧ ((lockedOut loop).causeField .overcurrent).present = true
        ∧ Cause.overcurrent ∉ [Cause.localStop, .noBreakaway, .jam, .surge, .groupShort, .outOfStep])
      ∧ (looped .lockout).inputs.loopOthers = true
      ∧ (∀ c ∈ Cause.all, ((looped .lockout).causeField c).present = false) := by decide +kernel

/-- R40, R105: leaving LOCKOUT for TRIPPED with LINK_TRANSMIT latched keeps that latch and OVERCURRENT's and clears
SELFTEST_FAIL's. -/
theorem test_lockoutLeftReady :
    (let latch : CauseField := { present := false, latched := true, count := 1 }
     let s := (((timed .lockout).setCause .linkTransmit latch).setCause .overcurrent latch).setCause .selftestFail latch
     match exec (.localInputFiltered .maint) s with
      | .next t => t.st == .tripped && (t.causeField .linkTransmit).latched && (t.causeField .overcurrent).latched
          && !(t.causeField .selftestFail).latched && t.ready
      | _ => false) = true := by decide +kernel

/-- The state in which a frame of class `cls` from station `origin` reaches its owner. -/
def reached (s : State) (origin : Station) (cls : BitVec 3) : State :=
  s.countValid.refreshPeer origin cls

theorem witness_FrameRefreshesSender :
    (placed .run).link.active = true ∧ (placed .run).link.listening = true
      ∧ (4 : Station) ≠ (placed .run).loader.station ∧ orderKindDefined 7 = false
      ∧ ((placed .run).entry 4).entry = .present ∧ ((placed .run).entry 4).kind = .other
      ∧ (∀ cls ∈ [classOrder, classDemand, classQuery], ((reached (placed .run) 5 cls).entry 5).kind = .drive)
      ∧ ((reached (placed .run) 4 classClamp).entry 4).kind = .other := by decide +kernel

theorem witness_DuplicatesFound :
    frameOfCommand (.shareFrame 3 shareRun) = some ⟨classShare, 3, shareRun.words⟩
      ∧ (placed .run).loader.station = 3 ∧ (placed .run).link.active = true ∧ State.reset.link.active = false
      ∧ (placed .run).link.listening = true ∧ { (placed .run).link with listening := false }.listening = false
      ∧ (placed .joining).st = .joining ∧ (placed .run).st.joined = true ∧ (placed .run).st.canTrip = true
      ∧ ((placed .run).causeField .duplicate).present = false ∧ (placed .run).link.mute = false
      ∧ { (placed .run).link with mute := true }.mute = true
      ∧ (((placed .run).setCause .duplicate { present := true, latched := true, count := 1 }).causeField
          .duplicate).present = true := by decide +kernel

/-- A DEMAND, ORDER or QUERY of station 4 and a TRIP or CLAMP of station 5 reach their owners in every state. -/
theorem witness_Reaches (st : StationState) :
    (placed st).Reaches (reached (placed st) 4 classDemand) 4 classDemand
      ∧ (placed st).Reaches (reached (placed st) 4 classOrder) 4 classOrder
      ∧ (placed st).Reaches (reached (placed st) 4 classQuery) 4 classQuery
      ∧ (placed st).Reaches (reached (placed st) 5 classTrip) 5 classTrip
      ∧ (placed st).Reaches (reached (placed st) 5 classClamp) 5 classClamp := by
  cases st <;> exact ⟨⟨rfl, rfl, by decide, rfl, rfl⟩, ⟨rfl, rfl, by decide, rfl, rfl⟩,
    ⟨rfl, rfl, by decide, rfl, rfl⟩, ⟨rfl, rfl, by decide, rfl, rfl⟩, ⟨rfl, rfl, by decide, rfl, rfl⟩⟩

theorem witness_DemandNoted :
    ∀ st ∈ [StationState.joining, .tripDecel, .tripped, .clearing, .standby, .lockout],
      (reached (placed st) 4 classDemand).st = st ∧ st.blocksRun = true := by decide +kernel

/-- Two participants are enough to run; alone there is one too few; the mark 5 is the DEMAND's own. -/
theorem witness_DemandStarts :
    (let u := reached (placed .stopped) 4 classDemand
     u.st = .stopped ∧ u.peers.participants = u.participantsNow ∧ demandMode demandRun.mode = some .run
       ∧ u.seq.startMark ≠ some demandRun.sequence ∧ (u.causeField .selftestFail).latched = false
       ∧ u.cfg.minCreep ≤ u.count ∧ u.cfg.minRun ≤ u.count ∧ u.others ≠ [])
      ∧ (let alone := reached (placed .stopped { shareRun with notReady := true }) 4 classDemand
         alone.count < alone.cfg.minCreep ∧ alone.peers.participants = alone.participantsNow ∧ alone.others = [])
      ∧ { (placed .stopped).seq with startMark := some 5 }.startMark = some demandRun.sequence := by decide +kernel

theorem witness_DemandChangesMode :
    (∀ st ∈ [StationState.starting, .breakaway, .run, .creep, .decel, .selftest],
      (reached (placed st) 4 classDemand).st = st
        ∧ (reached (placed st) 4 classDemand).peers.participants = (reached (placed st) 4 classDemand).participantsNow
        ∧ (reached (placed st) 4 classDemand).inputs.loopOthers = false
        ∧ (st ≠ .selftest →
            (reached (placed st) 4 classDemand).cfg.minCreep ≤ (reached (placed st) 4 classDemand).count))
      ∧ demandMode 0 = none ∧ demandMode 1 = some .run ∧ demandMode 2 = some .creep
      ∧ (placed .starting).followed = some .run ∧ (placed .creep).followed = some .creep := by decide +kernel

theorem witness_SelftestAndRestartOrdered :
    (∀ st ∈ [StationState.stopped, .tripped, .standby, .lockout, .run],
        (reached (placed st) 4 classOrder).st = st ∧ (reached (placed st) 4 classOrder).addressed order.target = true)
      ∧ (placed .stopped).inputs.loopOthers = false ∧ (placed .stopped).addressed 15 = true
      ∧ (4 : BitVec 4).toNat ≠ (placed .run).loader.station.val := by decide +kernel

theorem witness_ClearTrip :
    (let u := reached (placed .tripped) 4 classOrder
     u.st = .tripped ∧ order.argument = u.cause.g ∧ u.cause.context = none
       ∧ (∀ c ∈ Cause.all, c.resetOnly = true → (u.causeField c).latched = false)
       ∧ (∀ c ∈ Cause.all, u.actionOf c = .trip → (u.causeField c).latched = true → (u.causeField c).present = false))
      ∧ (reached (placed .tripDecel) 4 classOrder).st = .tripDecel
      ∧ { order with argument := 1 }.argument ≠ (reached (placed .tripped) 4 classOrder).cause.g
      ∧ (looped .tripped).inputs.loopOthers = true ∧ (placed .tripped).inputs.loopOthers = false
      ∧ (let latch : CauseField := { present := true, latched := true, count := 1 }
         Cause.resetOnly .duplicate = true ∧ (((placed .tripped).setCause .duplicate latch).causeField .duplicate).latched
           = true ∧ (placed .tripped).actionOf .jam = .trip
           ∧ (((placed .tripped).setCause .jam latch).causeField .jam).present = true) := by decide +kernel

/-- Slot 7 is the last and 8 is none; four kept are the most; slot 0 of `recorded` holds an unkept CLOSED record. -/
theorem witness_RecordKept :
    (reached recorded 4 classOrder).st ≠ .joining ∧ 7 < (8 : Word).toNat
      ∧ (reached recorded 4 classOrder).slot 7 = none ∧ (reached recorded 4 classOrder).slot 0 = some record
      ∧ keptCount (reached recorded 4 classOrder).records.slots < 4
      ∧ (let kept := some { record with keep := true }
         keptCount ⟨kept, kept, kept, kept, some record, none, none, none⟩ = 4)
      ∧ (placed .joining).st = .joining
      ∧ { record with closed := false, keep := true }.closed = false := by decide +kernel

theorem witness_RecordReleased :
    (reached recorded 4 classOrder).records.slots.get 0 = some record ∧ record.keep = false ∧ record.closed = true
      ∧ (let later := some { record with serial := 2 }
         let full : Eight (Option TripRecord) := ⟨some record, later, later, later, later, later, later, later⟩
         (∀ j, (full.get j).isSome = true) ∧ ∀ j, j ≠ 0 → (full.get j).any (fun x => decide (record.serial < x.serial)))
      := by decide +kernel

theorem witness_RecordsDiscarded :
    (reached recorded 4 classOrder).addressed order.target = true ∧ recorded.records.current = some 0
      ∧ recorded.records.slots.get 1 = none ∧ (placed .run).records.current = none := by decide +kernel

theorem witness_StateChangeEffects :
    ∀ st ∈ [StationState.breakaway, .run, .creep, .decel, .starting, .clearing, .selftest],
      (placed st).st = st ∧ st ≠ .stopped ∧ st ≠ .tripped := by decide

theorem witness_RisesActedOn :
    (∀ st ∈ [StationState.run, .tripped, .clearing, .lockout], (placed st).st.joined = true
        ∧ ((placed st).causeField .jam).present = false ∧ (placed st).actionOf .jam = .trip)
      ∧ StationState.joined .joining = false ∧ StationState.canTrip .run = true
      ∧ (placed .run).cause.context = none ∧ recorded.cause.context.isSome = true
      ∧ (placed .run).actionOf .vibAlert = .alert ∧ (placed .run).actionOf .surge = .clamp
      ∧ (placed .run).link.mute = false ∧ (timed .run).timers.jam.isSome = true
      ∧ (timed .run).timers.silence.isSome = true ∧ (timed .run).st.cruising = true := by decide +kernel

/-- While MUTE a CLAMP of 600 for SURGE is applied where no clamp, or one of 800, is active, and ignored above one of
500. -/
theorem witness_RisesActedOn_mute :
    (let s := { clamped .reset with link := { (clamped .reset).link with mute := true } }
     s.st.joined = true ∧ (s.causeField .surge).present = false ∧ s.actionOf .surge = .clamp ∧ s.link.mute = true
       ∧ ¬s.IgnoresOwnClamp (s.clampOf .surge)
       ∧ { s with limiter := { s.limiter with clamp := { s.limiter.clamp with level := 500 } } }.IgnoresOwnClamp
           (s.clampOf .surge)) := by
  refine ⟨rfl, rfl, rfl, rfl, ?_, Or.inr (Or.inr ⟨rfl, by decide +kernel⟩)⟩
  rintro (h | h | ⟨_, h⟩) <;> exact absurd h (by decide +kernel)

/-- Log 50: a TRIP-action rise in CLEARING without a trip context is latched and counted and returns to TRIPPED. -/
theorem test_riseInClearingWithoutContext :
    (match exec .echoFault { placed .clearing with
        link := { (placed .clearing).link with transmitter := some (.share shareRun), consecutive := 3 } } with
      | .next t => t.st == .tripped && (t.causeField .linkTransmit).latched && t.cause.context.isNone
          && t.records == (placed .clearing).records && t.cause.g == 0
      | _ => false) = true := by decide +kernel

/-- `recorded` in RUN, its records in order (witness_StepKeepsRecords). -/
theorem witness_OriginTrip :
    (placed .run).st.canTrip = true ∧ (placed .run).RecordsOk
      ∧ (State.originTrip (placed .run) .jam 0).st = .tripped := by
  exact ⟨rfl, placed_recordsOk _, rfl⟩

theorem witness_TripFrameFollowed :
    (∀ st ∈ [StationState.run, .lockout, .joining], newer trip1.number (reached (placed st) 5 classTrip).cause.g = true)
      ∧ (reached (placed .run) 5 classTrip).st.canTrip = true
      ∧ newer trip1.number { (placed .run).cause with g := 1 }.g = false := by decide +kernel

theorem witness_TripFrameWhileTripped :
    (let u := reached recorded 5 classTrip
     u.st.isTripped = true ∧ u.cause.context = some context ∧ context.number = some trip1.number
       ∧ context.confirmed = false ∧ newer trip1.number u.cause.g = false
       ∧ newer { trip1 with number := 2 }.number u.cause.g = true)
      ∧ (let c := { context with confirmed := true }
         c.origin ≠ some 5 ∧ (5 : Station) ∉ c.coOrigins.map (·.station))
      ∧ { context with number := none }.number = none
      ∧ (∀ st ∈ [StationState.tripDecel, .tripped, .clearing], st.isTripped = true) := by decide +kernel

theorem witness_ClampAndRollTaken :
    (let u := reached (placed .run) 5 classClamp
     (u.entry 5).foreign = false ∧ clamp800.hold ≠ 0 ∧ u.limiter.clamp.active = false)
      ∧ (clamped .reset).limiter.clamp.active = true
      ∧ clamp800.level.toNat ≤ (clamped .reset).limiter.clamp.level
      ∧ (clamped .reset).limiter.clamp.level < { clamp800 with level := 801 }.level.toNat
      ∧ (placed .joining).st = .joining ∧ (5 : Station) ≠ (placed .joining).loader.station := by decide +kernel

/-- Station 3 waits for 5 alone, or is in BREAKAWAY, and 5 keeps its place in the group. -/
theorem witness_ShareTaken :
    (∀ st ∈ [StationState.starting, .breakaway, .joining, .run, .tripped],
        (placed st).link.active = true ∧ (placed st).link.listening = true ∧ (placed st).peerLostNow = false)
      ∧ (∀ st ∈ [StationState.starting, .breakaway],
          (placed st).peers.participants = (placed st).participantsNow ∧ (5 : Station) ∈ (placed st).peers.participants
            ∧ shareRun.signature = (placed st).cfg.signature ∧ shareRun.notReady = false
            ∧ (∀ code ∈ [3, 4, 5, 6, 7, 8],
                shareShows { shareRun with state := code } StationState.participating = true)
            ∧ (placed st).cfg.minCreep ≤ (placed st).count
            ∧ ∀ n ∈ (placed st).peers.participants, n ≠ 5 → ((placed st).entry n).nonRunning < 2)
      ∧ newer shareRun.g (placed .run).cause.g = true ∧ (placed .breakaway).limiter.stage < (1 : BitVec 2).toNat
      ∧ StationState.isTripped .tripped = true := by decide +kernel

/-- A confirmation set of 5 alone ends with 5; one of 3 and 5 does not. -/
theorem witness_ShareTaken_confirming :
    (let q := { (placed .starting).seq with confirmation := [5] }
     (5 : Station) ∈ q.confirmation ∧ q.confirmation.filter (· ≠ 5) = []
       ∧ ∀ n ∈ q.confirmation, n ∈ (placed .starting).peers.participants)
      ∧ ([5, 3] : List Station).filter (· ≠ 5) ≠ [] := by decide +kernel

/-- 5 stays in the group and in the balancing set while the station runs, and OUT_OF_STEP may act either way. -/
theorem witness_ShareTaken_running :
    (∀ st ∈ [StationState.run, .creep, .decel],
          (placed st).peers.participants = (placed st).participantsNow ∧ (5 : Station) ∈ (placed st).peers.participants
            ∧ (placed st).loader.station ∈ (placed st).peers.participants ∧ st.regulating = true
            ∧ (placed st).cfg.minCreep ≤ (placed st).count
            ∧ ∀ n ∈ (placed st).peers.participants, n ≠ 5 → ((placed st).entry n).nonRunning < 2)
      ∧ StationState.driving .run = true ∧ ((placed .run).causeField .outOfStep).present = false
      ∧ ((placed .run).entry 5).nonRunning = 0 ∧ 1 ≤ { (placed .run).entry 5 with nonRunning := 1 }.nonRunning
      ∧ (placed .run).cause.actions.outOfStep.action = .clamp
      ∧ { block.actions with outOfStep := ⟨.trip, 0⟩ }.outOfStep.action = .trip := by decide +kernel

/-- The state after the re-evaluation that a SHARE of `origin` leads to. -/
def afterShare (s : State) (origin : Station) (p : SharePayload) : State :=
  (s.withEntry origin { kind := .drive, entry := .present, foreign := p.signature != s.cfg.signature,
                        silence := 0, share := some p,
                        nonRunning := if p.state = 3 ∨ p.state = 4 then
                            min 255 ((s.entry origin).nonRunning + 1) else 0,
                        heard := min 65535 ((s.entry origin).heard + 1) }).peerCauses.reevaluate

/-- A SHARE of 5 that is not ready, of 5 that no longer participates and of 5 with another signature shortens the list;
one of 6 lengthens it, and in BREAKAWAY 6 turns or shows a higher stage. -/
theorem witness_ShareTaken_listChanged :
    (∀ p ∈ [{ shareRun with notReady := true }, { shareRun with state := 10 }, { shareRun with signature := 8 }],
        (afterShare (placed .stopped) 5 p).peers.participants = [3] ∧ (placed .stopped).peers.participants = [3, 5]
        ∧ (p.state = 10 → newer p.g 1 = false) ∧ (afterShare (placed .stopped) 5 p).st = .stopped)
      ∧ (∀ p ∈ [shareRun, { shareRun with state := 7 }, { shareRun with state := 8 },
                { shareRun with state := 5, stage := 2 }],
          (afterShare (placed .breakaway) 6 p).st = .breakaway
          ∧ (afterShare (placed .breakaway) 6 p).peers.participants = [3, 5, 6]
          ∧ (placed .breakaway).peers.participants = [3, 5]
          ∧ (afterShare (placed .breakaway) 6 p).cfg.minCreep ≤ (afterShare (placed .breakaway) 6 p).count
          ∧ (afterShare (placed .breakaway) 6 p).limiter.stage < 2)
      ∧ ¬(placed .run).CallsFrom (placed .run).cause.g shareRun := by
  refine ⟨by decide +kernel, by decide +kernel, fun h => ?_⟩
  exact absurd h.2.1 (by decide)

/-- The follower trip is called for in RUN, its record store in order; a pending number is settled with a current record
and without one. -/
theorem witness_ShareTaken_follower :
    (let p := { shareRun with state := 9 }
     (placed .run).CallsFrom (placed .run).cause.g p ∧ StationState.canTrip .run = true ∧ (placed .run).RecordsOk
       ∧ numberPending.CallsFrom numberPending.cause.g p ∧ numberPending.st.isTripped = true
       ∧ (numberPending.cause.context.map (·.number)) = some none ∧ numberPending.records.current = some 0
       ∧ (numberPending.records.slots.get 0).isSome = true ∧ (placed .tripped).records.current = none
       ∧ numberPending.peerLostNow = false) :=
  ⟨⟨rfl, Or.inl rfl, rfl⟩, rfl, placed_recordsOk _, ⟨rfl, Or.inl rfl, by decide⟩, rfl, rfl, rfl, rfl, rfl, rfl⟩

/-- 5 is the last to confirm while 6, a participant that has confirmed, already shows RUN. -/
theorem witness_ShareTaken_othersTurn :
    (let g := grouped .starting .present 6
     let s := { g with
       peers := { g.peers with entries := g.peers.entries.set 6 { g.entry 6 with nonRunning := 0 } }
       seq := { g.seq with confirmation := [5] } }
     s.peers.participants = s.participantsNow ∧ (5 : Station) ∈ s.peers.participants ∧ s.cfg.minCreep ≤ s.count
       ∧ (∀ n ∈ s.peers.participants, n ≠ 5 → (s.entry n).nonRunning < 2)
       ∧ s.seq.confirmation.filter (· ≠ 5) = [] ∧ (6 : Station) ∈ s.peers.participants
       ∧ (s.entry 6).shows StationState.regulating = true
       ∧ (match exec (.shareFrame 5 { shareRun with state := 4 }) s with
          | .next t => t.st == .run
          | _ => false) = true) := by decide +kernel

theorem witness_QueryAnswered :
    (let u := reached (placed .run) 4 classQuery
     query.target.toNat = u.loader.station.val ∧ u.st ≠ .joining ∧ u.link.mute = false ∧ u.link.queue.length < 4)
      ∧ 4 ≤ (List.replicate 4 (⟨0, 0, 0, []⟩ : ReplyPayload)).length := by decide +kernel

theorem witness_ReplyContents :
    query.index = 0 ∧ query.sub = 0 ∧ { query with index := 24 }.index.toNat = Cause.foreignPeer.code
      ∧ ((placed .run).causeField .foreignPeer).count ≤ 255 ∧ ((placed .run).entry 5).silence ≤ 10
      ∧ ((placed .run).entry 5).share = some shareRun ∧ ((placed .run).entry 4).share = none
      ∧ recorded.records.slots.get 0 = some record ∧ recorded.records.slots.get 7 = none
      ∧ record.history.length ≤ { query with sub := 47 }.sub.toNat ∧ record.subsequent[3]? = none
      ∧ recorded.records.ring.length ≤ { query with index := 47 }.index.toNat
      ∧ (∀ c ∈ Cause.all, ((placed .run).causeField c).latched = false)
      ∧ (let latch : CauseField := { present := false, latched := true, count := 1 }
         let s := ((placed .run).setCause .loop latch).setCause .jam latch
         s.actionOf .jam = .trip ∧ s.actionOf .loop = .trip ∧ s.lowestLatched = 7) := by decide +kernel

theorem witness_FramesSent :
    (placed .run).link.active = true ∧ (placed .run).link.mute = false ∧ (placed .run).link.transmitter = none
      ∧ (placed .run).link.idle = 10 ∧ { (placed .run).link with idle := 9 }.idle ≠ 10
      ∧ (placed .run).link.bitMicros = 0 ∧ (placed .run).link.lineBusy = false
      ∧ 0 < { (placed .run).link with bitMicros := 3 }.bitMicros
      ∧ { (placed .run).link with bitMicros := 3 }.bitMicros < (placed .run).cfg.bitTime
      ∧ (∀ f ∈ [TxFrame.trip trip1, .clamp clamp800, .share shareRun, .reply ⟨0, 0, 0, []⟩],
          { (placed .run).link with transmitter := some f }.transmitter = some f)
      ∧ (placed .run).loader.station ≠ 5
      ∧ (let c := { context with confirmed := true, origin := some 5 }
         c.confirmed = true ∧ c.number = some trip1.number ∧ c.origin ≠ some 3
           ∧ (3 : Station) ∉ c.coOrigins.map CoOrigin.station
           ∧ { c with coOrigins := [⟨3, 1⟩] }.coOrigins.map CoOrigin.station = [3])
      ∧ newer trip1.number recorded.cause.g = false ∧ newer trip1.number (placed .lockout).cause.g = true
      ∧ StationState.canTrip .run = true
      ∧ (let l := { (placed .run).link with shareSlot := some shareRun }
         l.tripSlot = none ∧ l.clampSlot = none ∧ l.shareSlot = some shareRun)
      ∧ ((placed .run).entry (placed .run).loader.station).foreign = false ∧ clamp800.hold ≠ 0
      ∧ (placed .run).limiter.clamp.active = false ∧ recorded.st.isTripped = true
      ∧ recorded.cause.context = some context ∧ context.number = some trip1.number ∧ context.confirmed = false
      ∧ { (placed .run).link with mute := true }.mute = true
      ∧ (placed .run).inReset = false ∧ (placed .run).link.abortBits = 0
      ∧ { (placed .run).link with abortBits := 8 }.abortBits ≠ 0
      ∧ State.reset.inReset = false ∧ State.reset.link.transmitter = none ∧ State.reset.link.abortBits = 0
      ∧ State.reset.link.active = false
      ∧ { State.reset with monitor := { State.reset.monitor with clockLost := true } }.inReset = true := by decide

theorem witness_EchoFaultsAndDiscards :
    (∀ f ∈ [TxFrame.trip trip1, .clamp clamp800, .share shareRun, .reply ⟨0, 0, 0, []⟩],
      let l := { (placed .run).link with transmitter := some f, consecutive := 2 }
      l.transmitter = some f ∧ l.consecutive < 3)
      ∧ (placed .run).link.transmitter = none ∧ (placed .run).link.mute = false ∧ (placed .run).RecordsOk
      ∧ (placed .run).st.canTrip = true ∧ State.reset.link.active = false
      ∧ (placed .run).link.active = true ∧ (placed .run).link.listening = true
      ∧ { (placed .run).link with listening := false }.listening = false
      ∧ receive [] = .noStart
      ∧ { (placed .run).link with consecutive := 3 }.consecutive = 3 ∧ (placed .run).st.joined = true
      ∧ ((placed .run).causeField .linkTransmit).present = false ∧ StationState.joined .joining = false
      ∧ (∃ used, receive [false, true, true, true, true, true] = .discarded .wrongInsertedBit used) :=
  ⟨by decide, rfl, rfl, placed_recordsOk _, rfl, rfl, rfl, rfl, rfl, rfl, rfl, rfl, rfl, rfl, ⟨_, rfl⟩⟩

/-- The discards and the valid frame that a receiver may read from the line. -/
theorem witness_receive_valid : ∃ f, receive (Frame.lineBits ⟨classQuery, 4, [0, 0]⟩) = .valid f :=
  ⟨⟨classQuery, 4, [0, 0]⟩, by decide +kernel⟩

theorem witness_StartUp :
    State.reset.st = .loading ∧ State.reset.timers.settle.isSome = true
      ∧ { State.reset.loader with step := .reading }.step = .reading ∧ blockBytes.length = 130
      ∧ checkBlock blockBytes = .ok block ∧ (List.replicate 130 (0xFF : Byte)).length = 130
      ∧ checkBlock (List.replicate 130 0xFF) = .error .blank
      ∧ State.reset.loader.step ≠ .reading := by
  refine ⟨rfl, rfl, rfl, by decide +kernel, test_blockPasses, rfl, ?_, by decide⟩
  have h := test_blankBlock
  split at h
  · next e he => rw [he, beq_iff_eq.mp h]
  · exact nomatch h

/-- `block` with b1 above b2, which is inconsistent. -/
def blockTangled : Settings :=
  blockA ++ blockB.set 13 700 ++ blockC ++ blockD

/-- `block` with a silence time of 5 ms, below its range. -/
def blockShortSilence : Settings :=
  blockA ++ blockB ++ blockC ++ blockD.set 3 5

/-- The bytes of 64 words and a check word. -/
def bytesOf (w : Settings) (check : Word) : List Byte :=
  (w ++ [check]).flatMap fun (x : Word) => [x.extractLsb' 8 8, x.extractLsb' 0 8]

/-- What a block answers whose check word is right, by its ranges and its consistency. -/
theorem checkBlock_of (w : Settings) (check : Word) (ff : (bytesOf w check).all (· == 0xFF) = false)
    (words : wordsOfBytes (bytesOf w check) = w ++ [check]) (front : (w ++ [check]).take 64 = w)
    (last : (w ++ [check]).getD 64 0 = check) :
    checkBlock (bytesOf w check) =
      if w.crc ≠ check then .error .checkWord
      else if w.inRange = false then .error .ranges
      else if w.consistent = false then .error .consistency
      else .ok w := by
  simp only [checkBlock, ff, words, front, last, Bool.false_eq_true, if_false]

/-- Each check of R164 after the first has a block that fails it and none before it. -/
theorem witness_StartUp_checks :
    checkBlock (bytesOf block 0) = .error .checkWord
      ∧ checkBlock (bytesOf blockShortSilence 0xA721) = .error .ranges
      ∧ checkBlock (bytesOf blockTangled 0x7F62) = .error .consistency := by
  have a : (bitsOfWords blockA).foldl crcBit 0xFFFF = 33793 := by decide +kernel
  have b : (bitsOfWords blockB).foldl crcBit 33793 = 60700 := by decide +kernel
  have c : (bitsOfWords blockC).foldl crcBit 60700 = 48277 := by decide +kernel
  have d : (bitsOfWords (blockD.set 3 5)).foldl crcBit 48277 = 42785 := by decide +kernel
  have b' : (bitsOfWords (blockB.set 13 700)).foldl crcBit 33793 = 1398 := by decide +kernel
  have c' : (bitsOfWords blockC).foldl crcBit 1398 = 52763 := by decide +kernel
  have d' : (bitsOfWords blockD).foldl crcBit 52763 = 32610 := by decide +kernel
  have short : blockShortSilence.crc = 0xA721 := by
    unfold bitsOfWords at a b c d
    simp only [Settings.crc, crc16, blockShortSilence, bitsOfWords, List.flatMap_append, List.foldl_append, a, b, c, d]
    decide
  have tangled : blockTangled.crc = 0x7F62 := by
    unfold bitsOfWords at a b' c' d'
    simp only [Settings.crc, crc16, blockTangled, bitsOfWords, List.flatMap_append, List.foldl_append, a, b', c', d']
    decide
  refine ⟨?_, ?_, ?_⟩
  · rw [checkBlock_of _ _ (by decide +kernel) (by decide +kernel) (by decide +kernel) (by decide +kernel),
      test_crcOfBlock, if_pos (by decide)]
  · rw [checkBlock_of _ _ (by decide +kernel) (by decide +kernel) (by decide +kernel) (by decide +kernel),
      short, if_neg (by decide), if_pos (by decide +kernel)]
  · rw [checkBlock_of _ _ (by decide +kernel) (by decide +kernel) (by decide +kernel) (by decide +kernel),
      tangled, if_neg (by decide), if_neg (by decide +kernel), if_pos (by decide +kernel)]

theorem witness_GuardAndSupply :
    (timed .run).timers.guard.isSome = true ∧ crc16 (bitsOfWords (timed .run).cfg) = (timed .run).loader.guardWord
      ∧ { (timed .run).loader with guardWord := 0 }.guardWord ≠ crc16 (bitsOfWords (timed .run).cfg)
      ∧ (placed .run).loader.settings = some block ∧ State.reset.loader.settings = none
      ∧ (placed .faultHalt).loader.settings ≠ none ∧ (placed .faultHalt).st.joined = false := by
  have h : crc16 (bitsOfWords (timed .run).cfg) = 0xBA0D := test_crcOfBlock
  refine ⟨rfl, h, ?_, rfl, rfl, ?_, rfl⟩
  · rw [h]
    decide
  · exact fun h => (nomatch h)

theorem witness_ResetsBeginAndEnd :
    (499 < 500 ∧ 2000 ≤ 2000 ∧ 500 ≤ 1999 ∧ 1999 < 2000 ∧ 2700 ≤ 2700 ∧ 2700 < 2701) ∧
    (placed .run).monitor.supplyHeld = false ∧ (placed .run).monitor.clockLost = false
      ∧ { (placed .run).monitor with supplyHeld := true }.supplyHeld = true
      ∧ { (placed .run).monitor with clockLost := true }.clockLost = true
      ∧ (placed .run).inReset = false := by decide

/-! ### One step on small states -/

/-- R48, log 4: standstill that falls due before an edge is taken before it, and DECEL is left. -/
theorem test_standstillBeforeEdge :
    (match exec (.tachEdge .rising 2) (turning .decel 499999) with
      | .next t => t.st == .stopped
      | _ => false) = true := by decide +kernel

/-- R81, log 4: a JAM that falls due before an edge trips before it, with the speed held then. -/
theorem test_jamBeforeEdge :
    (match exec (.tachEdge .rising 2) { turning .run 1000 with
        timers := { (turning .run 1000).timers with jam := some (block.jamTime * 1000 - 1) } } with
      | .next t => t.st == .tripDecel && (t.causeField .jam).latched
      | _ => false) = true := by decide +kernel

/-- R143, R147: ten recessive bits after activation, at 4 µs each, make the controller listen and the line idle; a ROLL
that waits is then due, and goes out. -/
theorem test_idleAfterTenBits :
    (let l := { (placed .joining).link with idle := 0, listening := false }
     let s := { placed .joining with link := l }
     (s.elapse 39).link.idle = 9 ∧ (s.elapse 39).link.listening = false
       ∧ (s.elapse 40).link.idle = 10 ∧ (s.elapse 40).link.listening = true
       ∧ Instr.transmitStart .own ∉ s.composeRoll.dueEvents
       ∧ Instr.transmitStart .own ∈ (s.elapse 40).composeRoll.dueEvents) := by decide +kernel

/-- R143, R147: a controller that has not yet read ten recessive bits does not receive a frame and counts the recessive
bits that end its check word (three here) with the six end bits. -/
theorem test_idleAfterUnheardFrame :
    (let s := { placed .run with link := { (placed .run).link with idle := 2, listening := false } }
     match exec (.replyFrame 5 [24, 0]) s with
      | .next t => t == { s with link := { s.link with idle := 9 } }
      | _ => false) = true := by decide +kernel

/-- R147: a SHARE composed while another station's frame is on the line waits for that frame's end and the four gap bits,
however long the frame lasts. -/
theorem test_pendingWaitsForFrame :
    (let s := { placed .run with link := { (placed .run).link with shareSlot := some shareRun } }
     s.dueEvents.contains (.transmitStart .own)
       && (match exec (.transmitStart .another) s with
        | .next t => !(t.elapse 300).dueEvents.contains (.transmitStart .own)
            && (match exec (.replyFrame 5 [24, 0]) (t.elapse 300) with
              | .next u => !(u.elapse 15).dueEvents.contains (.transmitStart .own)
                  && (u.elapse 16).dueEvents.contains (.transmitStart .own)
              | _ => false)
        | _ => false)) = true := by decide +kernel

/-- R143: a station that becomes active while a frame is on the line reads ten recessive bits first: none while the frame
lasts, and the frame is not heard. -/
theorem test_activeAmidFrame :
    (match exec (.transmitStart .another) State.reset with
      | .next t =>
        let u := t.enterJoining block
        u.st == .joining && (u.elapse 200).link.idle == 0 && !(u.elapse 200).link.listening
          && (match exec (.replyFrame 5 [24, 0]) (u.elapse 200) with
            | .next v => v.link.idle == 9 && v.link.counters.receivedValid == 0 && (v.elapse 4).link.listening
            | _ => false)
      | _ => false) = true := by decide +kernel

/-- R149, R147: after an echo fault eight dominant bits come first, and then ten recessive ones. -/
theorem test_idleAfterAbortMark :
    (match exec .echoFault { placed .run with
        link := { (placed .run).link with idle := 0, transmitter := some (.share shareRun) } } with
      | .next t => (t.elapse 32).link.idle == 0 && (t.elapse 68).link.idle == 9 && (t.elapse 72).link.idle == 10
      | _ => false) = true := by decide +kernel

/-- R147, R148: a SHARE that becomes pending on the idle line 1 µs into a bit is sent where the next bit begins, 3 µs
later at 250 kbit/s, and not before. -/
theorem test_pendingWaitsForBitTime :
    (let s := (placed .run).elapse 1
     let t := { s with link := { s.link with shareSlot := some shareRun } }
     s.link.bitMicros = 1 ∧ (∀ n ∈ [0, 1, 2], Instr.transmitStart .own ∉ (t.elapse n).dueEvents)
       ∧ Instr.transmitStart .own ∈ (t.elapse 3).dueEvents
       ∧ (match exec (.transmitStart .own) t with | .next u => u == t | _ => false) = true) := by decide +kernel

/-- R147, R149: a frame of another station taken right after an echo fault leaves no bit of the abort mark to come, so
that the line is idle four bit times later. -/
theorem test_idleAfterFrameAfterAbortMark :
    (match exec .echoFault { placed .run with
        link := { (placed .run).link with transmitter := some (.share shareRun) } } with
      | .next t => t.link.abortBits == 8
          && (match exec (.replyFrame 5 [24, 0]) t with
            | .next u => u.link.abortBits == 0 && u.link.idle == 6 && (u.elapse 15).link.idle == 9
                && (u.elapse 16).link.idle == 10
            | _ => false)
      | _ => false) = true := by decide +kernel

/-- R38, R168: at entry to JOINING the filter of an input whose pin is active starts, and a supply below the warning
level is found low and presented by nothing yet. -/
theorem test_startUpLooksAtPinsAndSupply :
    (let s := { State.reset with inputs := { State.reset.inputs with lstopPin := true, supplyMillivolts := 2700 } }
     let t := s.enterJoining block
     t.timers.lstopFilter = some 10000 ∧ t.timers.maintFilter = none ∧ t.monitor.supplyLow = true
       ∧ t.seq.lstop = false ∧ (t.causeField .supplyLow).present = false) := by decide +kernel

/-- R167: a supply of exactly 2.70 V does not end a brown-out. -/
theorem test_brownOutEndsAboveLevel :
    (let s := { State.reset with monitor := { State.reset.monitor with supplyHeld := true } }
     exec (.brownOutEnd 2700) s = .next s
       ∧ ∃ t, exec (.brownOutEnd 2701) s = .next t ∧ t.monitor.supplyHeld = false ∧ t.timers.settle = some 20000) :=
  ⟨rfl, _, rfl, rfl, rfl⟩

/-- The step runs the command at the front and leaves the rest. -/
theorem test_stepTakesFront :
    ∃ t, step { placed .tripped with pending := [.clampHoldExpiry, .standstill] } = .next t
      ∧ t.pending = [.standstill] :=
  ⟨_, rfl, rfl⟩

/-- A sample that asks for more than the overcurrent limit trips the station from RUN (R57, R111, R114). -/
theorem test_overcurrentTrips :
    (match exec (.currentSampleArrival 1501) (turning .run 1000) with
      | .next t => t.st == .tripDecel && t.cause.g == 1 && t.lines.loopDrive && t.reg.conduction == 0
          && t.link.tripSlot == some { number := 1, causeCode := 1, stateAtTrip := 6, feedback := 1501, speed := 50 }
      | _ => false) = true := by decide +kernel

/-- R61: a step raises the reference by no more than the slew limit, 20. -/
theorem test_referenceRises :
    (match exec (.currentSampleArrival 0)
        { turning .breakaway 1000 with limiter := { (placed .breakaway).limiter with stage := 1, stageValue := 800 } }
      with
      | .next t => t.reg.reference == 20
      | _ => false) = true := by decide +kernel

/-- R64: F 100 of allowance 900 beside 500 of 800; the target is 600 · 900 / 1700 = 317 and the trim
800 · 217 / 1024 = 169. -/
theorem test_trim :
    State.trimNow { placed .run with reg := { (placed .run).reg with feedback := 100 } } = 169 := by decide +kernel

/-- R138 and R144: the fourth order kind is KEEP_RECORD, and its words come back as the command. -/
theorem test_orderWords :
    frameOfCommand (.keepRecord 4 order) = some ⟨2, 4, order.words 4⟩
      ∧ commandOfFrame ⟨2, 4, order.words 4⟩ = some (.keepRecord 4 order) := by decide +kernel

end Sys2Proof.Machine.Tests
end

section
/-!
PROOFS. A change of the station state, block by block: what `State.moveTo` leaves in each part of the state (R20 and
the owning rules), and what it does not touch. Later proofs use these and do not open the operation again.
-/

namespace Sys2Proof.Machine

section Untouched

variable (s : State) (new : StationState)

@[simp] theorem moveTo_records : (s.moveTo new).records = s.records := moveTo_cases (P := fun t => t.records = _) s new (fun _ => rfl) fun _ => rfl
@[simp] theorem moveTo_link : (s.moveTo new).link = s.link := moveTo_cases (P := fun t => t.link = _) s new (fun _ => rfl) fun _ => rfl
@[simp] theorem moveTo_loader : (s.moveTo new).loader = s.loader := moveTo_cases (P := fun t => t.loader = _) s new (fun _ => rfl) fun _ => rfl
@[simp] theorem moveTo_monitor : (s.moveTo new).monitor = s.monitor := moveTo_cases (P := fun t => t.monitor = _) s new (fun _ => rfl) fun _ => rfl
@[simp] theorem moveTo_clock : (s.moveTo new).clock = s.clock := moveTo_cases (P := fun t => t.clock = _) s new (fun _ => rfl) fun _ => rfl
@[simp] theorem moveTo_inputs : (s.moveTo new).inputs = s.inputs := moveTo_cases (P := fun t => t.inputs = _) s new (fun _ => rfl) fun _ => rfl
@[simp] theorem moveTo_free : (s.moveTo new).free = s.free := moveTo_cases (P := fun t => t.free = _) s new (fun _ => rfl) fun _ => rfl
@[simp] theorem moveTo_pending : (s.moveTo new).pending = s.pending := moveTo_cases (P := fun t => t.pending = _) s new (fun _ => rfl) fun _ => rfl
@[simp] theorem moveTo_g : (s.moveTo new).cause.g = s.cause.g := moveTo_cases (P := fun t => t.cause.g = _) s new (fun _ => rfl) fun _ => rfl
@[simp] theorem moveTo_context : (s.moveTo new).cause.context = s.cause.context := moveTo_cases (P := fun t => t.cause.context = _) s new (fun _ => rfl) fun _ => rfl
@[simp] theorem moveTo_actions : (s.moveTo new).cause.actions = s.cause.actions := moveTo_cases (P := fun t => t.cause.actions = _) s new (fun _ => rfl) fun _ => rfl
@[simp] theorem moveTo_standstill : (s.moveTo new).speed.standstill = s.speed.standstill := moveTo_cases (P := fun t => t.speed.standstill = _) s new (fun _ => rfl) fun _ => rfl
@[simp] theorem moveTo_clamp : (s.moveTo new).limiter.clamp = s.limiter.clamp := moveTo_cases (P := fun t => t.limiter.clamp = _) s new (fun _ => rfl) fun _ => rfl
@[simp] theorem moveTo_loopWait : (s.moveTo new).timers.loopWait = s.timers.loopWait := moveTo_cases (P := fun t => t.timers.loopWait = _) s new (fun _ => rfl) fun _ => rfl
@[simp] theorem moveTo_cfg : (s.moveTo new).cfg = s.cfg := moveTo_cases (P := fun t => t.cfg = _) s new (fun _ => rfl) fun _ => rfl

@[simp] theorem moveTo_actionOf (c : Cause) : (s.moveTo new).actionOf c = s.actionOf c := by
  simp [State.actionOf]

end Untouched

section Regulator

/-- The regulator at a state change: blocked with the converter (R62), carried over at the end of breakaway with the
allowance `a` of the state entered (R59). -/
def Regulator.onMove (r : Regulator) (old new : StationState) (speed a : Nat) : Regulator :=
  if old = .breakaway ∧ new.regulating = true then (if new.lines.convEn then r else r.blocked).fromBreakaway speed a
  else if new.lines.convEn then r else r.blocked

theorem onMove_feedback (r : Regulator) (old new : StationState) (speed a : Nat) :
    (r.onMove old new speed a).feedback = r.feedback := by
  unfold Regulator.onMove
  split <;> split <;> rfl

end Regulator

section Vibration

theorem onMove_vibAllowance (v : VibWatch) (w : Settings) (old new : StationState) :
    (v.onMove w old new).allowance = if new = .stopped then w.ratedCeiling else v.allowance := by
  show (if new = .stopped then _ else VibWatch.allowance (if windowEnds old new = true then v.emptied else v)) = _
  split
  · rfl
  · split <;> rfl

end Vibration

section Entries

/-- An entry at a change of state, R4: the non-running count is 0 where it is watched. -/
def PeerEntry.onMove (new : StationState) (e : PeerEntry) : PeerEntry :=
  { e with nonRunning := if new.driving then 0 else e.nonRunning }

theorem moveTo_entry {s : State} {new : StationState} (h : s.st ≠ new) (n : Station) :
    (s.moveTo new).entry n = (s.entry n).onMove new := by
  rw [moveTo_ne s h]
  exact Eight.get_map _ _ _

end Entries

section Causes

theorem get_foldl_cease (t : CauseSet) (cs : List Cause) (c : Cause) :
    (cs.foldl CauseSet.cease t).get c = { t.get c with present := (t.get c).present && !decide (c ∈ cs) } := by
  induction cs generalizing t with
  | nil => simp
  | cons d cs ih =>
    rw [List.foldl_cons, ih]
    by_cases hc : c = d
    · subst hc
      simp [CauseSet.get_cease]
    · simp [CauseSet.cease, CauseSet.get_set_ne _ _ hc, hc]

@[simp] theorem ceaseAll_causeField (s : State) (cs : List Cause) (c : Cause) :
    (s.ceaseAll cs).causeField c
      = { s.causeField c with present := (s.causeField c).present && !decide (c ∈ cs) } :=
  get_foldl_cease _ _ _

/-- The jam conditions of R80 where they are watched. -/
def State.jamHolds (s : State) : Bool :=
  s.st.cruising && s.jamConditions

theorem judgeJam_causeField (s : State) (c : Cause) :
    s.judgeJam.causeField c
      = { s.causeField c with present := (s.causeField c).present && (s.jamHolds || decide (c ≠ .jam)) } := by
  show CauseSet.get (if s.jamHolds = true then s.cause.causes else s.cause.causes.cease .jam) c = _
  cases s.jamHolds
  · rw [if_neg (by simp)]
    simpa [State.causeField] using get_foldl_cease s.cause.causes [.jam] c
  · simp [State.causeField]

/-- The allowance and the limiting contributor as R68 gives them, before the jam conditions are judged on them. -/
def State.weighed (s : State) : State :=
  s.onLimiter fun l => { l with allowance := s.contributorValue s.limitingNow, limiting := s.limitingNow }

theorem recompute_eq (s : State) : s.recompute = s.weighed.judgeJam := rfl

theorem judgeJam_jam (s : State) : s.judgeJam.timers.jam
    = if s.jamHolds = false then none
      else if s.timers.jam.isNone && !(s.causeField .jam).present then some 0 else s.timers.jam := by
  show (if (!s.jamHolds) = true then none else _) = _
  cases s.jamHolds <;> rfl

theorem moveBlocks_feedback (s : State) (new : StationState) :
    (s.moveBlocks new).reg.feedback = s.reg.feedback := by
  show (if new.lines.convEn then s.reg else s.reg.blocked).feedback = _
  split <;> rfl

theorem moveBlocks_causeField (s : State) (new : StationState) (c : Cause) :
    (s.moveBlocks new).causeField c
      = { s.causeField c with present := (s.causeField c).present && !decide (c ∈ new.endedCauses) } :=
  get_foldl_cease _ _ _

end Causes

section Balance

/-- A station in the balancing set is one of its members. -/
theorem mem_balancingSet (s : State) (n : Station) : n ∈ s.balancingSet ↔ s.inBalance n = true := by
  simp only [State.balancingSet, List.mem_filter, State.inBalance, Bool.and_eq_true, List.contains_iff_mem]
  tauto

/-- The trim of R65 as the re-evaluated list gives it. -/
theorem refreshMembers_trim (s : State) : s.refreshMembers.reg.trim
    = if s.loader.station ∈ s.refreshMembers.balancingSet ∧ 2 ≤ s.refreshMembers.balancingSet.length
      then s.reg.trim else 0 := by
  have decided : s.refreshMembers.reg.trim
      = if (s.refreshMembers.inBalance s.loader.station && decide (2 ≤ s.refreshMembers.balancingSet.length)) = true
        then s.reg.trim else 0 := rfl
  simp only [decided, mem_balancingSet, Bool.and_eq_true, decide_eq_true_eq]

end Balance

section Blocks

variable {s : State} {new : StationState} (h : s.st ≠ new)
include h

theorem moveTo_lines : (s.moveTo new).lines = new.lines := by
  rw [moveTo_ne s h]
  rfl

theorem moveTo_seq : (s.moveTo new).seq = s.seq.onMove s.st new := by
  rw [moveTo_ne s h]
  rfl

theorem moveTo_vib : (s.moveTo new).vib = s.vib.onMove s.cfg s.st new := by
  rw [moveTo_ne s h]
  rfl

theorem moveTo_speed : (s.moveTo new).speed
    = { s.speed with stageEdges := if new = .breakaway then 0 else s.speed.stageEdges } := by
  rw [moveTo_ne s h]
  rfl

theorem moveTo_gen : (s.moveTo new).gen = if new.lines.convEn then s.gen else s.gen.blocked := by
  rw [moveTo_ne s h]
  rfl

/-- The limiter but for the allowance, which `moveTo_allowanceOk` gives. -/
theorem moveTo_limiter : (s.moveTo new).limiter = { s.limiter.onMove s.cfg new with
    allowance := (s.moveTo new).limiter.allowance, limiting := (s.moveTo new).limiter.limiting } := by
  rw [moveTo_ne s h]
  rfl

/-- The timers but for the jam timer, which `moveTo_jam` gives. -/
theorem moveTo_timers : (s.moveTo new).timers
    = { s.timers.onMove s.cfg s.seq s.st new with jam := (s.moveTo new).timers.jam } := by
  rw [moveTo_ne s h]
  rfl

/-- The cause unit but for the cause set, which `moveTo_causeField` gives. -/
theorem moveTo_cause : (s.moveTo new).cause = { s.cause with
    causes := (s.moveTo new).cause.causes
    clearTag := if s.st = .clearing then none else s.cause.clearTag } := by
  rw [moveTo_ne s h]
  rfl

/-- The peer table but for the participant list, which `moveTo_participantsOk` gives. -/
theorem moveTo_peers : (s.moveTo new).peers = { s.peers with
    participants := (s.moveTo new).peers.participants
    entries := s.peers.entries.map fun _ e => e.onMove new } := by
  rw [moveTo_ne s h]
  rfl

theorem moveTo_allowanceOk : (s.moveTo new).AllowanceOk := by
  rw [moveTo_ne s h]
  exact recompute_allowance (s.moveBlocks new)

theorem moveTo_participantsOk : (s.moveTo new).ParticipantsOk := by
  rw [moveTo_ne s h]
  exact refreshMembers_settled _

/-- The regulator but for the trim, which `moveTo_trim` gives. -/
theorem moveTo_reg : (s.moveTo new).reg
    = { s.reg.onMove s.st new s.speed.speed (s.moveTo new).limiter.allowance with
        trim := (s.moveTo new).reg.trim } := by
  rw [moveTo_ne s h]
  rfl

theorem moveTo_feedback : (s.moveTo new).reg.feedback = s.reg.feedback := by
  rw [moveTo_reg h]
  exact onMove_feedback _ _ _ _ _

/-- Every block but the ones named is as it was. -/
theorem moveTo_blocks : s.moveTo new = { s with
    seq := (s.moveTo new).seq, timers := (s.moveTo new).timers, lines := (s.moveTo new).lines
    limiter := (s.moveTo new).limiter, vib := (s.moveTo new).vib, speed := (s.moveTo new).speed
    cause := (s.moveTo new).cause, reg := (s.moveTo new).reg, gen := (s.moveTo new).gen
    peers := (s.moveTo new).peers } := by
  rw [moveTo_ne s h]
  rfl

theorem moveTo_jamHolds : (s.moveTo new).jamHolds = (s.moveBlocks new).weighed.jamHolds := by
  unfold State.jamHolds State.jamConditions State.weighed
  rw [moveTo_feedback h, st_moveTo, moveTo_speed h, moveTo_cfg, onLimiter_reg, moveBlocks_feedback, moveTo_ne s h]
  rfl

/-- A cause ends with the states it belongs to, JAM with its conditions too; latch and count stay. -/
theorem moveTo_causeField (c : Cause) : (s.moveTo new).causeField c
    = { s.causeField c with
        present := (s.causeField c).present && (!decide (c ∈ new.endedCauses))
          && ((s.moveTo new).jamHolds || decide (c ≠ .jam)) } := by
  have parts : (s.moveTo new).causeField c = (s.moveBlocks new).recompute.causeField c := by
    rw [moveTo_ne s h]
    rfl
  rw [parts, recompute_eq, judgeJam_causeField, moveTo_jamHolds h, State.weighed, onLimiter_causeField,
    moveBlocks_causeField]

theorem moveTo_jam : (s.moveTo new).timers.jam
    = if (s.moveTo new).jamHolds = false then none
      else if s.timers.jam.isNone && !(s.causeField .jam).present then some 0 else s.timers.jam := by
  have parts : (s.moveTo new).timers.jam = (s.moveBlocks new).recompute.timers.jam := by
    rw [moveTo_ne s h]
    rfl
  have running : (s.moveBlocks new).weighed.timers.jam = s.timers.jam := rfl
  rw [parts, recompute_eq, judgeJam_jam, moveTo_jamHolds h, running]
  cases holds : (s.moveBlocks new).weighed.jamHolds with
  | false => rfl
  | true =>
    have cruising : new.cruising = true := (Bool.and_eq_true_iff.mp holds).1
    have kept : Cause.jam ∉ new.endedCauses := by
      cases new <;> simp [StationState.cruising] at cruising <;>
        simp [StationState.endedCauses, StationState.cruising, StationState.driving]
    rw [State.weighed, onLimiter_causeField, moveBlocks_causeField]
    simp [kept]

theorem moveTo_trim : (s.moveTo new).reg.trim
    = if s.loader.station ∈ (s.moveTo new).balancingSet ∧ 2 ≤ (s.moveTo new).balancingSet.length
      then s.reg.trim else 0 := by
  have carried : (((s.moveBlocks new).recompute).carryReference s.st new).reg.trim = s.reg.trim := by
    show (if s.st = .breakaway ∧ new.regulating = true then _ else _ : Regulator).trim = _
    have blocks : (s.moveBlocks new).reg.trim = s.reg.trim := by
      show (if new.lines.convEn then s.reg else s.reg.blocked).trim = _
      split <;> rfl
    split <;> exact blocks
  rw [moveTo_ne s h, refreshMembers_trim, carried]
  rfl

end Blocks

section Effects

variable {s : State} {new : StationState}

theorem convEn_iff (st : StationState) :
    st.lines.convEn = true ↔ st = .breakaway ∨ st = .run ∨ st = .creep ∨ st = .decel := by
  cases st <;> simp [StationState.lines]

theorem brkRel_iff (st : StationState) : st.lines.brkRel = true
    ↔ st = .breakaway ∨ st = .run ∨ st = .creep ∨ st = .decel ∨ st = .tripDecel ∨ st = .standby := by
  cases st <;> simp [StationState.lines]

theorem loopDrive_iff (st : StationState) : st.lines.loopDrive = true ↔ st = .tripDecel ∨ st = .tripped := by
  cases st <;> simp [StationState.lines]

theorem fault_iff (st : StationState) :
    st.lines.fault = true ↔ st = .tripDecel ∨ st = .tripped ∨ st = .clearing ∨ st = .faultHalt := by
  cases st <;> simp [StationState.lines]

theorem driving_iff (st : StationState) : st.driving = true ↔ st = .breakaway ∨ st = .run ∨ st = .creep := by
  cases st <;> simp [StationState.driving]

theorem cruising_iff (st : StationState) : st.cruising = true ↔ st = .run ∨ st = .creep := by
  cases st <;> simp [StationState.cruising]

/-- A station outside the running states is blocked, R53, R62. -/
theorem moveTo_blocked (h : s.st ≠ new) (disabled : new.lines.convEn = false) :
    (s.moveTo new).reg.isBlocked ∧ (s.moveTo new).gen.isBlocked := by
  have regulating : new.regulating = false := by
    by_contra running
    rw [regulating_convEn (by simpa using running)] at disabled
    cases disabled
  constructor
  · rw [moveTo_reg h]
    simp [Regulator.onMove, regulating, disabled, Regulator.isBlocked, Regulator.blocked]
  · rw [moveTo_gen h]
    simp [disabled, Generator.isBlocked, Generator.blocked]

theorem moveTo_latched (s : State) (new : StationState) (c : Cause) :
    ((s.moveTo new).causeField c).latched = (s.causeField c).latched
      ∧ ((s.moveTo new).causeField c).count = (s.causeField c).count := by
  by_cases h : s.st = new
  · rw [moveTo_eq s h]
    exact ⟨rfl, rfl⟩
  · rw [moveTo_causeField h]
    exact ⟨rfl, rfl⟩

/-- The causes that belong to a state are the five of `endedCauses`. -/
theorem endedCauses_subset (st : StationState) :
    st.endedCauses ⊆ [.noBreakaway, .jam, .surge, .groupShort, .outOfStep] := by
  cases st <;> decide

theorem moveTo_causeField_other (s : State) (new : StationState) {c : Cause}
    (hc : c ∉ [Cause.noBreakaway, .jam, .surge, .groupShort, .outOfStep]) :
    (s.moveTo new).causeField c = s.causeField c := by
  by_cases h : s.st = new
  · rw [moveTo_eq s h]
  · have notJam : c ≠ .jam := by
      rintro rfl
      simp at hc
    rw [moveTo_causeField h]
    simp [notJam, mt (@endedCauses_subset new c) hc]

/-- A cause of the state entered stays as it was. -/
theorem moveTo_causeField_kept (h : s.st ≠ new) {c : Cause} (kept : c ∉ new.endedCauses) (notJam : c ≠ .jam) :
    (s.moveTo new).causeField c = s.causeField c := by
  rw [moveTo_causeField h]
  simp [kept, notJam]

theorem moveTo_ended (h : s.st ≠ new) {c : Cause} (ended : c ∈ new.endedCauses) :
    ((s.moveTo new).causeField c).present = false := by
  rw [moveTo_causeField h]
  simp [ended]

end Effects

/-- Settles O47, block by block. -/
theorem stateChangeEffects : Obligations.StateChangeEffects := by
  unfold Obligations.StateChangeEffects
  rintro s t new h rfl
  refine ⟨st_moveTo s new, ?_, ?_, ?_, ?_, ?_, ?_, ?_, ?_, ?_, ?_, ?_, ?_, ?_, ?_, ?_, ?_, ?_, ?_, moveTo_latched s new,
    ?_, ?_, ?_, ?_, moveTo_allowanceOk h, moveTo_participantsOk h, fun c => moveTo_causeField_other s new, ?_, ?_, ?_, ?_,
    ?_, ?_, ?_⟩
  · rw [moveTo_lines h, convEn_iff]
  · rw [moveTo_lines h, brkRel_iff]
  · rw [moveTo_lines h, loopDrive_iff]
  · rw [moveTo_lines h, fault_iff]
  · rw [moveTo_lines h]
    exact moveTo_blocked h
  · rintro rfl
    rw [moveTo_limiter h, moveTo_timers h, moveTo_speed h]
    exact ⟨rfl, rfl, rfl, rfl⟩
  · intro other
    rw [moveTo_limiter h, moveTo_timers h, moveTo_speed h]
    simp [Limiter.onMove, Timers.onMove, other]
  · intro old regulating
    rw [moveTo_reg h]
    simp [Regulator.onMove, old, regulating, regulating_convEn, Regulator.fromBreakaway]
  · rw [moveTo_timers h]
    cases running : new.running <;> simp [Timers.onMove, running]
  · rw [moveTo_timers h]
    rfl
  · intro old
    rw [moveTo_timers h, moveTo_cause h]
    simp [Timers.onMove, old]
  · intro old
    rw [moveTo_timers h, moveTo_seq h]
    simp [Timers.onMove, Sequencer.onMove, old]
  · rintro rfl
    rw [moveTo_vib h, onMove_vibAllowance, if_pos rfl]
    exact ⟨rfl, by simp [VibWatch.onMove]⟩
  · intro other
    rw [moveTo_vib h, onMove_vibAllowance, if_neg other]
  · intro regulating
    rw [moveTo_vib h]
    simp [VibWatch.onMove, regulating]
  · intro ends
    rw [moveTo_vib h]
    simp [VibWatch.onMove, windowEnds, ends, VibWatch.emptied]
  · intro evaluating old
    rw [moveTo_vib h]
    simp [VibWatch.onMove, windowEnds, evaluating, old]
  · intro n
    rw [moveTo_entry h]
    simp [PeerEntry.onMove, driving_iff]
  · intro other
    exact moveTo_ended h (by simp [StationState.endedCauses, other])
  · intro notRun notCreep
    have cruising : new.cruising = false := by simp [← Bool.not_eq_true, cruising_iff, notRun, notCreep]
    refine ⟨moveTo_ended h ?_, moveTo_ended h ?_, ?_⟩
    · simp [StationState.endedCauses, cruising]
    · simp [StationState.endedCauses, cruising]
    · rw [moveTo_jam h]
      simp [State.jamHolds, cruising]
  · intro notBreakaway notRun notCreep
    have driving : new.driving = false := by
      simp [← Bool.not_eq_true, driving_iff, notBreakaway, notRun, notCreep]
    exact moveTo_ended h (by simp [StationState.endedCauses, driving])
  · exact moveTo_ended h (by simp [StationState.endedCauses])
  · rintro rfl
    exact moveTo_causeField_kept h (by decide) (by decide)
  · intro entered
    refine moveTo_causeField_kept h ?_ (by decide)
    simp [StationState.endedCauses, (driving_iff new).mpr entered]
  · intro entered
    have cruising := (cruising_iff new).mpr entered
    have kept : Cause.surge ∉ new.endedCauses ∧ Cause.jam ∉ new.endedCauses := by
      rcases entered with rfl | rfl <;> decide
    refine ⟨moveTo_causeField_kept h kept.1 (by decide), ?_⟩
    have holds : (s.moveTo new).jamHolds = true ↔ s.speed.speed < s.cfg.jamSpeed
        ∧ 0 < (s.moveTo new).limiter.allowance
        ∧ ((s.moveTo new).limiter.allowance : Int) * 95 ≤ s.reg.feedback * 100 := by
      simp [State.jamHolds, State.jamConditions, cruising, moveTo_speed h, moveTo_feedback h, and_assoc]
    dsimp only
    rw [← holds, moveTo_jam h, moveTo_causeField h]
    refine ⟨fun no => ?_, fun yes => ?_⟩
    · simp [no]
    · simp [yes, kept.2]
  · intro enabled
    rw [moveTo_lines h] at enabled
    rw [moveTo_gen h, moveTo_reg h]
    simp only [enabled, if_true, Regulator.onMove, true_and]
    split <;> exact ⟨rfl, rfl⟩
  · intro enabled carried
    rw [moveTo_lines h] at enabled
    conv_lhs => rw [moveTo_reg h]
    simp only [Regulator.onMove, if_neg carried, enabled, if_true]
  · rw [moveTo_trim h, moveTo_loader]
  · refine (moveTo_blocks h).trans ?_
    rw [State.mk.injEq]
    refine ⟨?_, moveTo_seq h, ?_, ?_, ?_, ?_, ?_, ?_, rfl, rfl, rfl, rfl, ?_, rfl, rfl, rfl, rfl, rfl⟩
    · rw [moveTo_peers h]
      simp only [PeerEntry.onMove, driving_iff]
    · rw [moveTo_speed h]
    · rw [moveTo_gen h]
      split <;> rfl
    · rw [moveTo_reg h]
      simp only [Regulator.onMove]
      split <;> split <;> rfl
    · rw [moveTo_limiter h]
      rfl
    · rw [moveTo_vib h]
      simp only [VibWatch.onMove, windowEnds, Bool.or_eq_true, Bool.not_eq_true', beq_iff_eq, bne_iff_ne]
      split <;> rfl
    · rw [moveTo_cause h]
    · rw [moveTo_timers h]
      rfl

end Sys2Proof.Machine
end

section
/-!
PROOFS. What every step keeps: a property of the peer table, the sequencer, the causes and the loader that every
landing keeps, and that start-up and the resets establish, is kept by every step. The participant list (R16, R17) and
the peer table (R2, R7) are two such properties.
-/

namespace Sys2Proof.Machine

/-- A property that reads the peer table, the sequencer, the causes and the loader alone, is kept by every landing and
by start-up, and holds as a reset begins. -/
structure Kept (P : State → Prop) : Prop where
  frame : ∀ {s t : State}, t.peers = s.peers → t.seq = s.seq → t.cause = s.cause → t.loader = s.loader → P s → P t
  lands : ∀ s t : State, Lands s t → P s → P t
  settle : ∀ straps s, P s → P (landed s (execSettleTimeExpiry straps s))
  read : ∀ bytes s, P s → P (landed s (execParameterReadComplete bytes s))
  reset : ∀ s kind, P (State.beginReset s kind)

namespace Kept

variable {P : State → Prop} (K : Kept P) {s : State}
include K

theorem answers {o : Out} (a : Answers o s) (h : P s) : P (landed s o) :=
  K.lands _ _ a.landed h

theorem endReset (h : P s) : P s.endReset := by
  unfold State.endReset
  split
  · exact h
  · exact K.frame (s := s) rfl rfl rfl rfl h

theorem orderRestart (o p) (h : P s) : P (landed s (execOrderRestart o p s)) := by
  obtain ⟨u, lands, answer | ⟨-, answer⟩⟩ := answers_orderRestart s o p
  · rw [answer]
    exact K.lands _ _ lands h
  · rw [answer]
    exact K.endReset (K.reset u _)

theorem tachEdge (edge n) (h : P s) : P (landed s (execTachEdge edge n s)) := by
  obtain ⟨t, answer, lands⟩ := answers_tachEdge s edge n
  rw [answer]
  exact K.lands _ _ lands (pass_keeps K.lands K.settle n s h)

theorem resetLinePulse (n) (h : P s) : P (landed s (execResetLinePulse n s)) := by
  have counted : P (if 500 ≤ n ∧ n < 2000 then { s with free := s.free + 1 } else s) := by
    split
    · exact K.frame (s := s) rfl rfl rfl rfl h
    · exact h
  unfold execResetLinePulse landed
  dsimp only
  split
  · exact K.endReset (K.reset _ _)
  · exact counted

theorem brownOut (h : P s) : P (landed s (execBrownOut s)) := by
  unfold execBrownOut landed
  dsimp only
  split
  · exact h
  · exact K.reset _ _

theorem brownOutEnd (n) (h : P s) : P (landed s (execBrownOutEnd n s)) := by
  unfold execBrownOutEnd landed
  dsimp only
  split
  · exact h
  · exact K.endReset (K.frame (s := s) rfl rfl rfl rfl h)

theorem clockLoss (h : P s) : P (landed s (execClockLoss s)) := by
  unfold execClockLoss landed
  dsimp only
  split
  · exact h
  · exact K.reset _ _

theorem clockReturn (h : P s) : P (landed s (execClockReturn s)) := by
  unfold execClockReturn landed
  dsimp only
  split
  · exact h
  · exact K.endReset (K.frame (s := s) rfl rfl rfl rfl h)

/-- Every command keeps the property. -/
theorem exec (c : Instr) (h : P s) : P (landed s (exec c s)) := by
  cases c with
  | currentSampleArrival x => exact K.answers (answers_currentSampleArrival s x) h
  | conductionPeriodStart => exact K.answers (answers_conductionPeriodStart s) h
  | conductionOnEnd => exact K.answers (answers_conductionOnEnd s) h
  | tachEdge edge n => exact K.tachEdge edge n h
  | standstill => exact K.answers (answers_standstill s) h
  | vibSampleArrival x stop => exact K.answers (answers_vibSampleArrival s x stop) h
  | vibSilenceExpiry => exact K.answers (answers_vibSilenceExpiry s) h
  | patternSample figures => exact K.answers (answers_patternSample s figures) h
  | loopSenseChange x => exact K.answers (answers_loopSenseChange s x) h
  | loopWaitExpiry => exact K.answers (answers_loopWaitExpiry s) h
  | clearWindowExpiry => exact K.answers (answers_clearWindowExpiry s) h
  | agingExpiry => exact K.answers (answers_agingExpiry s) h
  | shareTimerExpiry => exact K.answers (answers_shareTimerExpiry s) h
  | historyTimerExpiry => exact K.answers (answers_historyTimerExpiry s) h
  | demandTimerExpiry => exact K.answers (answers_demandTimerExpiry s) h
  | startWindowExpiry => exact K.answers (answers_startWindowExpiry s) h
  | stageTimerExpiry => exact K.answers (answers_stageTimerExpiry s) h
  | jamTimerExpiry => exact K.answers (answers_jamTimerExpiry s) h
  | surgeTimerExpiry => exact K.answers (answers_surgeTimerExpiry s) h
  | clampHoldExpiry => exact K.answers (answers_clampHoldExpiry s) h
  | lockoutTimerExpiry => exact K.answers (answers_lockoutTimerExpiry s) h
  | localInputEdge i level => exact K.answers (answers_localInputEdge s i level) h
  | localInputFiltered i => exact K.answers (answers_localInputFiltered s i) h
  | demandFrame o p => exact K.answers (answers_demandFrame s o p) h
  | orderSelftest o p => exact K.answers (answers_orderSelftest s o p) h
  | orderRestart o p => exact K.orderRestart o p h
  | clearTrip o p => exact K.answers (answers_clearTrip s o p) h
  | keepRecord o p => exact K.answers (answers_keepRecord s o p) h
  | releaseRecord o p => exact K.answers (answers_releaseRecord s o p) h
  | discardRecords o p => exact K.answers (answers_discardRecords s o p) h
  | orderUndefinedKind o kind p => exact K.answers (answers_orderUndefinedKind s o kind p) h
  | tripFrame o p => exact K.answers (answers_tripFrame s o p) h
  | clampFrame o p => exact K.answers (answers_clampFrame s o p) h
  | shareFrame o p => exact K.answers (answers_shareFrame s o p) h
  | rollFrame o p => exact K.answers (answers_rollFrame s o p) h
  | replyFrame o words => exact K.answers (answers_replyFrame s o words) h
  | queryStatus o q => exact K.answers (answers_query s o 1 q (answerStatus q)) h
  | queryCause o q => exact K.answers (answers_query s o 2 q (answerCause q)) h
  | queryPeer o q => exact K.answers (answers_query s o 3 q (answerPeer q)) h
  | queryAllowance o q => exact K.answers (answers_query s o 4 q (answerAllowance q)) h
  | queryCounters o q => exact K.answers (answers_query s o 5 q (answerCounters q)) h
  | queryRecordHead o q => exact K.answers (answers_query s o 6 q (answerRecordHead q)) h
  | queryRecordSnap o q => exact K.answers (answers_query s o 7 q (answerRecordSnap q)) h
  | queryRecordList o q => exact K.answers (answers_query s o 8 q (answerRecordList q)) h
  | queryRecordEntry o q => exact K.answers (answers_query s o 9 q (answerRecordEntry q)) h
  | queryHistory o q => exact K.answers (answers_query s o 10 q (answerHistory q)) h
  | queryNoSuchItem o item q => exact K.answers (answers_query s o item q fun _ => .noSuchItem) h
  | frameDiscard bits => exact K.answers (answers_frameDiscard s bits) h
  | transmitStart start => exact K.answers (answers_transmitStart s start) h
  | arbitrationLoss => exact K.answers (answers_arbitrationLoss s) h
  | echoFault => exact K.answers (answers_echoFault s) h
  | transmitSuccess => exact K.answers (answers_transmitSuccess s) h
  | settleTimeExpiry straps => exact K.settle straps s h
  | parameterReadComplete bytes => exact K.read bytes s h
  | guardTimerExpiry => exact K.answers (answers_guardTimerExpiry s) h
  | settingsUpset i v => exact K.answers (answers_settingsUpset s i v) h
  | supplyLevelCrossing n => exact K.answers (answers_supplyLevelCrossing s n) h
  | resetLinePulse n => exact K.resetLinePulse n h
  | brownOut => exact K.brownOut h
  | brownOutEnd n => exact K.brownOutEnd n h
  | clockLoss => exact K.clockLoss h
  | clockReturn => exact K.clockReturn h

/-- Every step keeps the property: it runs a command, or lets 1 µs pass. -/
theorem step {t : State} (h : P s) (hst : step s = .next t) : P t := by
  have ran (c : Instr) (u : State) (hu : P u) (hx : Machine.exec c u = .next t) : P t := by
    have kept := K.exec c hu
    rwa [hx] at kept
  unfold Machine.step at hst
  split at hst
  · next c rest _ => exact ran c { s with pending := rest } (K.frame (s := s) rfl rfl rfl rfl h) hst
  · split at hst
    · next hdue => exact ran _ _ (K.lands _ _ (lands_nextDue hdue) h) hst
    · cases hst
      exact K.lands _ _ (.chain (.one (.elapse s 1))) h

end Kept

/-- Outside the states in which the blocks run the list is empty, R17. -/
theorem participantsOk_iff_of_idle {s : State} (h : s.st.blocksRun = false) :
    s.ParticipantsOk ↔ s.peers.participants = [] := by
  simp [State.ParticipantsOk, State.participantsNow, h]

theorem landed_settle {P : State → Prop} (straps : BitVec 3) (s : State) (h : P s)
    (taken : s.st = .loading → P (((s.onTimers fun t => { t with settle := none }).onInputs
      fun i => { i with straps := straps }).onLoader
        fun l => { l with station := Fin.ofNat 8 straps.toNat, step := .reading })) :
    P (landed s (execSettleTimeExpiry straps s)) := by
  unfold execSettleTimeExpiry landed
  dsimp only
  split
  · exact h
  · next guard =>
    rw [not_or, Classical.not_not] at guard
    exact taken guard.2

theorem landed_read {P : State → Prop} (bytes : List Byte) (s : State) (h : P s)
    (halted : s.st = .loading → P s.haltFromLoading) (entered : s.st = .loading → ∀ w, P (s.enterJoining w)) :
    P (landed s (execParameterReadComplete bytes s)) := by
  unfold execParameterReadComplete landed
  dsimp only
  split
  · exact h
  · next guard =>
    rw [not_or, Classical.not_not] at guard
    split
    · exact halted guard.1
    · exact entered guard.1 _

theorem kept_participantsOk : Kept State.ParticipantsOk where
  frame := fun {s t} peers seq cause loader h => by
    unfold State.ParticipantsOk
    rw [peers, participantsNow_congr (s := s)]
    · exact h
    · exact congrArg Sequencer.station seq
    · rw [loader]
    · unfold State.ready State.causeField
      rw [cause]
    · intro n _
      unfold State.entry
      rw [peers]
  lands := fun _ _ h => lands_participants h
  settle := fun straps s h => landed_settle straps s h fun loading => by
    have idle : s.st.blocksRun = false := by rw [loading]; rfl
    exact (participantsOk_iff_of_idle (by exact idle)).mpr ((participantsOk_iff_of_idle idle).mp h)
  read := fun bytes s h => landed_read bytes s h
    (fun loading => moveTo_participantsOk (by show s.st ≠ _; simp [loading]))
    (fun loading w => Chain.keeps (fun _ _ => change_participants) (chain_composeRoll _)
      (moveTo_participantsOk (by show s.st ≠ _; simp [loading])))
  reset := fun _ _ => rfl

/-- The own entry from entry to JOINING on is as R2 states. -/
theorem own_ownOk (e : PeerEntry) : e.own.OwnOk := ⟨rfl, rfl, rfl, rfl, rfl⟩

theorem ok_of_ownOk {e : PeerEntry} (h : e.OwnOk) : e.Ok := by
  obtain ⟨-, entry, -, silence, -⟩ := h
  simp [PeerEntry.Ok, entry, silence]

/-- The entries at the entry to JOINING: the own one is set, the others stand. -/
theorem enterJoining_entry (s : State) (w : Settings) (loading : s.st = .loading) (n : Station) :
    (s.enterJoining w).entry n = if n = s.loader.station then (s.entry n).own else s.entry n := by
  have start : ((s.takeSettings w).onEntry s.loader.station PeerEntry.own).st ≠ .joining := by
    show s.st ≠ _
    simp [loading]
  show (((s.takeSettings w).onEntry s.loader.station PeerEntry.own).moveTo .joining).entry n = _
  rw [moveTo_entry start]
  show (Eight.get (s.peers.entries.set _ _) n).onMove .joining = _
  rw [Eight.get_set]
  split
  · next own =>
    subst own
    rfl
  · rfl

theorem enterJoining_station (s : State) (w : Settings) :
    (s.enterJoining w).loader.station = s.loader.station := by
  show (((s.takeSettings w).onEntry s.loader.station PeerEntry.own).moveTo .joining).loader.station = _
  rw [moveTo_loader]
  rfl

theorem enterJoining_peersOk (s : State) (w : Settings) (loading : s.st = .loading) (h : s.PeersOk) :
    (s.enterJoining w).PeersOk := by
  refine ⟨fun n => ?_, fun _ => ?_⟩
  · rw [enterJoining_entry s w loading]
    split
    · exact ok_of_ownOk (own_ownOk _)
    · exact h.1 n
  · rw [enterJoining_station, enterJoining_entry s w loading, if_pos rfl]
    exact own_ownOk _

/-- With the blocks idle the peer table is in order when each entry is. -/
theorem peersOk_of_idle {s : State} (idle : s.st.blocksRun = false) (h : ∀ n, (s.entry n).Ok) : s.PeersOk :=
  ⟨h, fun running => absurd running (by simp [idle])⟩

theorem kept_peersOk : Kept State.PeersOk where
  frame := fun {s t} peers seq _ loader h => by
    unfold State.PeersOk State.entry State.st at *
    rwa [peers, seq, loader]
  lands := fun _ _ lands => Chain.keeps (fun _ _ => change_peers) lands.loose
  settle := fun straps s h => landed_settle straps s h fun loading =>
    peersOk_of_idle (by show s.st.blocksRun = false; rw [loading]; rfl) h.1
  read := fun bytes s h => landed_read bytes s h
    (fun loading => move_peers _ _ (.inr rfl)
      (peersOk_of_idle (by show s.st.blocksRun = false; rw [loading]; rfl) h.1))
    (fun loading w => enterJoining_peersOk s w loading h)
  reset := fun _ _ => peersOk_of_idle rfl fun n => by fin_cases n <;> trivial

/-- Settles O8: the list is settled wherever a landing may disturb it, and empty while the blocks stand. -/
theorem stepKeepsParticipants : Obligations.StepKeepsParticipants :=
  fun _ _ => kept_participantsOk.step

/-- Settles O9: no change of an entry parts its state from its count, and start-up sets the own entry. -/
theorem stepKeepsPeers : Obligations.StepKeepsPeers :=
  fun _ _ => kept_peersOk.step

end Sys2Proof.Machine
end

section
/-!
PROOFS. The resets (R162, R166, R167) and the state they leave, and the composition of a SHARE (R155).
-/

namespace Sys2Proof.Machine

theorem emptyEntries_get (n : Station) :
    Eight.get ⟨PeerEntry.empty, .empty, .empty, .empty, .empty, .empty, .empty, .empty⟩ n = .empty := by
  fin_cases n <;> rfl

theorem emptySlots_get (i : Fin 8) :
    Eight.get ⟨(none : Option TripRecord), none, none, none, none, none, none, none⟩ i = none := by
  fin_cases i <;> rfl

theorem resetCauses_get (c : Cause) : CauseSet.reset.get c = .reset := by
  cases c <;> rfl

/-- Settles O4: every part of the state after a power-on reset is a literal. -/
theorem powerOnState : Obligations.PowerOnState := by
  unfold Obligations.PowerOnState
  refine ⟨emptyEntries_get, rfl, rfl, rfl, rfl, rfl, rfl, rfl, rfl, rfl, rfl, rfl, rfl, rfl, rfl, rfl, rfl, rfl, rfl,
    rfl, rfl, rfl, rfl, rfl, rfl, rfl, rfl, rfl, rfl, rfl, rfl, rfl, rfl, rfl, rfl, rfl, rfl, rfl, rfl, rfl, rfl, rfl,
    rfl, rfl, rfl, rfl, rfl, rfl, rfl, rfl, rfl, rfl, rfl, rfl, rfl, rfl, rfl, rfl, rfl, rfl,
    resetCauses_get, rfl, rfl, rfl, rfl, rfl, rfl, rfl, emptySlots_get, rfl, rfl, rfl, rfl, rfl, rfl, rfl, rfl, rfl,
    rfl, rfl, rfl, rfl, rfl, rfl, rfl, rfl, rfl, rfl, rfl, rfl, rfl⟩

section Resets

variable (s : State)

theorem endReset_free (h : s.inReset = false) : s.endReset = { s with
    clock := { timeMark := 0, micros := 0 }, timers := { s.timers with settle := some 20000 }
    lines := .released } := by
  simp [State.endReset, h]

theorem endReset_held (h : s.inReset = true) : s.endReset = s := by
  simp [State.endReset, h]

theorem resetLinePulse_short (us : Nat) (h : us < 500) : exec (.resetLinePulse us) s = .next s := by
  have long : ¬2000 ≤ us := by omega
  have free : ¬(500 ≤ us ∧ us < 2000) := by omega
  show Host.Outcome.next (if s.pulseTaken us = true then _ else _) = _
  simp [State.pulseTaken, long, h, free]

theorem resetLinePulse_long (us : Nat) (h : 2000 ≤ us) :
    exec (.resetLinePulse us) s = .next (s.beginReset .resetLine).endReset := by
  have free : ¬(500 ≤ us ∧ us < 2000) := by omega
  show Host.Outcome.next (if s.pulseTaken us = true then _ else _) = _
  simp [State.pulseTaken, h, free]

/-- Between the two limits of R166 the pulse is taken or not, log 10. -/
theorem resetLinePulse_between (us : Nat) (h : 500 ≤ us ∧ us < 2000) :
    exec (.resetLinePulse us) s = .next { s with free := s.free + 1 }
      ∨ exec (.resetLinePulse us) s
          = .next (State.beginReset { s with free := s.free + 1 } .resetLine).endReset := by
  show Host.Outcome.next (if s.pulseTaken us = true then _ else _) = _
    ∨ Host.Outcome.next (if s.pulseTaken us = true then _ else _) = _
  rw [if_pos h]
  cases s.pulseTaken us
  · exact .inl rfl
  · exact .inr rfl

/-- BROWN_OUT_END taken, R167: the reset ends unless the clock is still lost. -/
theorem brownOutEnd_taken (mv : Nat) (held : s.monitor.supplyHeld = true) (above : 2700 < mv) :
    exec (.brownOutEnd mv) s = .next (State.endReset { s with
      inputs := { s.inputs with supplyMillivolts := mv }, monitor := { s.monitor with supplyHeld := false }
      lines := { Lines.released with loopDrive := s.monitor.clockLost } }) := by
  refine congrArg Host.Outcome.next (if_neg ?_)
  simp [held, above]

/-- CLOCK_RETURN taken, R167: the reset ends unless the supply still holds the part. -/
theorem clockReturn_taken (lost : s.monitor.clockLost = true) :
    exec .clockReturn s = .next (State.endReset { s with monitor := { s.monitor with clockLost := false } }) := by
  refine congrArg Host.Outcome.next (if_neg ?_)
  simp [lost]

/-- The torque limiter as a reset leaves it, R74. -/
theorem beginReset_limiter (kind : ResetKind) : (s.beginReset kind).limiter = { Limiter.reset with
    account := if kind = .powerOn then 0 else s.limiter.account
    limit := if kind = .powerOn then false else s.limiter.limit } := by
  show Limiter.atReset kind s.limiter = _
  unfold Limiter.atReset
  split <;> rfl

/-- The cause unit as a reset leaves it, R108. -/
theorem beginReset_cause (kind : ResetKind) : (s.beginReset kind).cause
    = { CauseUnit.reset with g := if kind = .powerOn then 0 else s.cause.g } := by
  show CauseUnit.atReset kind s.cause = _
  unfold CauseUnit.atReset
  split <;> rfl

/-- The record store as a reset leaves it, R142. -/
theorem beginReset_records (kind : ResetKind) : (s.beginReset kind).records = {
    ring := [], current := none, serial := if kind = .powerOn then 0 else s.records.serial
    slots := if kind = .powerOn then RecordStore.reset.slots else cutFilling s.records.slots } := by
  show RecordStore.atReset kind s.records = _
  unfold RecordStore.atReset
  split <;> rfl

end Resets

/-- Settles O60. -/
theorem resetsBeginAndEnd : Obligations.ResetsBeginAndEnd := by
  unfold Obligations.ResetsBeginAndEnd
  refine ⟨fun us s => ⟨⟨_, rfl⟩, resetLinePulse_short s us, resetLinePulse_long s us,
    fun low high => resetLinePulse_between s us ⟨low, high⟩⟩, ?_, ?_, ?_, ?_, ?_, ?_, ?_, ?_, ?_, ?_, ?_⟩
  · intro s free
    show Host.Outcome.next (if s.monitor.supplyHeld = true then _ else _) = _
    rw [if_neg (by simp [free])]
    rfl
  · intro s held
    exact congrArg Host.Outcome.next (if_pos held)
  · intro mv s stays
    refine congrArg Host.Outcome.next (if_pos ?_)
    simpa using stays
  · intro mv s held above returned
    refine (brownOutEnd_taken s mv held above).trans ?_
    rw [endReset_free _ (by simp [State.inReset, returned])]
    rfl
  · intro mv s held above lost
    refine (brownOutEnd_taken s mv held above).trans ?_
    rw [endReset_held _ (by simp [State.inReset, lost])]
    simp only [lost]
    rfl
  · intro s runs
    exact congrArg Host.Outcome.next (if_neg (by simp [runs]))
  · intro s lost
    exact congrArg Host.Outcome.next (if_pos lost)
  · intro s runs
    exact congrArg Host.Outcome.next (if_pos (by simp [runs]))
  · intro s lost held
    refine (clockReturn_taken s lost).trans ?_
    rw [endReset_held _ (by simp [State.inReset, held])]
  · intro s lost free
    refine (clockReturn_taken s lost).trans ?_
    rw [endReset_free _ (by simp [State.inReset, free])]
    rfl
  · rintro s t kind rfl
    have causes (c : Cause) : (s.beginReset kind).causeField c = .reset := by
      rw [State.causeField, beginReset_cause]
      exact resetCauses_get c
    have freed (free : s.inReset = false) := endReset_free (s.beginReset kind) free
    rw [beginReset_limiter, beginReset_cause, beginReset_records] at freed ⊢
    refine ⟨rfl, rfl, rfl, rfl, rfl, rfl, rfl, rfl, rfl, rfl, rfl, rfl, rfl, rfl, rfl, rfl, rfl, rfl, rfl, rfl, rfl,
      rfl, rfl, rfl, rfl, causes, rfl, rfl, rfl, rfl, rfl, rfl, rfl, ?_, ?_, rfl, rfl, rfl, rfl, rfl, rfl,
      freed, endReset_held (s.beginReset kind)⟩
    · rintro rfl
      refine ⟨rfl, rfl, rfl, rfl, emptySlots_get, ?_, rfl⟩
      show s.resetCauseFor .powerOn = .powerOn
      unfold State.resetCauseFor
      split <;> rfl
    · intro other
      simp only [other, if_false]
      refine ⟨trivial, trivial, trivial, trivial, fun i empty => ?_, fun i r full => ?_, ?_, rfl⟩
      · rw [cutFilling_get, empty]
        rfl
      · rw [cutFilling_get, full]
        rfl
      · show (kind != .powerOn && s.st == .faultHalt) = _
        simp [other, beq_eq_decide]

end Sys2Proof.Machine
end

section
/-!
PROOFS. The composition of a SHARE (R2, R63, R153, R155) and start-up (R163, R164): the straps, the checks of a
parameter block in their order, and the entry to JOINING or FAULT_HALT.
-/

namespace Sys2Proof

@[simp] theorem Eight.set_get_self {α : Type} (t : Eight α) (i : Fin 8) : t.set i (t.get i) = t := by
  fin_cases i <;> rfl

namespace Machine

section Sharing

variable (s : State)

theorem alertPresent_iff : s.alertPresent = true ↔ ∃ c, s.actionOf c = .alert ∧ (s.causeField c).present = true := by
  simp [State.alertPresent, mem_causes]

theorem clampCausePresent_iff :
    s.clampCausePresent = true ↔ ∃ c, s.actionOf c = .clamp ∧ (s.causeField c).present = true := by
  simp [State.clampCausePresent, mem_causes]

theorem tripCauseLatched_iff :
    s.tripCauseLatched = true ↔ ∃ c, s.actionOf c = .trip ∧ (s.causeField c).latched = true := by
  simp [State.tripCauseLatched, State.latchedTripCauses, mem_causes]

theorem onLink_congr {f g : Link → Link} (h : f s.link = g s.link) : s.onLink f = s.onLink g := by
  simp only [State.onLink, h]

theorem onLink_same {f : Link → Link} (h : f s.link = s.link) : s.onLink f = s := by
  simp only [State.onLink, h]

theorem onEntry_same {n : Station} {f : PeerEntry → PeerEntry} (h : f (s.entry n) = s.entry n) :
    s.onEntry n f = s := by
  unfold State.entry at h
  simp only [State.onEntry, State.onPeers, h, Eight.set_get_self]

/-- While MUTE a point of SHARE composition recomputes the trim alone, R63, R150. -/
theorem composeShare_mute (h : s.link.mute = true) : s.composeShare = s.recomputeTrim := by
  have mute : s.recomputeTrim.link.mute = true := h
  unfold State.composeShare
  simp only [mute, if_true]
  rw [onEntry_same _ rfl]
  exact onLink_same _ (if_pos mute)

/-- Else the SHARE goes to its slot and to the own entry, R2, R153, R155. -/
theorem composeShare_sent (h : s.link.mute = false) : s.composeShare =
    (s.recomputeTrim.onEntry s.loader.station fun e => { e with share := some s.recomputeTrim.sharePayload }).onLink
      fun l => l.placeShare s.recomputeTrim.sharePayload := by
  have sends : s.recomputeTrim.link.mute = false := h
  unfold State.composeShare
  simp only [sends, Bool.false_eq_true, if_false]
  exact onLink_congr _ (if_neg (show ¬s.link.mute = true by simp [h]))

end Sharing

/-- Settles O28. -/
theorem shareComposed : Obligations.ShareComposed := by
  unfold Obligations.ShareComposed
  rintro s u runs rfl
  have composed : exec .shareTimerExpiry s = .next (State.composeShare
      (s.onTimers fun t => { t with share := some s.cfg.sharePeriodUs })) := by
    refine congrArg Host.Outcome.next (if_neg ?_)
    simp [Option.isNone_iff_eq_none, ← Option.isSome_iff_ne_none, runs]
  rw [composed]
  refine ⟨fun mute => ?_, fun sends => ⟨State.sharePayload (State.recomputeTrim
      (s.onTimers fun t => { t with share := some s.cfg.sharePeriodUs })), ?_, rfl, rfl, ?_, rfl, rfl, rfl, rfl, rfl, rfl, rfl, ?_, ?_,
    alertPresent_iff s, clampCausePresent_iff s, tripCauseLatched_iff s, ?_, rfl, ?_⟩⟩
  · rw [composeShare_mute _ (by exact mute)]
    rfl
  · rw [composeShare_sent _ (by exact sends)]
    rfl
  · exact Bool.not_not _
  · intro none
    simp [State.sharePayload, State.recomputeTrim, none]
  · intro o some
    simp [State.sharePayload, State.recomputeTrim, some]
  · exact decide_eq_true_iff
  · exact decide_eq_true_iff

end Machine
end Sys2Proof
end

section
/-!
PROOFS. Start-up (R163, R164): the straps, the checks of a parameter block in their order, and the entry to JOINING or
FAULT_HALT.
-/

namespace Sys2Proof.Machine

section Checks

theorem length_wordsOfBytes (bytes : List Byte) : (wordsOfBytes bytes).length = bytes.length / 2 := by
  induction bytes using wordsOfBytes.induct with
  | case1 hi lo rest ih =>
    rw [wordsOfBytes, List.length_cons, ih]
    simp only [List.length_cons]
    omega
  | case2 bytes short =>
    match bytes, short with
    | [], _ => rfl
    | [_], _ => simp [wordsOfBytes]
    | hi :: lo :: rest, short => exact absurd rfl (short hi lo rest)

/-- The bytes of a memory that was never written. -/
def blank (bytes : List Byte) : Prop :=
  ∀ b ∈ bytes, b = 0xFF

theorem checkBlock_blank {bytes : List Byte} (h : blank bytes) : checkBlock bytes = .error .blank := by
  refine if_pos ?_
  simpa [blank] using h

/-- The checks that follow the first, R164. -/
theorem checkBlock_written {bytes : List Byte} (h : ¬blank bytes) :
    checkBlock bytes = (let w : Settings := (wordsOfBytes bytes).take 64
      if w.crc ≠ (wordsOfBytes bytes).getD 64 0 then .error .checkWord
      else if w.inRange = false then .error .ranges
      else if w.consistent = false then .error .consistency
      else .ok w) := by
  refine if_neg ?_
  simpa [blank] using h

theorem consistent_iff (w : Settings) : w.consistent = true ↔ w.b1 < w.b2 ∧ w.b2 < w.b3 ∧ w.minCreep ≤ w.minRun
    ∧ w.minRun ≤ w.groupSize ∧ w.derateFloor ≤ w.ratedCeiling := by
  simp [Settings.consistent, and_assoc]

theorem within_iff (lo hi v : Nat) : within lo hi v = true ↔ lo ≤ v ∧ v ≤ hi := by
  simp [within]

/-- What a block that passes is, R164. -/
theorem checkBlock_ok {bytes : List Byte} {w : Settings} (h : checkBlock bytes = .ok w) :
    w = (wordsOfBytes bytes).take 64 ∧ w.crc = (wordsOfBytes bytes).getD 64 0 ∧ w.inRange = true
      ∧ w.consistent = true := by
  by_cases written : blank bytes
  · rw [checkBlock_blank written] at h
    cases h
  · rw [checkBlock_written written] at h
    dsimp only at h
    split at h
    · cases h
    · next crc =>
      split at h
      · cases h
      · next range =>
        split at h
        · cases h
        · next consistent =>
          cases h
          exact ⟨rfl, by simpa using crc, by simpa using range, by simpa using consistent⟩

theorem unusedClear_iff (w : Settings) : w.unusedClear = true ↔ (w.getD 18 0).getLsbD 9 = false
    ∧ (w.getD 44 0).getLsbD 1 = false ∧ (w.getD 44 0).getLsbD 2 = false := by
  simp only [Settings.unusedClear, Settings.bits, Settings.at, BitVec.getLsbD, Nat.testBit_eq_decide_div_mod_eq,
    Bool.and_eq_true, beq_iff_eq, decide_eq_false_iff_not, Nat.shiftRight_eq_div_pow]
  omega

/-- The values of section 5.1 with their ranges, as spec/05 lists them. -/
theorem vibrationInRange_iff (w : Settings) : w.vibrationInRange = true ↔ ∀ x ∈
    [(1, w.alertRms 0, 29000), (1, w.alertRms 1, 29000), (1, w.alertRms 2, 29000), (1, w.alertRms 3, 29000),
     (1, w.tripRms 0, 29000), (1, w.tripRms 1, 29000), (1, w.tripRms 2, 29000), (1, w.tripRms 3, 29000),
     (1, w.tripPeak 0, 29000), (1, w.tripPeak 1, 29000), (1, w.tripPeak 2, 29000), (1, w.tripPeak 3, 29000),
     (1, w.alertPersistence, 8), (1, w.tripPersistence, 8), (1, w.derateStep, 200), (300, w.derateFloor, 1000),
     (1, w.recoveryWindows, 64), (10, w.silenceTime, 1000)], x.1 ≤ x.2.1 ∧ x.2.1 ≤ x.2.2 := by
  simp only [Settings.vibrationInRange, List.all_cons, List.all_nil, Bool.and_true, Bool.and_eq_true, within_iff,
    List.forall_mem_cons, List.not_mem_nil, false_implies, implies_true, and_true]
  tauto

end Checks

theorem composeRoll_rollSlot (s : State) (sends : s.link.mute = false) : s.composeRoll.link.rollSlot = some
    { signature := s.cfg.signature, g := s.cause.g, state := BitVec.ofNat 4 s.st.code
      resetCause := BitVec.ofNat 2 s.loader.resetCause.code, haltMark := s.loader.haltMark } :=
  if_neg (by simp [sends])

/-- A block that fails a check leaves FAULT_HALT, with the loader's step ended, R164. -/
theorem read_failed (s : State) {bytes : List Byte} {check : BlockCheck} (loading : s.st = .loading)
    (reading : s.loader.step = .reading) (whole : bytes.length = 130) (fails : checkBlock bytes = .error check) :
    exec (.parameterReadComplete bytes) s = .next s.haltFromLoading := by
  show Host.Outcome.next (if s.st ≠ .loading ∨ s.loader.step ≠ .reading ∨ bytes.length ≠ 130 then s else _) = _
  rw [if_neg (by simp [loading, reading, whole]), fails]

/-- A block that passes enters JOINING, R164. -/
theorem read_passed (s : State) {bytes : List Byte} {w : Settings} (loading : s.st = .loading)
    (reading : s.loader.step = .reading) (whole : bytes.length = 130) (passes : checkBlock bytes = .ok w) :
    exec (.parameterReadComplete bytes) s = .next (s.enterJoining w) := by
  show Host.Outcome.next (if s.st ≠ .loading ∨ s.loader.step ≠ .reading ∨ bytes.length ≠ 130 then s else _) = _
  rw [if_neg (by simp [loading, reading, whole]), passes]

/-- Settles O58. -/
theorem startUp : Obligations.StartUp := by
  unfold Obligations.StartUp
  refine ⟨?_, ?_, ?_, ?_, ?_⟩
  · intro straps s loading runs
    refine congrArg Host.Outcome.next (if_neg ?_)
    simp [loading, ← Option.isSome_iff_ne_none, Option.isNone_iff_eq_none, runs]
  · intro s
    refine ⟨fun reading => ?_, fun other => ?_, rfl⟩
    · simp [State.spiSent, State.spiSelected, reading]
    · simp [State.spiSent, State.spiSelected, other]
  · intro bytes s check loading reading whole fails
    refine ⟨_, read_failed s loading reading whole fails, ?_⟩
    have start : (s.onLoader fun l => { l with step := .done }).st ≠ .faultHalt := by
      show s.st ≠ _
      simp [loading]
    exact ⟨st_moveTo _ _, moveTo_lines start, moveTo_loader _ _, moveTo_link _ _, moveTo_records _ _, moveTo_g _ _,
      fun c => (moveTo_latched _ _ c).1⟩
  · intro bytes s w loading reading whole passes
    refine ⟨_, read_passed s loading reading whole passes, ?_⟩
    have start : ((s.takeSettings w).onEntry s.loader.station PeerEntry.own).st ≠ .joining := by
      show s.st ≠ _
      simp [loading]
    have limiter := moveTo_limiter start
    have timers := moveTo_timers start
    have seq := moveTo_seq start
    have gen := moveTo_gen start
    have link := moveTo_link ((s.takeSettings w).onEntry s.loader.station PeerEntry.own) .joining
    have own : (s.enterJoining w).entry s.loader.station = (s.entry s.loader.station).own := by
      rw [enterJoining_entry s w loading, if_pos rfl]
    refine ⟨st_moveTo _ _, moveTo_lines start, moveTo_loader _ _, congrArg Limiter.rated limiter,
      congrArg Limiter.creepCap limiter, congrArg Limiter.overloadValue limiter, congrArg Limiter.envelope limiter,
      congrArg Limiter.stageValue limiter, congrArg Limiter.band limiter, congrArg Limiter.ceiling limiter,
      congrArg Limiter.account limiter, (congrArg Limiter.limit limiter).trans rfl, moveTo_allowanceOk start, ?_, moveTo_actions _ _,
      moveTo_g _ _, congrArg PeerEntry.kind own, congrArg PeerEntry.entry own, congrArg Timers.aging timers,
      congrArg Timers.guard timers, congrArg Timers.surge timers, congrArg Timers.lstopFilter timers,
      congrArg Timers.maintFilter timers, (congrArg Sequencer.lstop seq).trans rfl, (congrArg Sequencer.maint seq).trans rfl, moveTo_inputs _ _,
      moveTo_monitor _ _, fun c => moveTo_latched _ _ c, moveTo_causeField_other _ _ (by decide),
      congrArg Generator.period gen, congrArg Generator.onCount gen, congrArg Generator.offCount gen,
      congrArg Generator.strobes gen, congrArg Link.active link, congrArg Link.idle link, congrArg Link.listening link,
      (congrArg Link.lineBusy link).trans rfl, fun sends => ?_, moveTo_records _ _⟩
    · refine (congrArg VibWatch.allowance (moveTo_vib start)).trans ?_
      rw [onMove_vibAllowance, if_neg (by decide)]
      rfl
    · refine (composeRoll_rollSlot _ ?_).trans ?_
      · rw [moveTo_link]
        exact sends
      · rw [moveTo_cfg, moveTo_g, moveTo_loader, st_moveTo]
        rfl

  · intro bytes whole
    refine ⟨checkBlock_blank, fun w passes => ?_, ?_⟩
    · obtain ⟨rfl, crc, range, consistent⟩ := checkBlock_ok passes
      obtain ⟨bands, bands', creep, run, derate⟩ := (consistent_iff _).mp consistent
      refine ⟨?_, rfl, crc, bands, bands', creep, run, derate, (within_iff _ _ _).mp ?_⟩
      · rw [List.length_take, length_wordsOfBytes, whole]
        rfl
      · simp only [Settings.inRange, Settings.groupInRange, Bool.and_eq_true] at range
        tauto
    · intro w ranges unwritten crcOk inRange consistent
      have ranged : w.inRange = true ↔ inRange := by
        simp only [Settings.inRange, Bool.and_eq_true, unusedClear_iff, inRange, ranges, List.forall_mem_append,
          vibrationInRange_iff]
        simp only [Settings.groupInRange, Settings.driveInRange, Settings.torqueInRange, Bool.and_eq_true, within_iff,
          List.forall_mem_cons, List.not_mem_nil, false_implies, implies_true, and_true, and_assoc]
      have even : w.consistent = true ↔ consistent := consistent_iff w
      refine ⟨fun written crc => ?_, fun written crc out => ?_, fun written crc within odd => ?_,
        fun written crc within plain => ?_⟩
      all_goals rw [checkBlock_written written]
      · exact if_pos crc
      · exact (if_neg (not_not.mpr crc)).trans (if_pos (by simpa using mt ranged.mp out))
      · exact (if_neg (not_not.mpr crc)).trans ((if_neg (by simpa using ranged.mpr within)).trans
          (if_pos (by simpa using mt even.mp odd)))
      · exact (if_neg (not_not.mpr crc)).trans ((if_neg (by simpa using ranged.mpr within)).trans
          (if_neg (by simpa using even.mpr plain)))

end Sys2Proof.Machine
end

section
/-!
PROOFS. A trip (R113 to R116, R119): the record that a trip opens has a slot (R132), the state change of R115 in its
parts, and what an origin trip and a follower trip leave.
-/

namespace Sys2Proof.Machine

section Slots

theorem chooseSlot_isSome {slots : Eight (Option TripRecord)} (kept : keptCount slots ≤ 4)
    (closed : ∀ i r, slots.get i = some r → r.closed = true) : ∃ i, chooseSlot slots = some i := by
  unfold chooseSlot
  split
  · exact ⟨_, rfl⟩
  · next full =>
    split
    · exact ⟨_, rfl⟩
    · next none =>
      have keeps (i : Fin 8) : (slots.get i).any (·.keep) = true := by
        have notEmpty := List.find?_eq_none.mp full i (mem_eightNumbers i)
        have notFree := List.filter_eq_nil_iff.mp none i (mem_eightNumbers i)
        cases slot : slots.get i with
        | none => simp [slot] at notEmpty
        | some r =>
          simpa [slot, replaceable, closed i r slot] using notFree
      have all : keptCount slots = 8 := by
        unfold keptCount
        rw [List.filter_eq_self.mpr fun i _ => keeps i]
        rfl
      omega

/-- A store in order finds a slot for a new record, R132. -/
theorem insert_current {r : RecordStore} (h : r.Ok) (x : TripRecord) : ∃ i, (r.insert x).current = some i
    ∧ (r.insert x).slots.get i = some { x with serial := nextSerial r.serial } := by
  obtain ⟨-, -, -, -, -, kept⟩ := h
  have closed (i) (y : TripRecord) (hy : (cutFilling r.slots).get i = some y) : y.closed = true := by
    rw [cutFilling_get, Option.map_eq_some_iff] at hy
    obtain ⟨z, -, rfl⟩ := hy
    exact cut_closed z
  obtain ⟨i, chosen⟩ := chooseSlot_isSome (by rw [cutFilling_kept]; exact kept) closed
  refine ⟨i, ?_⟩
  simp [RecordStore.insert, chosen]

end Slots

section TripMove

variable (s : State)

theorem tripMove_selftest (h : s.st = .selftest) : s.tripMove = s.abortSelftest.moveTo .tripped := by
  simp only [State.tripMove, h]

theorem tripMove_parked (h : s.st = .stopped ∨ s.st = .starting ∨ s.st = .standby) :
    s.tripMove = s.moveTo (tripTarget s.st s.speed.standstill) := by
  rcases h with h | h | h <;> cases standstill : s.speed.standstill <;>
    simp [State.tripMove, h, standstill, tripTarget]

theorem tripMove_running (h : s.st.running = true) : s.tripMove
    = if s.speed.standstill then (s.moveTo .tripDecel).moveTo .tripped else s.moveTo .tripDecel := by
  cases st : s.st <;> simp [st, StationState.running] at h <;> simp only [State.tripMove, st]

theorem tripMove_elsewhere (h : s.st.canTrip = false) : s.tripMove = s := by
  cases st : s.st <;> simp [st, StationState.canTrip] at h <;> simp only [State.tripMove, st]

/-- The states in which a trip is made, by the rows of R115. -/
theorem canTrip_cases {st : StationState} (h : st.canTrip = true) :
    st = .selftest ∨ (st = .stopped ∨ st = .starting ∨ st = .standby) ∨ st.running = true := by
  cases st <;> simp [StationState.canTrip] at h <;> simp [StationState.running]

/-- What holds before the state change of a trip entry, and is kept by the end of a self-test and by a move to
TRIP_DECEL or TRIPPED, holds after it, R115. -/
theorem tripMove_keeps {P : State → Prop} (abort : P s → P s.abortSelftest)
    (move : ∀ u new, new = .tripDecel ∨ new = .tripped → P u → P (u.moveTo new)) (h : P s) : P s.tripMove := by
  cases trips : s.st.canTrip with
  | false =>
    rw [tripMove_elsewhere s trips]
    exact h
  | true =>
    rcases canTrip_cases trips with row | row | row
    · rw [tripMove_selftest s row]
      exact move _ _ (.inr rfl) (abort h)
    · rw [tripMove_parked s row]
      refine move _ _ ?_ h
      unfold tripTarget
      split <;> simp
    · rw [tripMove_running s row]
      split
      · exact move _ _ (.inr rfl) (move _ _ (.inl rfl) h)
      · exact move _ _ (.inl rfl) h

/-- The state change of a trip entry ends with a move to the state of R115. -/
theorem tripMove_last (h : s.st.canTrip = true) :
    ∃ u : State, u.st ≠ tripTarget s.st s.speed.standstill ∧ s.tripMove = u.moveTo (tripTarget s.st s.speed.standstill) := by
  rcases canTrip_cases h with row | row | row
  · refine ⟨s.abortSelftest, ?_, ?_⟩
    · simp [row, tripTarget]
    · simp [tripMove_selftest s row, row, tripTarget]
  · refine ⟨s, ?_, tripMove_parked s row⟩
    unfold tripTarget
    rcases row with row | row | row <;> rw [row] <;> split <;> simp
  · have notSelftest : s.st ≠ .selftest := by
      intro row'
      simp [row', StationState.running] at row
    have notDecel : s.st ≠ .tripDecel := by
      intro row'
      simp [row', StationState.running] at row
    rw [tripMove_running s row]
    cases standstill : s.speed.standstill with
    | true => exact ⟨s.moveTo .tripDecel, by simp [tripTarget], by simp [tripTarget]⟩
    | false => exact ⟨s, by simp [tripTarget, notSelftest, notDecel], by simp [tripTarget, notSelftest]⟩

theorem tripMove_st (h : s.st.canTrip = true) : s.tripMove.st = tripTarget s.st s.speed.standstill := by
  obtain ⟨u, -, last⟩ := tripMove_last s h
  rw [last, st_moveTo]

theorem tripTarget_lines (st : StationState) (standstill : Bool) :
    (tripTarget st standstill).lines.convEn = false ∧ (tripTarget st standstill).lines.loopDrive = true := by
  unfold tripTarget
  split <;> exact ⟨rfl, rfl⟩

/-- A tripped station is stopped, R20, R53, R62, R115. -/
theorem tripMove_stopped (h : s.st.canTrip = true) : s.tripMove.Stopped := by
  obtain ⟨u, ne, last⟩ := tripMove_last s h
  have lines := tripTarget_lines s.st s.speed.standstill
  have blocked := moveTo_blocked ne lines.1
  rw [last]
  refine ⟨?_, ?_, blocked.1, blocked.2⟩
  · rw [moveTo_lines ne]
    exact lines.1
  · rw [moveTo_lines ne]
    exact lines.2

theorem tripMove_participantsOk (h : s.st.canTrip = true) : s.tripMove.ParticipantsOk := by
  obtain ⟨u, ne, last⟩ := tripMove_last s h
  rw [last]
  exact moveTo_participantsOk ne

/-- The causes watched in the driving states are not present after a trip, R35, R36. -/
theorem tripMove_ended (h : s.st.canTrip = true) {c : Cause} (ended : c = .groupShort ∨ c = .outOfStep) :
    (s.tripMove.causeField c).present = false := by
  obtain ⟨u, ne, last⟩ := tripMove_last s h
  rw [last]
  refine moveTo_ended ne ?_
  unfold tripTarget
  rcases ended with rfl | rfl <;> split <;> decide

@[simp] theorem tripMove_link : s.tripMove.link = s.link :=
  tripMove_keeps (P := fun t => t.link = s.link) s id (fun u new _ h => (moveTo_link u new).trans h) rfl
@[simp] theorem tripMove_records : s.tripMove.records = s.records :=
  tripMove_keeps (P := fun t => t.records = s.records) s id (fun u new _ h => (moveTo_records u new).trans h) rfl
@[simp] theorem tripMove_loader : s.tripMove.loader = s.loader :=
  tripMove_keeps (P := fun t => t.loader = s.loader) s id (fun u new _ h => (moveTo_loader u new).trans h) rfl
@[simp] theorem tripMove_clock : s.tripMove.clock = s.clock :=
  tripMove_keeps (P := fun t => t.clock = s.clock) s id (fun u new _ h => (moveTo_clock u new).trans h) rfl
@[simp] theorem tripMove_monitor : s.tripMove.monitor = s.monitor :=
  tripMove_keeps (P := fun t => t.monitor = s.monitor) s id (fun u new _ h => (moveTo_monitor u new).trans h) rfl
@[simp] theorem tripMove_inputs : s.tripMove.inputs = s.inputs :=
  tripMove_keeps (P := fun t => t.inputs = s.inputs) s id (fun u new _ h => (moveTo_inputs u new).trans h) rfl
@[simp] theorem tripMove_free : s.tripMove.free = s.free :=
  tripMove_keeps (P := fun t => t.free = s.free) s id (fun u new _ h => (moveTo_free u new).trans h) rfl
@[simp] theorem tripMove_pending : s.tripMove.pending = s.pending :=
  tripMove_keeps (P := fun t => t.pending = s.pending) s id (fun u new _ h => (moveTo_pending u new).trans h) rfl
@[simp] theorem tripMove_g : s.tripMove.cause.g = s.cause.g :=
  tripMove_keeps (P := fun t => t.cause.g = s.cause.g) s id (fun u new _ h => (moveTo_g u new).trans h) rfl
@[simp] theorem tripMove_context : s.tripMove.cause.context = s.cause.context :=
  tripMove_keeps (P := fun t => t.cause.context = s.cause.context) s id (fun u new _ h => (moveTo_context u new).trans h) rfl
@[simp] theorem tripMove_actions : s.tripMove.cause.actions = s.cause.actions :=
  tripMove_keeps (P := fun t => t.cause.actions = s.cause.actions) s id (fun u new _ h => (moveTo_actions u new).trans h) rfl
@[simp] theorem tripMove_clamp : s.tripMove.limiter.clamp = s.limiter.clamp :=
  tripMove_keeps (P := fun t => t.limiter.clamp = s.limiter.clamp) s id (fun u new _ h => (moveTo_clamp u new).trans h) rfl
@[simp] theorem tripMove_loopWait : s.tripMove.timers.loopWait = s.timers.loopWait :=
  tripMove_keeps (P := fun t => t.timers.loopWait = s.timers.loopWait) s id (fun u new _ h => (moveTo_loopWait u new).trans h) rfl

/-- Neither state of a trip is BREAKAWAY: the speed unit stands. -/
@[simp] theorem tripMove_speed : s.tripMove.speed = s.speed := by
  refine tripMove_keeps (P := fun t => t.speed = s.speed) s id (fun u new trips h => ?_) rfl
  by_cases same : u.st = new
  · rw [moveTo_eq u same]
    exact h
  · rw [moveTo_speed same, if_neg (by rcases trips with rfl | rfl <;> decide)]
    exact h

/-- Neither state of a trip is watched for R4: the entries stand. -/
@[simp] theorem tripMove_entries : s.tripMove.peers.entries = s.peers.entries := by
  refine tripMove_keeps (P := fun t => t.peers.entries = s.peers.entries) s id (fun u new trips h => ?_) rfl
  by_cases same : u.st = new
  · rw [moveTo_eq u same]
    exact h
  · rw [moveTo_peers same]
    have quiet : new.driving = false := by rcases trips with rfl | rfl <;> rfl
    simpa [PeerEntry.onMove, quiet, Eight.map] using h

theorem tripMove_causeField {c : Cause} (hc : c ∉ [Cause.noBreakaway, .jam, .surge, .groupShort, .outOfStep]) :
    s.tripMove.causeField c = s.causeField c :=
  tripMove_keeps (P := fun t => t.causeField c = s.causeField c) s id
    (fun u new _ h => (moveTo_causeField_other u new hc).trans h) rfl

theorem tripMove_latched (c : Cause) : (s.tripMove.causeField c).latched = (s.causeField c).latched
    ∧ (s.tripMove.causeField c).count = (s.causeField c).count :=
  tripMove_keeps (P := fun t => (t.causeField c).latched = (s.causeField c).latched
      ∧ (t.causeField c).count = (s.causeField c).count) s id
    (fun u new _ h => ⟨(moveTo_latched u new c).1.trans h.1, (moveTo_latched u new c).2.trans h.2⟩) ⟨rfl, rfl⟩

end TripMove

section Begin

variable (s : State)

/-- The context of a trip entry made in state `s`, R113. -/
def State.tripContext (s : State) (number : Option Word) (origin : Option Station) (confirmed : Bool) (part : OwnPart) :
    TripContext :=
  { number := number, origin := origin, confirmed := confirmed, ownPart := part, coOrigins := [],
    stateAtTrip := s.st }

/-- A trip entry up to its state change: context, record, no loop wait. -/
theorem beginTrip_eq (number origin confirmed part c detail) :
    s.beginTrip number origin confirmed part c detail = { s with
      cause := { s.cause with context := some (s.tripContext number origin confirmed part) }
      timers := { s.timers with loopWait := none }
      records := s.records.insert (s.newRecord (s.tripContext number origin confirmed part) c detail) } := rfl

theorem latchCount_causeField (c : Cause) : (s.latchCount c).causeField c
    = { s.causeField c with latched := true, count := min 255 ((s.causeField c).count + 1) } :=
  CauseSet.get_latchCount _ _

theorem latchCount_causeField_ne {c d : Cause} (h : d ≠ c) : (s.latchCount c).causeField d = s.causeField d :=
  CauseSet.get_set_ne _ _ h

end Begin

section Trips

variable (s : State)

/-- An origin trip before its state change, R114: number, context, record and TRIP frame. -/
def State.originBegun (s : State) (c : Cause) (detail : Int) : State :=
  ((s.setG (successor s.cause.g)).beginTrip (some (successor s.cause.g)) (some s.loader.station) false .origin c
    detail).composeTrip (successor s.cause.g) c s.st s.reg.feedback s.speed.speed

theorem originTrip_eq (c detail) : s.originTrip c detail = (s.originBegun c detail).tripMove := rfl

/-- A follower trip before its state change, R116, R121: number, PEER_TRIP, context and record. -/
def State.followerBegun (s : State) (n : Word) (origin : Option Station) (detail : Int) : State :=
  ((s.setG n).latchCount .peerTrip).beginTrip (some n) origin origin.isSome .follower .peerTrip detail

theorem followerTrip_eq (n origin detail) :
    s.followerTrip n origin detail = (s.followerBegun n origin detail).tripMove := rfl

@[simp] theorem originBegun_peers (c detail) : (s.originBegun c detail).peers = s.peers := by
  simp [State.originBegun, State.setG, State.beginTrip, State.openRecord, State.composeTrip]
@[simp] theorem originBegun_speed (c detail) : (s.originBegun c detail).speed = s.speed := by
  simp [State.originBegun, State.setG, State.beginTrip, State.openRecord, State.composeTrip]
@[simp] theorem originBegun_clock (c detail) : (s.originBegun c detail).clock = s.clock := by
  simp [State.originBegun, State.setG, State.beginTrip, State.openRecord, State.composeTrip]
@[simp] theorem originBegun_loader (c detail) : (s.originBegun c detail).loader = s.loader := by
  simp [State.originBegun, State.setG, State.beginTrip, State.openRecord, State.composeTrip]
@[simp] theorem originBegun_monitor (c detail) : (s.originBegun c detail).monitor = s.monitor := by
  simp [State.originBegun, State.setG, State.beginTrip, State.openRecord, State.composeTrip]
@[simp] theorem originBegun_inputs (c detail) : (s.originBegun c detail).inputs = s.inputs := by
  simp [State.originBegun, State.setG, State.beginTrip, State.openRecord, State.composeTrip]
@[simp] theorem originBegun_free (c detail) : (s.originBegun c detail).free = s.free := by
  simp [State.originBegun, State.setG, State.beginTrip, State.openRecord, State.composeTrip]
@[simp] theorem originBegun_pending (c detail) : (s.originBegun c detail).pending = s.pending := by
  simp [State.originBegun, State.setG, State.beginTrip, State.openRecord, State.composeTrip]

@[simp] theorem originBegun_st (c detail) : (s.originBegun c detail).st = s.st := by
  simp [State.originBegun, State.setG, State.beginTrip, State.openRecord, State.composeTrip]
@[simp] theorem originBegun_g (c detail) : (s.originBegun c detail).cause.g = successor s.cause.g := by
  simp [State.originBegun, State.setG, State.beginTrip, State.openRecord, State.composeTrip]
@[simp] theorem originBegun_actions (c detail) : (s.originBegun c detail).cause.actions = s.cause.actions := by
  simp [State.originBegun, State.setG, State.beginTrip, State.openRecord, State.composeTrip]
@[simp] theorem originBegun_causes (c detail) : (s.originBegun c detail).cause.causes = s.cause.causes := by
  simp [State.originBegun, State.setG, State.beginTrip, State.openRecord, State.composeTrip]
@[simp] theorem originBegun_limiter (c detail) : (s.originBegun c detail).limiter = s.limiter := by
  simp [State.originBegun, State.setG, State.beginTrip, State.openRecord, State.composeTrip]
@[simp] theorem originBegun_loopWait (c detail) : (s.originBegun c detail).timers.loopWait = none := by
  simp [State.originBegun, State.setG, State.beginTrip, State.openRecord, State.composeTrip]
@[simp] theorem originBegun_context (c detail) : (s.originBegun c detail).cause.context
    = some (s.tripContext (some (successor s.cause.g)) (some s.loader.station) false .origin) := by
  simp [State.originBegun, State.setG, State.beginTrip, State.openRecord, State.composeTrip]
  rfl
theorem originBegun_records (c detail) : (s.originBegun c detail).records = s.records.insert
    (s.newRecord (s.tripContext (some (successor s.cause.g)) (some s.loader.station) false .origin) c detail) := by
  simp [State.originBegun, State.setG, State.beginTrip, State.openRecord, State.composeTrip]
  rfl

/-- The TRIP frame of an origin trip made in state `s`, R114. -/
def State.tripFrameOf (s : State) (c : Cause) : TripPayload :=
  { number := successor s.cause.g, causeCode := BitVec.ofNat 8 c.code, stateAtTrip := BitVec.ofNat 4 s.st.code
    feedback := BitVec.ofInt 16 s.reg.feedback, speed := BitVec.ofNat 16 s.speed.speed }

/-- The link with that frame in its slot, unless MUTE, R114, R150. -/
def State.linkWithTrip (s : State) (c : Cause) : Link :=
  { s.link with tripSlot := if s.link.mute then s.link.tripSlot else some (s.tripFrameOf c) }

theorem originBegun_link (c detail) : (s.originBegun c detail).link = s.linkWithTrip c := by
  simp [State.originBegun, State.setG, State.beginTrip, State.openRecord, State.composeTrip]
  rfl

@[simp] theorem followerBegun_peers (n origin detail) : (s.followerBegun n origin detail).peers = s.peers := by
  simp [State.followerBegun, State.setG, State.latchCount, State.onCauses, State.beginTrip, State.openRecord]
@[simp] theorem followerBegun_speed (n origin detail) : (s.followerBegun n origin detail).speed = s.speed := by
  simp [State.followerBegun, State.setG, State.latchCount, State.onCauses, State.beginTrip, State.openRecord]
@[simp] theorem followerBegun_clock (n origin detail) : (s.followerBegun n origin detail).clock = s.clock := by
  simp [State.followerBegun, State.setG, State.latchCount, State.onCauses, State.beginTrip, State.openRecord]
@[simp] theorem followerBegun_loader (n origin detail) : (s.followerBegun n origin detail).loader = s.loader := by
  simp [State.followerBegun, State.setG, State.latchCount, State.onCauses, State.beginTrip, State.openRecord]
@[simp] theorem followerBegun_monitor (n origin detail) : (s.followerBegun n origin detail).monitor = s.monitor := by
  simp [State.followerBegun, State.setG, State.latchCount, State.onCauses, State.beginTrip, State.openRecord]
@[simp] theorem followerBegun_inputs (n origin detail) : (s.followerBegun n origin detail).inputs = s.inputs := by
  simp [State.followerBegun, State.setG, State.latchCount, State.onCauses, State.beginTrip, State.openRecord]
@[simp] theorem followerBegun_free (n origin detail) : (s.followerBegun n origin detail).free = s.free := by
  simp [State.followerBegun, State.setG, State.latchCount, State.onCauses, State.beginTrip, State.openRecord]
@[simp] theorem followerBegun_pending (n origin detail) : (s.followerBegun n origin detail).pending = s.pending := by
  simp [State.followerBegun, State.setG, State.latchCount, State.onCauses, State.beginTrip, State.openRecord]

@[simp] theorem followerBegun_st (n origin detail) : (s.followerBegun n origin detail).st = s.st := by
  simp [State.followerBegun, State.setG, State.latchCount, State.onCauses, State.beginTrip, State.openRecord]
@[simp] theorem followerBegun_g (n origin detail) : (s.followerBegun n origin detail).cause.g = n := by
  simp [State.followerBegun, State.setG, State.latchCount, State.onCauses, State.beginTrip, State.openRecord]
@[simp] theorem followerBegun_link (n origin detail) : (s.followerBegun n origin detail).link = s.link := by
  simp [State.followerBegun, State.setG, State.latchCount, State.onCauses, State.beginTrip, State.openRecord]
@[simp] theorem followerBegun_loopWait (n origin detail) :
    (s.followerBegun n origin detail).timers.loopWait = none := by
  simp [State.followerBegun, State.setG, State.latchCount, State.onCauses, State.beginTrip, State.openRecord]
@[simp] theorem followerBegun_context (n origin detail) : (s.followerBegun n origin detail).cause.context
    = some (s.tripContext (some n) origin origin.isSome .follower) := by
  simp [State.followerBegun, State.setG, State.latchCount, State.onCauses, State.beginTrip, State.openRecord]
  rfl
theorem followerBegun_records (n origin detail) : (s.followerBegun n origin detail).records = s.records.insert
    (s.newRecord (s.tripContext (some n) origin origin.isSome .follower) .peerTrip detail) := by
  simp [State.followerBegun, State.setG, State.latchCount, State.onCauses, State.beginTrip, State.openRecord]
  rfl
theorem followerBegun_peerTrip (n origin detail) : (s.followerBegun n origin detail).causeField .peerTrip
    = { s.causeField .peerTrip with latched := true, count := min 255 ((s.causeField .peerTrip).count + 1) } :=
  latchCount_causeField (s.setG n) .peerTrip

/-- What a follower trip leaves, R116, R121; the record is `followerTrip_records`. -/
theorem followerTrip_effects (n origin detail) (h : s.st.canTrip = true) :
    let t := s.followerTrip n origin detail
    t.cause.g = n ∧ t.cause.context = some (s.tripContext (some n) origin origin.isSome .follower)
      ∧ t.causeField .peerTrip = { s.causeField .peerTrip with
          latched := true, count := min 255 ((s.causeField .peerTrip).count + 1) }
      ∧ t.st = tripTarget s.st s.speed.standstill ∧ t.Stopped ∧ t.link = s.link ∧ t.timers.loopWait = none := by
  have trips : (s.followerBegun n origin detail).st.canTrip = true := by
    rw [followerBegun_st]
    exact h
  rw [followerTrip_eq]
  refine ⟨?_, ?_, ?_, ?_, tripMove_stopped _ trips, ?_, ?_⟩
  · rw [tripMove_g, followerBegun_g]
  · rw [tripMove_context, followerBegun_context]
  · rw [tripMove_causeField _ (by decide), followerBegun_peerTrip]
  · rw [tripMove_st _ trips, followerBegun_st, followerBegun_speed]
  · rw [tripMove_link, followerBegun_link]
  · rw [tripMove_loopWait, followerBegun_loopWait]

theorem followerTrip_records (n origin detail) : (s.followerTrip n origin detail).records
    = s.records.insert (s.newRecord (s.tripContext (some n) origin origin.isSome .follower) .peerTrip detail) := by
  rw [followerTrip_eq, tripMove_records, followerBegun_records]

/-- What a follower trip does not touch. -/
theorem followerTrip_rest (n origin detail) :
    let t := s.followerTrip n origin detail
    t = { t with speed := s.speed, clock := s.clock, loader := s.loader, monitor := s.monitor, inputs := s.inputs
                 free := s.free, pending := s.pending } := by
  rw [followerTrip_eq, State.mk.injEq]
  simp

end Trips

end Sys2Proof.Machine
end

section
/-!
PROOFS. The arrival of a frame (R143, R151, R152): every received-frame command hears its frame, and a frame that
reaches its owner is delivered. TRIP_FRAME where the station is not tripped (R113, R116).
-/

namespace Sys2Proof.Machine

section Serial

/-- R113: `n` is newer than `g` when it lies 1 to 32767 steps after it, modulo 65536. -/
theorem newer_iff (n g : Word) : newer n g = true ↔ n ≠ 0 ∧ (g = 0
    ∨ (1 ≤ (n.toNat + 65536 - g.toNat) % 65536 ∧ (n.toNat + 65536 - g.toNat) % 65536 ≤ 32767)) := by
  have distance : (n - g).toNat = (n.toNat + 65536 - g.toNat) % 65536 := by
    rw [BitVec.toNat_sub]
    omega
  simp [newer, distance]

theorem toNat_successor (g : Word) : (successor g).toNat = if g.toNat = 65535 then 1 else g.toNat + 1 := by
  unfold successor
  by_cases last : g = 0xFFFF
  · subst last
    rfl
  · have below : g.toNat ≠ 65535 := fun h => last (BitVec.eq_of_toNat_eq h)
    rw [if_neg last, if_neg below, BitVec.toNat_add]
    have := g.isLt
    change (g.toNat + 1) % 65536 = _
    omega

end Serial

section Arrival

variable {s u : State}

theorem hears_active (f : Frame) (handle : State → State) (active : s.link.active = true)
    (listening : s.link.listening = true) : s.hears f handle = handle s.countValid := by
  simp [State.hears, active, listening]

theorem hears_inactive (f : Frame) (handle : State → State) (inactive : s.link.active = false) :
    s.hears f handle = { s with link := { s.link with lineBusy := false } } := by
  simp [State.hears, inactive, Link.unread, State.onLink]

/-- A frame of another station that is not withheld reaches its owner, R152. -/
theorem frameArrives_delivered {origin : Station} {cls : BitVec 3} (h : s.Reaches u origin cls) (words : List Word)
    (owner : State → State) : s.frameArrives ⟨cls, origin, words⟩ owner = owner u := by
  obtain ⟨active, listening, other, rfl, delivered⟩ := h
  have other : ¬origin = s.countValid.loader.station := other
  unfold State.frameArrives
  rw [hears_active _ _ active listening]
  simp only [if_neg other, delivered, Bool.false_eq_true, if_false]

end Arrival

section TakeTrip

variable (s : State) (sender : Station) (p : TripPayload)

theorem takeTrip_newer (h : s.st.canTrip = true) (number : newer p.number s.cause.g = true) :
    s.takeTrip sender p = s.followerTrip p.number (some sender) p.causeCode.toNat := by
  have notJoining : s.st ≠ .joining := by
    intro st
    simp [st, StationState.canTrip] at h
  simp [State.takeTrip, notJoining, h, number]

theorem takeTrip_stale (h : s.st.canTrip = true ∨ s.st = .lockout) (number : newer p.number s.cause.g = false) :
    s.takeTrip sender p = s.countStale := by
  have notJoining : s.st ≠ .joining := by
    rintro st
    simp [st, StationState.canTrip] at h
  rcases h with h | h
  · simp [State.takeTrip, notJoining, h, number]
  · simp [State.takeTrip, h, number, StationState.canTrip]

theorem takeTrip_lockout (h : s.st = .lockout) (number : newer p.number s.cause.g = true) :
    s.takeTrip sender p = s.setG p.number := by
  simp [State.takeTrip, h, number, StationState.canTrip]

theorem takeTrip_joining (h : s.st = .joining) (other : sender ≠ s.loader.station) :
    s.takeTrip sender p = s.setG (if newer p.number s.cause.g then p.number else s.cause.g) := by
  simp only [State.takeTrip, h, if_true, if_neg other, State.learnG]
  split <;> rfl

end TakeTrip

theorem refreshPeer_station (s : State) {origin : Station} (cls : BitVec 3) (other : origin ≠ s.loader.station) :
    (s.refreshPeer origin cls).loader.station = s.loader.station :=
  (chain_outer (chain_refreshPeer s origin cls other)).2.1

theorem reaches_station {s u : State} {origin : Station} {cls : BitVec 3} (h : s.Reaches u origin cls) :
    u.loader.station = s.loader.station := by
  obtain ⟨-, -, other, rfl, -⟩ := h
  exact refreshPeer_station s.countValid cls other

/-- Settles O50. -/
theorem tripFrameFollowed : Obligations.TripFrameFollowed := by
  unfold Obligations.TripFrameFollowed
  refine ⟨fun n g => ⟨newer_iff n g, toNat_successor g⟩, fun origin p s u reaches => ?_⟩
  have answer : exec (.tripFrame origin p) s = .next (u.takeTrip origin p) :=
    congrArg Host.Outcome.next (frameArrives_delivered reaches p.words _)
  have other : origin ≠ u.loader.station := by
    rw [reaches_station reaches]
    exact reaches.2.2.1
  rw [answer]
  refine ⟨fun trips number => ⟨_, rfl, ?_⟩, fun quiet number => ?_, fun lockout number => ?_, fun joining => ?_⟩
  · rw [takeTrip_newer u origin p trips number]
    obtain ⟨g, context, peerTrip, st, stopped, link, loopWait⟩ :=
      followerTrip_effects u p.number (some origin) p.causeCode.toNat trips
    refine ⟨g, context, peerTrip, st, stopped, link, loopWait, fun ok => ?_, ?_⟩
    · rw [followerTrip_records]
      obtain ⟨i, current, slot⟩ := insert_current ok.1
        (u.newRecord (u.tripContext (some p.number) (some origin) true .follower) .peerTrip p.causeCode.toNat)
      exact ⟨i, _, current, slot, rfl, rfl, rfl, rfl, rfl, rfl, rfl, rfl, rfl⟩
    · exact followerTrip_rest u _ _ _
  · rw [takeTrip_stale u origin p quiet number]
    rfl
  · rw [takeTrip_lockout u origin p lockout number]
    rfl
  · rw [takeTrip_joining u origin p joining other]
    rfl

end Sys2Proof.Machine
end

section
/-!
PROOFS. Causes (R109 to R112, R122): what a CLAMP installed or a record changed leaves (`Stays`), what a rise does by
its action and the state, and the entry to MUTE (R86, R150).
-/

namespace Sys2Proof.Machine

section Stays

/-- From `s` to `t` nothing changed but the torque limiter, the link, the records, the jam timer with JAM's presence,
and the count of free choices. -/
structure Stays (s t : State) : Prop where
  seq : t.seq = s.seq
  peers : t.peers = s.peers
  speed : t.speed = s.speed
  reg : t.reg = s.reg
  gen : t.gen = s.gen
  vib : t.vib = s.vib
  lines : t.lines = s.lines
  loader : t.loader = s.loader
  clock : t.clock = s.clock
  monitor : t.monitor = s.monitor
  inputs : t.inputs = s.inputs
  pending : t.pending = s.pending
  timers : t.timers = { s.timers with jam := t.timers.jam }
  cause : t.cause = { s.cause with causes := t.cause.causes }
  causeField : ∀ c, c ≠ .jam → t.causeField c = s.causeField c
  latched : ∀ c, (t.causeField c).latched = (s.causeField c).latched
    ∧ (t.causeField c).count = (s.causeField c).count

namespace Stays

variable {s t u : State}

theorem refl (s : State) : Stays s s :=
  ⟨rfl, rfl, rfl, rfl, rfl, rfl, rfl, rfl, rfl, rfl, rfl, rfl, rfl, rfl, fun _ _ => rfl, fun _ => ⟨rfl, rfl⟩⟩

theorem trans (h : Stays s t) (k : Stays t u) : Stays s u where
  seq := k.seq.trans h.seq
  peers := k.peers.trans h.peers
  speed := k.speed.trans h.speed
  reg := k.reg.trans h.reg
  gen := k.gen.trans h.gen
  vib := k.vib.trans h.vib
  lines := k.lines.trans h.lines
  loader := k.loader.trans h.loader
  clock := k.clock.trans h.clock
  monitor := k.monitor.trans h.monitor
  inputs := k.inputs.trans h.inputs
  pending := k.pending.trans h.pending
  timers := by rw [k.timers, h.timers]
  cause := by rw [k.cause, h.cause]
  causeField := fun c hc => (k.causeField c hc).trans (h.causeField c hc)
  latched := fun c => ⟨(k.latched c).1.trans (h.latched c).1, (k.latched c).2.trans (h.latched c).2⟩

theorem st (h : Stays s t) : t.st = s.st := congrArg Sequencer.station h.seq

theorem cfg (h : Stays s t) : t.cfg = s.cfg := congrArg (fun l : Loader => l.settings.getD []) h.loader

theorem g (h : Stays s t) : t.cause.g = s.cause.g := by rw [h.cause]

theorem context (h : Stays s t) : t.cause.context = s.cause.context := by rw [h.cause]

theorem actionOf (h : Stays s t) (c : Cause) : t.actionOf c = s.actionOf c := by
  unfold State.actionOf
  rw [h.cause]

theorem entry (h : Stays s t) (n : Station) : t.entry n = s.entry n := by
  unfold State.entry
  rw [h.peers]

theorem stopped (h : Stays s t) (k : s.Stopped) : t.Stopped := by
  unfold State.Stopped at *
  rwa [h.lines, h.reg, h.gen]

end Stays

variable (s : State)

theorem stays_onLink (f) : Stays s (s.onLink f) :=
  ⟨rfl, rfl, rfl, rfl, rfl, rfl, rfl, rfl, rfl, rfl, rfl, rfl, rfl, rfl, fun _ _ => rfl, fun _ => ⟨rfl, rfl⟩⟩

theorem stays_onRecords (f) : Stays s (s.onRecords f) :=
  ⟨rfl, rfl, rfl, rfl, rfl, rfl, rfl, rfl, rfl, rfl, rfl, rfl, rfl, rfl, fun _ _ => rfl, fun _ => ⟨rfl, rfl⟩⟩

theorem stays_onLimiter (f) : Stays s (s.onLimiter f) :=
  ⟨rfl, rfl, rfl, rfl, rfl, rfl, rfl, rfl, rfl, rfl, rfl, rfl, rfl, rfl, fun _ _ => rfl, fun _ => ⟨rfl, rfl⟩⟩

theorem stays_free (n : Nat) : Stays s { s with free := n } :=
  ⟨rfl, rfl, rfl, rfl, rfl, rfl, rfl, rfl, rfl, rfl, rfl, rfl, rfl, rfl, fun _ _ => rfl, fun _ => ⟨rfl, rfl⟩⟩

theorem stays_judgeJam : Stays s s.judgeJam := by
  refine ⟨rfl, rfl, rfl, rfl, rfl, rfl, rfl, rfl, rfl, rfl, rfl, rfl, rfl, rfl, fun c hc => ?_, fun c => ?_⟩
  · rw [judgeJam_causeField]
    simp [hc]
  · rw [judgeJam_causeField]
    exact ⟨rfl, rfl⟩

theorem stays_recompute : Stays s s.recompute :=
  (stays_onLimiter s _).trans (stays_judgeJam s.weighed)

theorem stays_installClamp (o p) : Stays s (s.installClamp o p) := by
  unfold State.installClamp
  split
  · exact .refl s
  · split
    · exact (stays_onLimiter s _).trans (stays_recompute _)
    · exact .refl s

theorem installClamp_link (o p) : (s.installClamp o p).link = s.link := by
  unfold State.installClamp
  split
  · rfl
  · split <;> rfl

theorem stays_composeClamp (c) : Stays s (s.composeClamp c) := by
  unfold State.composeClamp
  dsimp only
  split
  · exact stays_installClamp s _ _
  · exact stays_onLink s _

end Stays

section Rises

variable (s : State)

/-- The cause unit at a rise, before it is acted on: present, latched, counted (R111). -/
def State.risen (s : State) (c : Cause) : State :=
  (s.setCause c { s.causeField c with present := true }).latchCount c

theorem rise_eq (c detail) : s.rise c detail = (s.risen c).actOnRise c detail := rfl

theorem risen_causeField (c : Cause) : (s.risen c).causeField c
    = { present := true, latched := true, count := min 255 ((s.causeField c).count + 1) } := by
  have set : (s.setCause c { s.causeField c with present := true }).causeField c
      = { s.causeField c with present := true } := CauseSet.get_set_self _ _ _
  rw [State.risen, latchCount_causeField, set]

theorem risen_causeField_ne {c d : Cause} (h : d ≠ c) : (s.risen c).causeField d = s.causeField d := by
  rw [State.risen, latchCount_causeField_ne _ h]
  exact CauseSet.get_set_ne _ _ h

/-- A TRIP-action rise where a trip can be made is an origin trip, R111. -/
theorem rise_trip {c : Cause} (detail) (action : s.actionOf c = .trip) (h : s.st.canTrip = true) :
    s.rise c detail = (s.risen c).originTrip c detail := by
  have action : (s.risen c).actionOf c = .trip := action
  have h : (s.risen c).st.canTrip = true := h
  simp [rise_eq, State.actOnRise, action, h]

theorem stays_subsequentCause (c carried) (h : s.st ≠ .clearing) : Stays s (s.subsequentCause c carried) := by
  have recorded : Stays s (if s.cause.context.isSome then
      s.onCurrent (TripRecord.addSubsequent s.clock.timeMark c carried) else s) := by
    split
    · exact stays_onRecords s _
    · exact .refl s
  unfold State.subsequentCause
  dsimp only
  rw [if_neg]
  · exact recorded
  · rw [recorded.st]
    exact h

/-- Any other rise but one that ends CLEARING leaves the state as it is. -/
theorem stays_rise {c : Cause} (detail) (h : ¬(s.actionOf c = .trip ∧ (s.st.canTrip = true ∨ s.st = .clearing))) :
    Stays (s.risen c) (s.rise c detail) := by
  have action : (s.risen c).actionOf c = s.actionOf c := rfl
  have st : (s.risen c).st = s.st := rfl
  rw [rise_eq, State.actOnRise, action, st]
  split
  · next trip =>
    simp only [trip, true_and, not_or] at h
    rw [if_neg h.1]
    split
    · exact stays_subsequentCause _ _ _ h.2
    · exact .refl _
  · exact stays_composeClamp _ _
  · exact .refl _

/-- A condition that is met where causes are presented, and not yet present, rises, R111. -/
theorem present_rises {c : Cause} {cond : Bool} (detail) (joined : s.st.joined = true) (met : cond = true)
    (absent : (s.causeField c).present = false) : s.present c cond detail = s.rise c detail := by
  simp [State.present, joined, met, absent]

theorem present_unjoined (c : Cause) (cond : Bool) (detail) (joined : s.st.joined = false) :
    s.present c cond detail = s := by
  simp [State.present, joined]

theorem present_present {c : Cause} {cond : Bool} (detail) (met : cond = true)
    (already : (s.causeField c).present = true) : s.present c cond detail = s := by
  simp [State.present, met, already]

theorem present_ceases {c : Cause} {cond : Bool} (detail) (joined : s.st.joined = true) (unmet : cond = false) :
    s.present c cond detail = s.cease c := by
  simp [State.present, joined, unmet]

end Rises

section Mute

variable (s : State)

/-- The link silenced and emptied at the entry to MUTE, R150. -/
def Link.muted (l : Link) : Link :=
  { l with transmitter := none, tripSlot := none, clampSlot := none, shareSlot := none, rollSlot := none, queue := [],
           mute := true }

theorem enterMute_already (h : s.link.mute = true) : s.enterMute = s := by
  simp [State.enterMute, h]

theorem stays_installAll (station : State → Station) (ps : List ClampPayload) (s : State) :
    Stays s (ps.foldl (fun s p => s.installClamp (station s) p) s)
      ∧ (ps.foldl (fun s p => s.installClamp (station s) p) s).link = s.link := by
  induction ps generalizing s with
  | nil => exact ⟨.refl s, rfl⟩
  | cons p ps ih =>
    obtain ⟨stays, link⟩ := ih (s.installClamp (station s) p)
    exact ⟨(stays_installClamp s _ p).trans stays, link.trans (installClamp_link s _ p)⟩

theorem enterMute_effects (h : s.link.mute = false) : Stays s s.enterMute ∧ s.enterMute.link = s.link.muted := by
  unfold State.enterMute
  simp only [h, Bool.false_eq_true, if_false]
  obtain ⟨stays, link⟩ := stays_installAll (fun s => s.loader.station)
    ((match s.link.transmitter with | some (.clamp p) => [p] | _ => [])
      ++ (match s.link.clampSlot with | some p => [p] | none => [])) (s.onLink Link.muted)
  exact ⟨(stays_onLink s _).trans stays, link⟩

theorem stays_enterMute : Stays s s.enterMute := by
  cases mute : s.link.mute with
  | true =>
    rw [enterMute_already s mute]
    exact .refl s
  | false => exact (enterMute_effects s mute).1

end Mute

end Sys2Proof.Machine
end

section
/-!
PROOFS. Frames of the own number (R10 to R12) and frames that only refresh their sender's entry (R3, R151, R152): what
a received-frame command does before its frame reaches its owner.
-/

namespace Sys2Proof.Machine

section Commands

/-- The frame is one that arrives by way of `State.frameArrives`. -/
def ArrivesBy (c : Instr) (f : Frame) : Prop :=
  ∃ owner : State → State, ∀ s, exec c s = .next (s.frameArrives f owner)

/-- The frame is a SHARE or a ROLL, which its reader takes. -/
def ReadBy (c : Instr) (f : Frame) : Prop :=
  (f.cls = classShare ∨ f.cls = classRoll) ∧ ∃ take : State → State, ∀ s,
    exec c s = .next (s.hears f fun s => if f.origin = s.loader.station then s.duplicate else take s)

/-- What every received-frame command does with its frame. -/
theorem exec_frame {c : Instr} {f : Frame} (h : frameOfCommand c = some f) : ArrivesBy c f ∨ ReadBy c f := by
  cases c with
  | shareFrame o p =>
    cases h
    exact .inr ⟨.inl rfl, fun s => s.takeShare o p, fun s => rfl⟩
  | rollFrame o p =>
    cases h
    exact .inr ⟨.inr rfl, fun s => s.takeRoll o p, fun s => rfl⟩
  | _ =>
    cases h
    all_goals exact .inl ⟨_, fun s => rfl⟩

end Commands

section TripRises

variable (s : State)

theorem subsequentCause_cases {P : State → Prop} (c carried)
    (record : ∀ u : State, (u = s ∨ u = s.onCurrent (TripRecord.addSubsequent s.clock.timeMark c carried)) →
      P u ∧ (s.st = .clearing → P (u.moveTo .tripped))) : P (s.subsequentCause c carried) := by
  unfold State.subsequentCause
  dsimp only
  split <;> split
  · next clearing => exact (record _ (.inr rfl)).2 clearing
  · exact (record _ (.inr rfl)).1
  · next clearing => exact (record _ (.inl rfl)).2 clearing
  · exact (record _ (.inl rfl)).1

@[simp] theorem subsequentCause_link (c carried) : (s.subsequentCause c carried).link = s.link := by
  refine subsequentCause_cases s (P := fun t => t.link = s.link) c carried fun u recorded => ?_
  rcases recorded with rfl | rfl <;> exact ⟨rfl, fun _ => moveTo_link _ _⟩

theorem subsequentCause_causeField (c carried) {d : Cause}
    (hd : d ∉ [Cause.noBreakaway, .jam, .surge, .groupShort, .outOfStep]) :
    (s.subsequentCause c carried).causeField d = s.causeField d := by
  refine subsequentCause_cases s (P := fun t => t.causeField d = s.causeField d) c carried fun u recorded => ?_
  rcases recorded with rfl | rfl <;> exact ⟨rfl, fun _ => moveTo_causeField_other _ _ hd⟩

/-- What the rise of a TRIP-action cause ends in: an origin trip, a subsequent cause or nothing more. -/
theorem rise_trip_cases {P : State → Prop} {c : Cause} (detail) (action : s.actionOf c = .trip)
    (trip : s.st.canTrip = true → P ((s.risen c).originTrip c detail))
    (subsequent : P ((s.risen c).subsequentCause c none)) (alone : P (s.risen c)) : P (s.rise c detail) := by
  have action : (s.risen c).actionOf c = .trip := action
  have st : (s.risen c).st = s.st := rfl
  rw [rise_eq, State.actOnRise, action, st]
  dsimp only
  split
  · next can => exact trip can
  · split
    · exact subsequent
    · exact alone

theorem rise_trip_link {c : Cause} (detail) (action : s.actionOf c = .trip) :
    ∃ slot, (s.rise c detail).link = { s.link with tripSlot := slot } := by
  have link : (s.risen c).link = s.link := rfl
  refine rise_trip_cases s (P := fun t => ∃ slot, t.link = { s.link with tripSlot := slot }) detail action
    (fun _ => ?_) ?_ ?_
  · rw [originTrip_eq, tripMove_link, originBegun_link]
    exact ⟨_, rfl⟩
  · exact ⟨_, (subsequentCause_link _ _ _).trans link⟩
  · exact ⟨_, link⟩

theorem rise_trip_causeField {c : Cause} (detail) (action : s.actionOf c = .trip)
    (hc : c ∉ [Cause.noBreakaway, .jam, .surge, .groupShort, .outOfStep]) : (s.rise c detail).causeField c
      = { present := true, latched := true, count := min 255 ((s.causeField c).count + 1) } := by
  rw [← risen_causeField]
  refine rise_trip_cases s (P := fun t => t.causeField c = (s.risen c).causeField c) detail action (fun _ => ?_)
    (subsequentCause_causeField _ _ _ hc) rfl
  rw [originTrip_eq, tripMove_causeField _ hc]
  exact congrArg (CauseSet.get · c) (originBegun_causes (s.risen c) c detail)

theorem originTrip_st (c detail) (h : s.st.canTrip = true) :
    (s.originTrip c detail).st = tripTarget s.st s.speed.standstill := by
  have h' : (s.originBegun c detail).st.canTrip = true := by rwa [originBegun_st]
  rw [originTrip_eq, tripMove_st _ h', originBegun_st, originBegun_speed]

theorem originTrip_g (c detail) : (s.originTrip c detail).cause.g = successor s.cause.g := by
  rw [originTrip_eq, tripMove_g, originBegun_g]

end TripRises

section Duplicates

variable {s : State}

/-- A frame of the own number is handled as a duplicate, whatever its class, R10. -/
theorem exec_hears {c : Instr} {f : Frame} (h : frameOfCommand c = some f) : ∃ handle : State → State,
    (∀ s, exec c s = .next (s.hears f handle)) ∧ ∀ s, f.origin = s.loader.station → handle s = s.duplicate := by
  rcases exec_frame h with ⟨owner, arrives⟩ | ⟨-, take, reads⟩
  · exact ⟨_, arrives, fun s own => if_pos own⟩
  · exact ⟨_, reads, fun s own => if_pos own⟩

theorem duplicate_joining (h : s.st = .joining) : s.duplicate = s.haltFromJoining := if_pos h

theorem duplicate_joined (h : s.st.joined = true) : s.duplicate = (s.present .duplicate true 0).enterMute := by
  have notJoining : s.st ≠ .joining := by
    intro st
    simp [st, StationState.joined] at h
  simp [State.duplicate, notJoining, h]

/-- A duplicate that is already present while MUTE says nothing new, R12. -/
theorem duplicate_again (joined : s.st.joined = true) (present : (s.causeField .duplicate).present = true)
    (mute : s.link.mute = true) : s.duplicate = s := by
  rw [duplicate_joined joined, present_present s 0 rfl present, enterMute_already s mute]

/-- The first duplicate rises and silences the link, R12. -/
theorem duplicate_first (joined : s.st.joined = true) (absent : (s.causeField .duplicate).present = false) :
    s.duplicate = (s.rise .duplicate 0).enterMute := by
  rw [duplicate_joined joined, present_rises s 0 joined rfl absent]

theorem actionOf_duplicate (s : State) : s.actionOf .duplicate = .trip := rfl

/-- The link at the entry to MUTE: emptied where it was not MUTE. -/
theorem enterMute_link (s : State) : s.enterMute.link = if s.link.mute then s.link else s.link.muted := by
  cases mute : s.link.mute with
  | true => rw [enterMute_already s mute, if_pos rfl]
  | false => rw [(enterMute_effects s mute).2, if_neg (by simp)]

/-- Settles O38. -/
theorem duplicatesFound : Obligations.DuplicatesFound := by
  unfold Obligations.DuplicatesFound
  intro c f s frame
  obtain ⟨handle, hears, own⟩ := exec_hears frame
  rw [hears s]
  have heard (active : s.link.active = true) (listening : s.link.listening = true)
      (origin : f.origin = s.loader.station) : s.hears f handle = s.countValid.duplicate := by
    rw [hears_active f handle active listening]
    exact own s.countValid origin
  refine ⟨fun inactive => ?_, fun active deaf => ⟨?_, idleAfter_lineBits _ f⟩, fun active listening origin joining => ?_,
    fun active listening origin joined present mute => ?_, fun active listening origin joined absent => ?_⟩
  · rw [hears_inactive f handle inactive]
  · rw [hears_unheard s f handle active deaf]
  · have notHalt : s.countValid.st ≠ .faultHalt := by
      show s.st ≠ _
      simp [joining]
    rw [heard active listening origin, duplicate_joining (s := s.countValid) joining]
    refine ⟨_, rfl, st_moveTo _ _, moveTo_lines notHalt, rfl, rfl, rfl, rfl, rfl, rfl, rfl, rfl, rfl, rfl, rfl,
      fun n => ?_, moveTo_records _ _, moveTo_context _ _⟩
    have entry : s.countValid.haltFromJoining.entry n = (s.entry n).onMove .faultHalt := moveTo_entry notHalt n
    rw [entry]
    exact ⟨rfl, rfl⟩
  · rw [heard active listening origin, duplicate_again (s := s.countValid) joined present mute]
    rfl
  · rw [heard active listening origin, duplicate_first (s := s.countValid) joined absent]
    obtain ⟨slot, link⟩ := rise_trip_link s.countValid (c := .duplicate) 0 rfl
    have field := rise_trip_causeField s.countValid (c := .duplicate) 0 rfl (by decide)
    have stays := stays_enterMute (s.countValid.rise .duplicate 0)
    have silenced := enterMute_link (s.countValid.rise .duplicate 0)
    refine ⟨_, rfl, ?_, ?_, ?_, ?_, fun can => ⟨?_, ?_⟩, fun loud => ?_⟩
    · rw [silenced]
      split
      · next mute => exact mute
      · rfl
    · rw [silenced, link]
      split <;> rfl
    · rw [stays.causeField _ (by decide), field]
    · rw [stays.causeField _ (by decide), field]
    · rw [stays.st, rise_trip s.countValid 0 rfl can]
      exact originTrip_st (s.countValid.risen .duplicate) _ _ can
    · rw [stays.g, rise_trip s.countValid 0 rfl can]
      exact originTrip_g (s.countValid.risen .duplicate) _ _
    · have still : (s.countValid.rise .duplicate 0).link.mute = false := by
        rw [link]
        exact loud
      rw [silenced, still]
      exact ⟨rfl, rfl, rfl, rfl, rfl, rfl⟩

end Duplicates

end Sys2Proof.Machine
end

section
/-!
PROOFS. What a change of a peer's entry leads to goes one way: `Follows` is what the causes presented, the trips and the
re-evaluation of the participant list (R8, R17, R31 to R37, R111 to R122) can do to the station state and the entries.
-/

namespace Sys2Proof.Machine

/-- How far a state lies on the way that consequences of an event lead: from STARTING toward TRIPPED; the states that
they never leave come last. -/
def StationState.progress : StationState → Nat
  | .starting => 0
  | .breakaway => 1
  | .run => 2
  | .creep => 3
  | .standby => 4
  | .selftest => 5
  | .stopped | .clearing => 6
  | .decel => 7
  | .tripDecel => 8
  | .tripped => 9
  | .loading | .joining | .lockout | .faultHalt => 10

/-- From `s` to `t` the state went onward or not at all, and the entries are as they were, or had their non-running
counts cleared on the way from STARTING into a driving state (R4). -/
structure Follows (s t : State) : Prop where
  st : t.st = s.st ∨ s.st.progress < t.st.progress
  outside : t.st.progress = 10 → t.st = s.st
  entries : t.peers.entries = s.peers.entries ∨ (s.st.progress < 3 ∧ t.st ≠ s.st
    ∧ t.peers.entries = s.peers.entries.map fun _ e => { e with nonRunning := 0 })
  joinExpiries : t.peers.joinExpiries = s.peers.joinExpiries
  aging : t.timers.aging = s.timers.aging
  loader : t.loader = s.loader
  clock : t.clock = s.clock
  monitor : t.monitor = s.monitor
  inputs : t.inputs = s.inputs
  pending : t.pending = s.pending
  actions : t.cause.actions = s.cause.actions
  speed : t.speed.speed = s.speed.speed ∧ t.speed.standstill = s.speed.standstill

namespace Follows

variable {s t u : State}

theorem progress_le (h : Follows s t) : s.st.progress ≤ t.st.progress := by
  rcases h.st with h | h
  · rw [h]
  · exact h.le

theorem trans (h : Follows s t) (k : Follows t u) : Follows s u where
  st := by
    rcases h.st with hst | hst <;> rcases k.st with kst | kst
    · exact .inl (kst.trans hst)
    · exact .inr (hst ▸ kst)
    · exact .inr (kst ▸ hst)
    · exact .inr (hst.trans kst)
  outside := fun far => by
    have same := k.outside far
    rw [same, h.outside (by rw [← same]; exact far)]
  entries := by
    have left (turned : t.st.progress < 3) (moved : u.st ≠ t.st) : s.st.progress < 3 ∧ u.st ≠ s.st := by
      have before := h.progress_le
      have after : t.st.progress < u.st.progress := k.st.resolve_left moved
      refine ⟨by omega, fun same => ?_⟩
      rw [same] at after
      omega
    have stays (turned : s.st.progress < 3) (moved : t.st ≠ s.st) : u.st ≠ s.st := by
      have before : s.st.progress < t.st.progress := h.st.resolve_left moved
      have after := k.progress_le
      intro same
      rw [same] at after
      omega
    rcases h.entries with he | ⟨turned, moved, he⟩ <;> rcases k.entries with ke | ⟨turned', moved', ke⟩
    · exact .inl (ke.trans he)
    · exact .inr ⟨(left turned' moved').1, (left turned' moved').2, he ▸ ke⟩
    · exact .inr ⟨turned, stays turned moved, ke.trans he⟩
    · refine .inr ⟨turned, (left turned' moved').2, ?_⟩
      rw [ke, he]
      rfl
  joinExpiries := k.joinExpiries.trans h.joinExpiries
  aging := k.aging.trans h.aging
  loader := k.loader.trans h.loader
  clock := k.clock.trans h.clock
  monitor := k.monitor.trans h.monitor
  inputs := k.inputs.trans h.inputs
  pending := k.pending.trans h.pending
  actions := k.actions.trans h.actions
  speed := ⟨k.speed.1.trans h.speed.1, k.speed.2.trans h.speed.2⟩

/-- What leaves the station state, the entries and the blocks outside the group alone. -/
theorem of_same (seq : t.seq.station = s.seq.station) (entries : t.peers.entries = s.peers.entries)
    (joinExpiries : t.peers.joinExpiries = s.peers.joinExpiries) (aging : t.timers.aging = s.timers.aging)
    (outer : t.loader = s.loader ∧ t.clock = s.clock ∧ t.monitor = s.monitor ∧ t.inputs = s.inputs
      ∧ t.pending = s.pending) (actions : t.cause.actions = s.cause.actions) (speed : t.speed = s.speed) :
    Follows s t := by
  obtain ⟨loader, clock, monitor, inputs, pending⟩ := outer
  exact ⟨.inl seq, fun _ => seq, .inl entries, joinExpiries, aging, loader, clock, monitor, inputs, pending, actions,
    by rw [speed]; exact ⟨rfl, rfl⟩⟩

theorem refl (s : State) : Follows s s := of_same rfl rfl rfl rfl ⟨rfl, rfl, rfl, rfl, rfl⟩ rfl rfl

theorem of_stays (h : Stays s t) : Follows s t := by
  refine of_same (by rw [h.seq]) (by rw [h.peers]) (by rw [h.peers]) (by rw [h.timers])
    ⟨h.loader, h.clock, h.monitor, h.inputs, h.pending⟩ (by rw [h.cause]) h.speed

end Follows

section Operations

variable (s : State)

theorem follows_onSeq (f : Sequencer → Sequencer) (h : (f s.seq).station = s.seq.station) : Follows s (s.onSeq f) :=
  .of_same h rfl rfl rfl ⟨rfl, rfl, rfl, rfl, rfl⟩ rfl rfl

theorem follows_onCauses (f) : Follows s (s.onCauses f) := .of_same rfl rfl rfl rfl ⟨rfl, rfl, rfl, rfl, rfl⟩ rfl rfl

theorem follows_onCause (f : CauseUnit → CauseUnit) (h : (f s.cause).actions = s.cause.actions) :
    Follows s (s.onCause f) := .of_same rfl rfl rfl rfl ⟨rfl, rfl, rfl, rfl, rfl⟩ h rfl

theorem follows_onTimers (f : Timers → Timers) (h : (f s.timers).aging = s.timers.aging) : Follows s (s.onTimers f) :=
  .of_same rfl rfl rfl h ⟨rfl, rfl, rfl, rfl, rfl⟩ rfl rfl

theorem follows_risen (c) : Follows s (s.risen c) := (follows_onCauses s (CauseSet.set · c _)).trans (follows_onCauses (s.setCause c _) (CauseSet.latchCount · c))

theorem follows_refreshMembers : Follows s s.refreshMembers :=
  .of_same rfl rfl rfl rfl ⟨rfl, rfl, rfl, rfl, rfl⟩ rfl rfl

theorem follows_moveTo {new : StationState} (h : s.st = new ∨ s.st.progress < new.progress)
    (inside : new.progress ≠ 10 := by decide) : Follows s (s.moveTo new) := by
  by_cases same : s.st = new
  · rw [moveTo_eq s same]
    exact .refl s
  · have onward := h.resolve_left same
    refine ⟨.inr (by rwa [st_moveTo]), fun far => absurd (st_moveTo s new ▸ far) inside, ?_, by rw [moveTo_peers same], by rw [moveTo_timers same]; rfl,
      moveTo_loader s new, moveTo_clock s new, moveTo_monitor s new, moveTo_inputs s new, moveTo_pending s new,
      moveTo_actions s new, by rw [moveTo_speed same]; exact ⟨rfl, rfl⟩⟩
    rw [moveTo_peers same, st_moveTo]
    cases driving : new.driving with
    | false =>
      refine .inl ?_
      simp [PeerEntry.onMove, driving, Eight.map]
    | true =>
      refine .inr ⟨?_, Ne.symm same, ?_⟩
      · have : new.progress ≤ 3 := by cases new <;> simp [StationState.driving] at driving <;> decide
        omega
      · simp [PeerEntry.onMove, driving]

theorem follows_abortSelftest : Follows s s.abortSelftest :=
  .of_same rfl rfl rfl rfl ⟨rfl, rfl, rfl, rfl, rfl⟩ rfl rfl

theorem progress_tripTarget {st : StationState} (h : st.canTrip = true) (standstill : Bool) :
    st.progress < (tripTarget st standstill).progress := by
  unfold tripTarget
  cases st <;> simp [StationState.canTrip] at h <;> split <;> simp [StationState.progress]

theorem tripTarget_progress (st : StationState) (standstill : Bool) : (tripTarget st standstill).progress ≠ 10 := by
  unfold tripTarget
  split <;> decide

theorem follows_tripMove : Follows s s.tripMove := by
  cases trips : s.st.canTrip with
  | false =>
    rw [tripMove_elsewhere s trips]
    exact .refl s
  | true =>
    rcases canTrip_cases trips with row | row | row
    · rw [tripMove_selftest s row]
      refine (follows_abortSelftest s).trans (follows_moveTo _ (.inr ?_))
      rw [st_abortSelftest, row]
      decide
    · rw [tripMove_parked s row]
      exact follows_moveTo s (.inr (progress_tripTarget trips _)) (tripTarget_progress _ _)
    · have before : s.st.progress < StationState.tripDecel.progress := by
        cases st : s.st <;> simp [st, StationState.running] at row <;> decide
      have decelerates := follows_moveTo s (.inr before)
      rw [tripMove_running s row]
      split
      · refine decelerates.trans (follows_moveTo _ (.inr ?_))
        rw [st_moveTo]
        decide
      · exact decelerates

theorem follows_beginTrip (number origin confirmed part c detail) :
    Follows s (s.beginTrip number origin confirmed part c detail) := by
  refine .of_same ?_ ?_ ?_ ?_ ⟨?_, ?_, ?_, ?_, ?_⟩ ?_ ?_ <;> simp [State.beginTrip, State.openRecord]

theorem follows_originTrip (c detail) : Follows s (s.originTrip c detail) := by
  have numbered : Follows s (s.setG (successor s.cause.g)) := follows_onCause s _ rfl
  have begun := numbered.trans (follows_beginTrip _ (some (successor s.cause.g)) (some s.loader.station) false .origin
    c detail)
  exact (begun.trans (.of_stays (stays_onLink _ _))).trans (follows_tripMove _)

theorem follows_followerTrip (n origin detail) : Follows s (s.followerTrip n origin detail) := by
  have counted : Follows s ((s.setG n).latchCount .peerTrip) := (follows_onCause s _ rfl).trans (follows_onCauses _ _)
  exact (counted.trans (follows_beginTrip _ _ _ _ _ _ _)).trans (follows_tripMove _)

/-- LOOP latched and counted, with the figures that a number after the loop wait will carry, R119. -/
def State.loopCounted (s : State) : State :=
  (s.latchCount .loop).onCause fun u => { u with loopFeedback := s.reg.feedback, loopSpeed := s.speed.speed }

theorem loopTrip_eq : s.loopTrip = (s.loopCounted.beginTrip none none false .follower .loop 0).tripMove.onTimers fun t =>
    { t with loopWait := some (s.cfg.loopWait * 1000) } := rfl

theorem follows_loopTrip : Follows s s.loopTrip := by
  have counted : Follows s s.loopCounted :=
    (follows_onCauses s (CauseSet.latchCount · .loop)).trans (follows_onCause _ _ rfl)
  rw [loopTrip_eq]
  exact ((counted.trans (follows_beginTrip _ _ _ _ _ _ _)).trans (follows_tripMove _)).trans (follows_onTimers _ _ rfl)

theorem follows_loopCheck : Follows s s.loopCheck := by
  unfold State.loopCheck
  split
  · exact follows_loopTrip s
  · exact .refl s

theorem follows_subsequentCause (c carried) : Follows s (s.subsequentCause c carried) := by
  refine subsequentCause_cases s (P := Follows s) c carried fun u recorded => ?_
  have before : Follows s u := by
    rcases recorded with rfl | rfl
    · exact .refl u
    · exact .of_stays (stays_onRecords s _)
  have st : u.st = s.st := by rcases recorded with rfl | rfl <;> rfl
  refine ⟨before, fun clearing => before.trans (follows_moveTo u (.inr ?_))⟩
  rw [st, clearing]
  decide

theorem follows_rise (c detail) : Follows s (s.rise c detail) := by
  refine (follows_risen s c).trans ?_
  rw [rise_eq]
  generalize s.risen c = u
  unfold State.actOnRise
  split
  · split
    · exact follows_originTrip u _ _
    · split
      · exact follows_subsequentCause u _ _
      · exact .refl u
  · exact .of_stays (stays_composeClamp u _)
  · exact .refl u

theorem follows_present (c cond detail) : Follows s (s.present c cond detail) := by
  unfold State.present
  split
  · exact .refl s
  · split
    · split
      · exact .refl s
      · exact follows_rise s _ _
    · exact follows_onCauses s _

theorem follows_peerCauses : Follows s s.peerCauses :=
  ((follows_present s _ _ _).trans (follows_present _ _ _ _)).trans (follows_present _ _ _ _)

end Operations

section FreeOrder

/-- What each element keeps, whatever the free choices, all of them in any order keep. -/
theorem inFreeOrder_keeps {α : Type} {P : State → Prop} {f : α → State → State} (n : Nat) (l : List α) {s : State}
    (each : ∀ x ∈ l, ∀ u, P u → P (f x u)) (free : ∀ u n, P u → P { u with free := n }) (h : P s) :
    P (State.inFreeOrder f n l s) := by
  induction n generalizing l s with
  | zero =>
    match l with
    | [] => exact h
    | [x] => exact each x (by simp) s h
    | x :: _ :: _ => exact each x (by simp) s h
  | succ n ih =>
    match l with
    | [] => exact h
    | [x] => exact each x (by simp) s h
    | x :: y :: rest =>
      unfold State.inFreeOrder
      dsimp only
      have inside : Config.freeChoice s.free % (x :: y :: rest).length < (x :: y :: rest).length :=
        Nat.mod_lt _ (by simp)
      refine ih _ (fun z hz => each z (List.mem_of_mem_eraseIdx hz)) (each _ ?_ _ (free s _ h))
      rw [List.getD_eq_getElem _ _ inside]
      exact List.getElem_mem inside

end FreeOrder

section Reevaluation

variable (s : State)

theorem follows_enterStopped (h : s.st.progress < 6) : Follows s s.enterStopped :=
  (follows_moveTo s (new := .stopped) (.inr h)).trans (follows_loopCheck _)

theorem follows_enterSelftest (tag) (h : s.st.progress < 5) : Follows s (s.enterSelftest tag) :=
  ((follows_onSeq s (fun q => { q with selftestTag := tag }) rfl).trans
    (follows_moveTo _ (new := .selftest) (.inr h))).trans (follows_loopCheck _)

theorem follows_enterMode (m : Mode) (h : s.st.progress < 2) : Follows s (s.enterMode m) := by
  refine (follows_moveTo s (.inr ?_) ?_).trans (follows_present _ _ _ _) <;> cases m
  · exact h
  · exact h.trans (by decide)
  · decide
  · decide

theorem follows_leaveBreakaway (h : s.st.progress < 2) : Follows s s.leaveBreakaway := follows_enterMode s _ h

theorem follows_enterBreakaway (h : s.st.progress < 1) : Follows s s.enterBreakaway := by
  have entered : Follows s (s.moveTo .breakaway).checkGroupShort :=
    (follows_moveTo s (new := .breakaway) (.inr h)).trans (follows_present _ _ _ _)
  unfold State.enterBreakaway
  dsimp only
  split
  · next turning =>
    refine entered.trans (follows_leaveBreakaway _ ?_)
    rw [turning.1]
    decide
  · exact entered

theorem follows_writeMarked (code) : Follows s (s.writeMarked code) :=
  follows_onSeq s (fun q => { q with lastOutcome := some ⟨.demand, code, s.seq.startMark.getD 0⟩ }) rfl

/-- The mode substituted by CREEP, with its outcome, R34. -/
def State.substituted (s : State) : State :=
  (s.onSeq fun q => { q with intended := .creep }).writeMarked .runAsCreep

theorem follows_substituted : Follows s s.substituted :=
  (follows_onSeq s (fun q => { q with intended := .creep }) rfl).trans (follows_writeMarked _ _)

theorem follows_countChanged : Follows s s.countChanged := by
  unfold State.countChanged
  split
  · next starting =>
    split
    · refine (follows_writeMarked s .tooFew).trans (follows_enterStopped _ ?_)
      rw [st_writeMarked, starting]
      decide
    · split
      · exact follows_substituted s
      · exact .refl s
  · split
    · exact follows_substituted s
    · exact .refl s
  · next running =>
    split
    · refine (follows_writeMarked s .runAsCreep).trans (follows_moveTo _ (.inr ?_))
      rw [st_writeMarked, running]
      decide
    · exact .refl s
  · exact .refl s

theorem follows_checkGroup (changed) : Follows s (s.checkGroup changed) := by
  have ends (u : State) : Follows u (if u.st.driving then u else u.ceaseAll [.groupShort, .outOfStep]) := by
    split
    · exact .refl u
    · exact follows_onCauses u _
  unfold State.checkGroup
  refine Follows.trans ?_ (ends _)
  exact inFreeOrder_keeps (P := Follows s) _ _ (fun c _ u h => h.trans (follows_rise u c 0))
    (fun u n h => h.trans (.of_stays (stays_free u n))) (follows_onCauses s _)

theorem follows_standbyExit : Follows s s.standbyExit := by
  unfold State.standbyExit
  split
  · next idle =>
    have early : s.st.progress < 5 := by rw [idle.1]; decide
    split
    · exact follows_enterStopped s (by omega)
    · exact follows_enterSelftest s 0 early
  · exact .refl s

/-- The confirmation set of STARTING without the stations that are no participants any more, R31. -/
def State.confirmationKept (s : State) : State :=
  if s.st = .starting then s.onSeq fun q =>
      { q with confirmation := q.confirmation.filter s.peers.participants.contains } else s

/-- A count change answered, where there is one (R31, R34). -/
def State.counted (s : State) (changed : Bool) : State :=
  if changed then s.countChanged else s

/-- What a re-evaluation has led to before an emptied confirmation set ends STARTING (R31), from the list as it now
stands. -/
def State.regrouped (s : State) (changed : Bool) : State :=
  ((s.counted changed).checkGroup changed).standbyExit

/-- The list re-evaluated, and the confirmation set with it. -/
def State.relisted (s : State) : State :=
  s.refreshMembers.confirmationKept

/-- A re-evaluation by its parts. -/
theorem reevaluate_eq : s.reevaluate =
    if ((!s.seq.confirmation.isEmpty && s.relisted.seq.confirmation.isEmpty)
        && (s.relisted.regrouped (s.relisted.count != s.count)).st == .starting) = true
    then (s.relisted.regrouped (s.relisted.count != s.count)).enterBreakaway
    else s.relisted.regrouped (s.relisted.count != s.count) := rfl

theorem follows_confirmationKept : Follows s s.confirmationKept := by
  unfold State.confirmationKept
  split
  · exact follows_onSeq s _ rfl
  · exact .refl s

theorem follows_relisted : Follows s s.relisted := (follows_refreshMembers s).trans (follows_confirmationKept _)

theorem follows_regrouped (changed) : Follows s (s.regrouped changed) := by
  have counted : Follows s (s.counted changed) := by
    unfold State.counted
    split
    · exact follows_countChanged s
    · exact .refl s
  exact (counted.trans (follows_checkGroup _ changed)).trans (follows_standbyExit _)

theorem follows_reevaluate : Follows s s.reevaluate := by
  have regrouped : Follows s (s.relisted.regrouped (s.relisted.count != s.count)) :=
    (follows_relisted s).trans (follows_regrouped _ _)
  rw [reevaluate_eq]
  split
  · next emptied =>
    simp only [Bool.and_eq_true, beq_iff_eq] at emptied
    refine regrouped.trans (follows_enterBreakaway _ ?_)
    rw [emptied.2]
    decide
  · exact regrouped

end Reevaluation

section Entry

variable {s t : State}

/-- An entry that something followed has at most its non-running count cleared. -/
theorem Follows.entry (h : Follows s t) (n : Station) :
    t.entry n = s.entry n ∨ t.entry n = { s.entry n with nonRunning := 0 } := by
  rcases h.entries with h | ⟨-, -, h⟩
  · exact .inl (congrArg (fun e => e.get n) h)
  · refine .inr ?_
    unfold State.entry
    rw [h]
    simp

end Entry

end Sys2Proof.Machine
end

section
/-!
PROOFS. A frame refreshes its sender's entry (R3) and is withheld from its owner by the sender's kind (R152).
-/

namespace Sys2Proof.Machine

section Refresh

variable (s : State)

@[simp] theorem entry_onEntry_self (n : Station) (f : PeerEntry → PeerEntry) : (s.onEntry n f).entry n = f (s.entry n) :=
  Eight.get_set_self _ _ _

theorem entry_onEntry_ne {n m : Station} (f : PeerEntry → PeerEntry) (h : m ≠ n) :
    (s.onEntry n f).entry m = s.entry m :=
  Eight.get_set_ne _ _ h

theorem follows_refreshPeer (origin cls) :
    Follows (s.onEntry origin (PeerEntry.refreshed cls)) (s.refreshPeer origin cls) := by
  unfold State.refreshPeer
  dsimp only
  split
  · exact (follows_peerCauses _).trans (follows_reevaluate _)
  · exact .refl _

/-- The sender's entry after its frame, whatever the frame led to: refreshed, its non-running count perhaps cleared. -/
theorem refreshPeer_entry (origin cls) : (s.refreshPeer origin cls).entry origin = (s.entry origin).refreshed cls
    ∨ (s.refreshPeer origin cls).entry origin = { (s.entry origin).refreshed cls with nonRunning := 0 } := by
  rw [← entry_onEntry_self s origin (PeerEntry.refreshed cls)]
  exact (follows_refreshPeer s origin cls).entry origin

/-- A frame of a station that is PRESENT and whose kind it does not change is a refresh and nothing more. -/
theorem refreshPeer_quiet {origin cls} (present : (s.entry origin).entry = .present)
    (kind : kindAfter cls (s.entry origin).kind = (s.entry origin).kind) :
    s.refreshPeer origin cls = s.onEntry origin (PeerEntry.refreshed cls) := by
  unfold State.refreshPeer
  dsimp only
  rw [if_neg]
  rw [entry_onEntry_self]
  simp [PeerEntry.standingDiffers, PeerEntry.refreshed, present, kind]

end Refresh

section Owners

variable {s : State}

/-- Another station's frame that its owner takes or that is withheld from it, R152. -/
theorem frameArrives_heard {f : Frame} (owner : State → State) (active : s.link.active = true)
    (listening : s.link.listening = true) (other : f.origin ≠ s.loader.station) : s.frameArrives f owner
      = if withheld f.cls ((s.countValid.refreshPeer f.origin f.cls).entry f.origin).kind then
          (s.countValid.refreshPeer f.origin f.cls).onCounters fun k =>
            { k with wrongSenderKind := bump 65535 k.wrongSenderKind }
        else owner (s.countValid.refreshPeer f.origin f.cls) := by
  unfold State.frameArrives
  rw [hears_active _ _ active listening]
  exact if_neg other

theorem withheld_iff (cls : BitVec 3) (k : PeerKind) : withheld cls k = true
    ↔ ((cls = classOrder ∨ cls = classDemand ∨ cls = classQuery) ∧ k = .drive)
      ∨ (cls = classClamp ∧ k = .other) := by
  simp [withheld, or_assoc]

/-- The frames that may be withheld are none that a reader takes. -/
theorem arrives_of_withheld {c : Instr} {f : Frame} {k : PeerKind} (h : frameOfCommand c = some f)
    (back : withheld f.cls k = true) : ArrivesBy c f := by
  rcases exec_frame h with arrives | ⟨cls, -⟩
  · exact arrives
  · rcases cls with cls | cls <;> rw [cls] at back <;> cases k <;> exact absurd back (by decide)

/-- A REPLY has no owner: what it leaves is the refresh, R3, R152. -/
theorem exec_replyFrame (origin : Station) (words : List Word) (active : s.link.active = true)
    (listening : s.link.listening = true) (other : origin ≠ s.loader.station) :
    exec (.replyFrame origin words) s = .next (s.countValid.refreshPeer origin classReply) :=
  congrArg Host.Outcome.next (frameArrives_heard (f := ⟨classReply, origin, words⟩) id active listening other)

/-- An ORDER of an undefined kind has none either, but a drive's is counted as withheld, R41, R152. -/
theorem exec_orderUndefinedKind (origin : Station) (kind : BitVec 4) (order : OrderPayload)
    (active : s.link.active = true) (listening : s.link.listening = true) (other : origin ≠ s.loader.station) :
    exec (.orderUndefinedKind origin kind order) s = .next (
      if withheld classOrder ((s.countValid.refreshPeer origin classOrder).entry origin).kind then
        (s.countValid.refreshPeer origin classOrder).onCounters fun k =>
          { k with wrongSenderKind := bump 65535 k.wrongSenderKind }
      else s.countValid.refreshPeer origin classOrder) := by
  refine congrArg Host.Outcome.next
    ((frameArrives_heard (f := ⟨classOrder, origin, order.words kind⟩) _ active listening other).trans ?_)
  dsimp only
  split
  · rfl
  · exact ite_self _

theorem refreshed_reply {e : PeerEntry} (present : e.entry = .present) :
    e.refreshed classReply = { e with silence := 0, heard := min 65535 (e.heard + 1) } := by
  unfold PeerEntry.refreshed
  rw [← present]
  rfl

/-- Settles O37. -/
theorem frameRefreshesSender : Obligations.FrameRefreshesSender := by
  unfold Obligations.FrameRefreshesSender
  refine ⟨fun origin words kind order s active listening other _ => ⟨?_, ?_, fun present => ?_,
    fun present others => ?_⟩, ?_⟩
  · rw [exec_replyFrame origin words active listening other]
    refine ⟨_, rfl, ?_⟩
    rcases refreshPeer_entry s.countValid origin classReply with entry | entry <;> rw [entry] <;>
      exact ⟨rfl, rfl, rfl, rfl, rfl, rfl⟩
  · rw [exec_orderUndefinedKind origin kind order active listening other]
    have kept (e : State) (he : e.peers = (s.countValid.refreshPeer origin classOrder).peers) :
        (e.entry origin).silence = 0 ∧ (e.entry origin).entry = .present
          ∧ (e.entry origin).heard = min 65535 ((s.entry origin).heard + 1)
          ∧ (e.entry origin).kind = (if (s.entry origin).kind = .drive then .drive else .other) := by
      have same : e.entry origin = (s.countValid.refreshPeer origin classOrder).entry origin := by
        unfold State.entry
        rw [he]
      rw [same]
      rcases refreshPeer_entry s.countValid origin classOrder with entry | entry <;> rw [entry] <;>
        exact ⟨rfl, rfl, rfl, rfl⟩
    refine ⟨_, rfl, kept _ ?_⟩
    split <;> rfl
  · rw [exec_replyFrame origin words active listening other, refreshPeer_quiet s.countValid present rfl]
    show Host.Outcome.next (s.countValid.onEntry origin fun _ => (s.entry origin).refreshed classReply) = _
    rw [refreshed_reply present]
    rfl
  · have kindKept : kindAfter classOrder (s.entry origin).kind = (s.entry origin).kind := by
      rw [others]
      rfl
    rw [exec_orderUndefinedKind origin kind order active listening other,
      exec_replyFrame origin words active listening other, refreshPeer_quiet s.countValid present kindKept,
      refreshPeer_quiet s.countValid present rfl, if_neg]
    · refine congrArg Host.Outcome.next ?_
      have same : (s.entry origin).refreshed classOrder = (s.entry origin).refreshed classReply := by
        unfold PeerEntry.refreshed
        rw [kindKept]
        rfl
      show s.countValid.onEntry origin (fun _ => (s.entry origin).refreshed classOrder) = _
      rw [same]
      rfl
    · rw [entry_onEntry_self, withheld_iff]
      show ¬((_ ∧ kindAfter classOrder (s.entry origin).kind = .drive) ∨ _)
      rw [kindKept, others]
      simp [classOrder, classClamp]
  · rintro c f s u frame active listening other rfl rows
    have back := (withheld_iff f.cls ((s.countValid.refreshPeer f.origin f.cls).entry f.origin).kind).mpr rows
    obtain ⟨owner, arrives⟩ := arrives_of_withheld frame back
    rw [arrives, frameArrives_heard owner active listening other, if_pos back]
    rfl

end Owners

end Sys2Proof.Machine
end

section
/-!
PROOFS. A re-evaluation of the participant list (R17, R31, R34 to R37) where nothing is to be answered; CLAMP and ROLL
taken (R5, R14, R85).
-/

namespace Sys2Proof.Machine

section Calm

theorem CauseSet.ext_get {t u : CauseSet} (h : ∀ c, t.get c = u.get c) : t = u := by
  obtain ⟨⟩ := t
  obtain ⟨⟩ := u
  rw [CauseSet.mk.injEq]
  exact ⟨h .overcurrent, h .sampleLoss, h .overspeed, h .vibTrip, h .vibAlert, h .vibInput, h .jam, h .noBreakaway,
    h .overload, h .surge, h .peerSilent, h .peerLost, h .outOfStep, h .groupShort, h .demandLoss, h .peerTrip, h .loop,
    h .localStop, h .linkTransmit, h .duplicate, h .settingsGuard, h .supplyLow, h .selftestFail, h .foreignPeer⟩

variable (s : State)

theorem onCauses_congr {f g : CauseSet → CauseSet} (h : f s.cause.causes = g s.cause.causes) :
    s.onCauses f = s.onCauses g := by
  unfold State.onCauses State.onCause
  dsimp only
  rw [h]

/-- Causes ceased one after another are ceased together. -/
theorem ceaseAll_ceaseAll (cs ds : List Cause) : (s.ceaseAll cs).ceaseAll ds = s.ceaseAll (cs ++ ds) := by
  unfold State.ceaseAll
  refine Eq.trans rfl (onCauses_congr (f := fun t => ds.foldl CauseSet.cease (cs.foldl CauseSet.cease t)) s ?_)
  simp only [List.foldl_append]

/-- Which causes cease, and not how they are listed, decides what is left. -/
theorem ceaseAll_congr {cs ds : List Cause} (h : ∀ c, c ∈ cs ↔ c ∈ ds) : s.ceaseAll cs = s.ceaseAll ds := by
  refine onCauses_congr s (CauseSet.ext_get fun c => ?_)
  simp only [get_foldl_cease, h]

theorem undriven_groupShort (h : s.st.driving = false) : s.groupShortNow = false := by
  simp [State.groupShortNow, h]

theorem undriven_outOfStep (h : s.st.driving = false) : s.outOfStepNow = false := by
  simp [State.outOfStepNow, h]

/-- The causes of the group that a re-evaluation looks at, each with its condition, R35, R36. -/
def State.watched (s : State) (changed : Bool) : List (Cause × Bool) :=
  (if changed then [(.groupShort, s.groupShortNow)] else []) ++ [(.outOfStep, s.outOfStepNow)]

/-- The watched causes whose condition does not hold cease. -/
def State.unwatched (s : State) (changed : Bool) : State :=
  s.ceaseAll (((s.watched changed).filter fun p => !p.2).map (·.1))

/-- The watched causes that rise. -/
def State.rising (s : State) (changed : Bool) : List Cause :=
  ((s.watched changed).filter fun p => p.2 && !((s.unwatched changed).causeField p.1).present).map (·.1)

/-- Causes risen in free order. -/
def State.raised (s : State) (cs : List Cause) : State :=
  State.inFreeOrder (fun c s => s.rise c 0) cs.length cs s

/-- The causes of the group end where the driving states have been left. -/
def State.groupEnded (s : State) : State :=
  if s.st.driving then s else s.ceaseAll [.groupShort, .outOfStep]

theorem checkGroup_eq (changed) :
    s.checkGroup changed = ((s.unwatched changed).raised (s.rising changed)).groupEnded := rfl

@[simp] theorem raised_none : s.raised [] = s := rfl

@[simp] theorem raised_one (c : Cause) : s.raised [c] = s.rise c 0 := rfl

theorem groupEnded_driving (h : s.st.driving = true) : s.groupEnded = s := if_pos h

theorem groupEnded_undriven (h : s.st.driving = false) : s.groupEnded = s.ceaseAll [.groupShort, .outOfStep] :=
  if_neg (by simp [h])

/-- With neither cause of the group to rise they cease, GROUP_SHORT where it is evaluated, R35, R36. -/
theorem checkGroup_calm (changed : Bool) (driving : s.st.driving = true)
    (enough : changed = true → s.groupShortNow = false) (inStep : s.outOfStepNow = false) :
    s.checkGroup changed = s.ceaseAll (if changed then [.groupShort, .outOfStep] else [.outOfStep]) := by
  have none : s.rising changed = [] := by
    cases changed
    · simp [State.rising, State.watched, inStep]
    · simp [State.rising, State.watched, inStep, enough]
  have unmet : s.unwatched changed = s.ceaseAll (if changed then [.groupShort, .outOfStep] else [.outOfStep]) := by
    cases changed
    · simp [State.unwatched, State.watched, inStep]
    · simp [State.unwatched, State.watched, inStep, enough]
  rw [checkGroup_eq, none, raised_none, groupEnded_driving (s.unwatched changed) driving, unmet]

/-- Outside the driving states both are ended, R35, R36. -/
theorem checkGroup_undriven (changed : Bool) (h : s.st.driving = false) :
    s.checkGroup changed = s.ceaseAll [.groupShort, .outOfStep] := by
  have inStep := undriven_outOfStep s h
  have enough := undriven_groupShort s h
  have none : s.rising changed = [] := by
    cases changed <;> simp [State.rising, State.watched, inStep, enough]
  rw [checkGroup_eq, none, raised_none, groupEnded_undriven (s.unwatched changed) h, State.unwatched, ceaseAll_ceaseAll]
  refine ceaseAll_congr s fun c => ?_
  cases changed <;> simp [State.watched, inStep, enough] <;> tauto

theorem standbyExit_elsewhere (h : s.st ≠ .standby) : s.standbyExit = s := by
  simp [State.standbyExit, h]

/-- A count change is answered in STARTING, BREAKAWAY and RUN alone, R31, R34. -/
theorem countChanged_elsewhere (starting : s.st ≠ .starting) (breakaway : s.st ≠ .breakaway) (run : s.st ≠ .run) :
    s.countChanged = s := by
  unfold State.countChanged
  split
  · next h => exact absurd h starting
  · next h => exact absurd h breakaway
  · next h => exact absurd h run
  · rfl

theorem counted_elsewhere (changed) (starting : s.st ≠ .starting) (breakaway : s.st ≠ .breakaway)
    (run : s.st ≠ .run) : s.counted changed = s := by
  unfold State.counted
  split
  · exact countChanged_elsewhere s starting breakaway run
  · rfl

/-- With a confirmation set only in STARTING, what follows a re-evaluation elsewhere is what the state leads to. -/
theorem reevaluate_settled (h : s.st ≠ .starting) :
    s.reevaluate = s.refreshMembers.regrouped (s.refreshMembers.count != s.count) := by
  have listed : s.relisted = s.refreshMembers := if_neg h
  have past : s.st.progress ≠ 0 := by
    intro zero
    cases st : s.st <;> simp [st, StationState.progress] at zero
    exact h st
  have later := (follows_regrouped s.refreshMembers (s.refreshMembers.count != s.count)).progress_le
  have never : ((s.refreshMembers.regrouped (s.refreshMembers.count != s.count)).st == .starting) = false := by
    rw [beq_eq_false_iff_ne]
    intro st
    rw [st, st_refreshMembers] at later
    exact past (Nat.le_zero.mp later)
  rw [reevaluate_eq, listed, never, Bool.and_false]
  exact if_neg (by simp)

/-- Outside STARTING, the driving states and STANDBY the list and the trim follow, and the causes of the group end. -/
theorem reevaluate_idle (driving : s.st.driving = false) (starting : s.st ≠ .starting) (standby : s.st ≠ .standby) :
    s.reevaluate = s.refreshMembers.ceaseAll [.groupShort, .outOfStep] := by
  have parked : s.st ≠ .breakaway ∧ s.st ≠ .run := by
    constructor <;> intro st <;> simp [st, StationState.driving] at driving
  rw [reevaluate_settled s starting]
  generalize (s.refreshMembers.count != s.count) = changed
  unfold State.regrouped
  rw [counted_elsewhere s.refreshMembers changed starting parked.1 parked.2,
    checkGroup_undriven s.refreshMembers changed driving]
  exact standbyExit_elsewhere _ standby

theorem peerCauses_unjoined (h : s.st.joined = false) : s.peerCauses = s := by
  unfold State.peerCauses
  rw [present_unjoined s _ _ _ h, present_unjoined s _ _ _ h, present_unjoined s _ _ _ h]

end Calm

section Joining

variable (s : State)

theorem learnFrom_eq (origin : Station) (g : Word) : s.learnFrom origin g = { s with cause := { s.cause with
    g := if s.st = .joining ∧ (s.entry origin).foreign = false ∧ newer g s.cause.g = true then g else s.cause.g } } := by
  unfold State.learnFrom State.learnG State.setG State.onCause
  by_cases joining : s.st = .joining
  · cases foreign : (s.entry origin).foreign <;> cases number : newer g s.cause.g <;> simp [joining]
  · simp [joining]

/-- In JOINING a change of an entry presents no cause, and the re-evaluation leaves number and state, R109. -/
theorem joining_quiet (h : s.st = .joining) :
    s.peerCauses.reevaluate = s.refreshMembers.ceaseAll [.groupShort, .outOfStep] := by
  rw [peerCauses_unjoined s (by rw [h]; rfl), reevaluate_idle s] <;> simp [h, StationState.driving]

theorem follows_group : Follows s s.peerCauses.reevaluate :=
  (follows_peerCauses s).trans (follows_reevaluate _)

theorem Follows.joining {s t : State} (h : Follows s t) : t.st = .joining ↔ s.st = .joining := by
  constructor
  · intro st
    rw [← h.outside (by rw [st]; rfl), st]
  · intro st
    rcases h.st with same | onward
    · rw [same, st]
    · rw [st] at onward
      have : t.st.progress ≤ 10 := by cases t.st <;> decide
      exact absurd onward (Nat.not_lt.mpr this)

end Joining

section Taken

variable {s : State}

/-- A SHARE or a ROLL of another station is read in the state that has counted it, R151. -/
theorem hears_reader {f : Frame} (take : State → State) (active : s.link.active = true)
    (listening : s.link.listening = true) (other : f.origin ≠ s.loader.station) :
    (s.hears f fun s => if f.origin = s.loader.station then s.duplicate else take s) = take s.countValid := by
  rw [hears_active f _ active listening]
  exact if_neg other

/-- The entry of a joining station, R5. -/
def PeerEntry.rolled (e : PeerEntry) (foreign : Bool) : PeerEntry :=
  { kind := .drive, entry := .present, foreign := foreign, silence := 0, share := none, nonRunning := 0,
    heard := min 65535 (e.heard + 1) }

theorem installClamp_taken (s : State) {origin : Station} {p : ClampPayload} (foreign : (s.entry origin).foreign = false)
    (hold : p.hold ≠ 0) (level : s.limiter.clamp.active = false ∨ p.level.toNat ≤ s.limiter.clamp.level) :
    s.installClamp origin p = (s.onLimiter fun l => { l with clamp :=
      { active := true, level := p.level.toNat, origin := origin, causeCode := p.causeCode,
        remaining := p.hold.toNat, remainingUs := 0 } }).recompute := by
  unfold State.installClamp
  rw [foreign, if_neg (by simpa using hold), if_pos]
  rcases level with level | level <;> simp [level]

theorem installClamp_refused (s : State) {origin : Station} {p : ClampPayload} (h : (s.entry origin).foreign = true
    ∨ p.hold = 0 ∨ (s.limiter.clamp.active = true ∧ s.limiter.clamp.level < p.level.toNat)) :
    s.installClamp origin p = s := by
  unfold State.installClamp
  rcases h with h | h | ⟨active, below⟩
  · simp [h]
  · simp [h]
  · simp [active, Nat.not_le.mpr below]

/-- What is learned from a sender, after what its frame led to, R14. -/
theorem learnedFrom_group {v : State} {origin : Station} {own : Prop} [Decidable own] (st : v.st = s.st)
    (number : v.cause.g = s.cause.g) (ours : (v.entry origin).foreign = false ↔ own) (g : Word) :
    let w := v.peerCauses.reevaluate
    let t := w.learnFrom origin g
    (s.st = .joining → t.st = .joining
        ∧ t.cause.g = (if own ∧ newer g s.cause.g = true then g else s.cause.g))
      ∧ t = { w with cause := { w.cause with
          g := if s.st = .joining ∧ own ∧ newer g s.cause.g = true then g else w.cause.g } } := by
  have follows := follows_group v
  have foreign : (v.peerCauses.reevaluate.entry origin).foreign = (v.entry origin).foreign := by
    rcases follows.entry origin with entry | entry <;> rw [entry]
  have joining : v.peerCauses.reevaluate.st = .joining ↔ s.st = .joining := by rw [follows.joining, st]
  have kept (h : s.st = .joining) : v.peerCauses.reevaluate.cause.g = s.cause.g := by
    rw [joining_quiet v (st.trans h), ← number]
    rfl
  dsimp only
  rw [learnFrom_eq, foreign]
  simp only [joining, ours]
  refine ⟨fun h => ⟨joining.mpr h, ?_⟩, ?_⟩
  · simp [h, kept h]
  · by_cases h : s.st = .joining
    · simp [h, kept h]
    · simp [h]

theorem entry_learnFrom (s : State) (origin : Station) (g : Word) (n : Station) :
    (s.learnFrom origin g).entry n = s.entry n := by
  rw [learnFrom_eq]
  rfl

/-- Settles O52. -/
theorem clampAndRollTaken : Obligations.ClampAndRollTaken := by
  unfold Obligations.ClampAndRollTaken
  constructor
  · intro origin p s u reaches
    have answer : exec (.clampFrame origin p) s = .next (u.installClamp origin p) :=
      congrArg Host.Outcome.next (frameArrives_delivered reaches p.words _)
    rw [answer]
    refine ⟨fun refused => ?_, fun foreign hold level => ⟨_, rfl, ?_, ?_⟩⟩
    · rw [installClamp_refused u refused]
    · rw [installClamp_taken u foreign hold level]
      exact recompute_allowance _
    · rw [installClamp_taken u foreign hold level]
      rfl
  · intro origin p s active listening other
    have answer : exec (.rollFrame origin p) s = .next (s.countValid.takeRoll origin p) :=
      congrArg Host.Outcome.next (hears_reader (f := ⟨classRoll, origin, p.words⟩) _ active listening other)
    have taken : s.countValid.takeRoll origin p = ((s.withEntry origin
        ((s.entry origin).rolled (p.signature != s.cfg.signature))).peerCauses.reevaluate).learnFrom origin p.g := rfl
    have written : (s.withEntry origin ((s.entry origin).rolled (p.signature != s.cfg.signature))).entry origin
        = (s.entry origin).rolled (p.signature != s.cfg.signature) := Eight.get_set_self _ _ _
    have own : ((s.withEntry origin ((s.entry origin).rolled (p.signature != s.cfg.signature))).entry origin).foreign
        = false ↔ p.signature = s.cfg.signature := by
      rw [written]
      simp [PeerEntry.rolled]
    rw [answer, taken]
    refine ⟨_, rfl, ?_, learnedFrom_group (s := s) (v := s.withEntry origin
      ((s.entry origin).rolled (p.signature != s.cfg.signature))) rfl rfl own p.g⟩
    rw [entry_learnFrom]
    rcases (follows_group _).entry origin with entry | entry <;> rw [entry, written] <;> rfl

end Taken

end Sys2Proof.Machine
end

section
/-!
PROOFS. AGING_EXPIRY (R6, R7): what one aging does to the entries, and what of it the end of joining (R15) leaves.
-/

namespace Sys2Proof.Machine

section Tally

/-- The figures of an entry that only a frame or an aging changes, R3, R7. -/
def PeerEntry.tally (e : PeerEntry) : PeerKind × EntryState × Bool × Nat × Nat :=
  (e.kind, e.entry, e.foreign, e.silence, e.heard)

theorem Follows.tally {s t : State} (h : Follows s t) (n : Station) : (t.entry n).tally = (s.entry n).tally := by
  rcases h.entry n with same | same <;> rw [same]
  rfl

variable (s : State)

theorem onEntry_tally (n : Station) (f : PeerEntry → PeerEntry) (h : (f (s.entry n)).tally = (s.entry n).tally)
    (m : Station) : ((s.onEntry n f).entry m).tally = (s.entry m).tally := by
  by_cases hm : m = n
  · rw [hm, entry_onEntry_self, h]
  · rw [entry_onEntry_ne s f hm]

theorem composeShare_tally (n : Station) : (s.composeShare.entry n).tally = (s.entry n).tally := by
  cases mute : s.link.mute with
  | true =>
    rw [composeShare_mute s mute]
    rfl
  | false =>
    rw [composeShare_sent s mute, onLink_entry]
    exact onEntry_tally s.recomputeTrim s.loader.station (fun e => { e with share := some s.recomputeTrim.sharePayload })
      rfl n

theorem composeShare_timers : s.composeShare.timers = s.timers := rfl

theorem follows_presentAll : Follows s s.presentAll :=
  inFreeOrder_keeps (P := Follows s) _ _ (fun c _ u h => h.trans (follows_present u c true _))
    (fun u n h => h.trans (.of_stays (stays_free u n))) (.refl s)

/-- The end of joining up to its first SHARE, R13, R15, R129, R155. -/
def State.joinMoved (s : State) : State :=
  (((s.onLink fun l => { l with rollSlot := none }).onSeq fun q => { q with selftestTag := 0 }).moveTo
    s.joinEndState).onTimers fun t => { t with share := some s.cfg.sharePeriodUs, history := some s.cfg.sharePeriodUs }

theorem joinEnd_eq : s.joinEnd = s.joinMoved.composeShare.presentAll := by
  unfold State.joinEnd State.joinMoved
  dsimp only
  simp only [onSeq_cfg, onLink_cfg]

theorem joinEndState_cases : s.joinEndState = .tripped ∨ s.joinEndState = .standby ∨ s.joinEndState = .selftest := by
  unfold State.joinEndState
  split
  · exact .inl rfl
  · split
    · exact .inr (.inl rfl)
    · exact .inr (.inr rfl)

theorem joinEndState_driving : s.joinEndState.driving = false := by
  rcases joinEndState_cases s with h | h | h <;> rw [h] <;> rfl

theorem joinEndState_notJoining : s.joinEndState ≠ .joining := by
  rcases joinEndState_cases s with h | h | h <;> rw [h] <;> decide

variable {s} in
theorem joinMoved_entry (h : s.st = .joining) (n : Station) : s.joinMoved.entry n = s.entry n := by
  have leaves : s.st ≠ s.joinEndState := fun same => joinEndState_notJoining s (same ▸ h)
  have moved : s.joinMoved.entry n = (s.entry n).onMove s.joinEndState := moveTo_entry
    (s := (s.onLink fun l => { l with rollSlot := none }).onSeq fun q => { q with selftestTag := 0 }) leaves n
  rw [moved]
  simp [PeerEntry.onMove, joinEndState_driving]

variable {s} in
theorem joinMoved_aging (h : s.st = .joining) : s.joinMoved.timers.aging = s.timers.aging := by
  have leaves : s.st ≠ s.joinEndState := fun same => joinEndState_notJoining s (same ▸ h)
  have moved := moveTo_timers
    (s := (s.onLink fun l => { l with rollSlot := none }).onSeq fun q => { q with selftestTag := 0 }) leaves
  unfold State.joinMoved
  rw [onTimers_timers, moved]
  rfl

/-- What follows an aging in JOINING leaves what the aging made of the entries, and the aging timer. -/
theorem joinStep_tally : s.joinStep.timers.aging = s.timers.aging
    ∧ ∀ n, (s.joinStep.entry n).tally = (s.entry n).tally := by
  unfold State.joinStep
  split
  · exact ⟨rfl, fun _ => rfl⟩
  · next joining =>
    have joining : s.st = .joining := not_not.mp joining
    dsimp only
    split
    · exact ⟨rfl, fun _ => rfl⟩
    · generalize hu : (s.onPeers fun p => { p with joinExpiries := p.joinExpiries + 1 }) = u
      have st : u.st = .joining := by
        rw [← hu]
        exact joining
      have entries (n : Station) : u.entry n = s.entry n := by
        rw [← hu]
        rfl
      have aging : u.timers.aging = s.timers.aging := by rw [← hu]; rfl
      have follows := follows_presentAll u.joinMoved.composeShare
      rw [joinEnd_eq]
      refine ⟨?_, fun n => ?_⟩
      · rw [follows.aging, composeShare_timers, joinMoved_aging st, aging]
      · rw [follows.tally, composeShare_tally, joinMoved_entry st, entries]

end Tally

section Aging

variable (s : State)

theorem aged_present {e : PeerEntry} (h : e.entry ≠ .absent) :
    e.aged = { e with silence := min 10 (e.silence + 1), entry := entryStateAt (min 10 (e.silence + 1)) e.entry } :=
  if_neg h

theorem aged_absent {e : PeerEntry} (h : e.entry = .absent) : e.aged = e := if_pos h

theorem aged_figures (e : PeerEntry) : e.aged.kind = e.kind ∧ e.aged.foreign = e.foreign ∧ e.aged.heard = e.heard := by
  unfold PeerEntry.aged
  split <;> exact ⟨rfl, rfl, rfl⟩

theorem ageEntries_entry (n : Station) :
    s.ageEntries.entry n = if n = s.loader.station then s.entry n else (s.entry n).aged :=
  Eight.get_map _ _ _

/-- What an aging of the entries leads to, R8, R17. -/
theorem follows_age : Follows s.ageEntries s.age := by
  unfold State.age
  dsimp only
  split
  · exact follows_group s.ageEntries
  · exact .refl _

/-- The timer restarted, before the entries age. -/
def State.agingRestarted (s : State) : State :=
  s.onTimers fun t => { t with aging := some s.cfg.sharePeriodUs }

variable {s} in
theorem exec_agingExpiry (h : s.timers.aging.isSome = true) :
    exec .agingExpiry s = .next s.agingRestarted.age.joinStep := by
  refine congrArg Host.Outcome.next (if_neg ?_)
  simp [Option.isNone_iff_eq_none, ← Option.isSome_iff_ne_none, h]

theorem joinStep_elsewhere (h : s.st ≠ .joining) : s.joinStep = s := if_pos h

/-- Whether some standing differs after an aging: only the entry states can. -/
theorem standingsDiffer_aged : standingsDiffer s.ageEntries.peers.entries s.peers.entries = true
    ↔ ∃ n, (s.ageEntries.entry n).entry ≠ (s.entry n).entry := by
  have one (n : Station) : (s.ageEntries.entry n).standingDiffers (s.entry n) = true
      ↔ (s.ageEntries.entry n).entry ≠ (s.entry n).entry := by
    obtain ⟨kind, foreign, -⟩ := aged_figures (s.entry n)
    rw [ageEntries_entry]
    split
    · simp [PeerEntry.standingDiffers]
    · simp [PeerEntry.standingDiffers, kind, foreign]
  simp only [standingsDiffer, List.any_eq_true, mem_eightNumbers, true_and]
  exact exists_congr one

variable {s} in
theorem age_differing (h : ∃ n, (s.ageEntries.entry n).entry ≠ (s.entry n).entry) :
    s.age = s.ageEntries.peerCauses.reevaluate := if_pos ((standingsDiffer_aged s).mpr h)

variable {s} in
theorem age_same (h : ∀ n, (s.ageEntries.entry n).entry = (s.entry n).entry) : s.age = s.ageEntries := by
  refine if_neg ?_
  rw [standingsDiffer_aged]
  simp [h]

/-- The entries whose state the next aging leaves as it is, R7. -/
def PeerEntry.SettledFor (e : PeerEntry) : Prop :=
  e.entry = .absent ∨ (e.entry = .present ∧ e.silence < 2) ∨ (e.entry = .silent ∧ 2 ≤ e.silence ∧ e.silence < 9)
    ∨ (e.entry = .lost ∧ 9 ≤ e.silence)

theorem aged_settled {e : PeerEntry} (h : e.SettledFor) :
    e.aged = if e.entry = .absent then e else { e with silence := min 10 (e.silence + 1) } := by
  split
  · next absent => exact aged_absent absent
  · next known =>
    rw [aged_present known]
    congr 1
    unfold entryStateAt
    rcases h with absent | ⟨entry, low⟩ | ⟨entry, low, high⟩ | ⟨entry, low⟩
    · exact absurd absent known
    · rw [if_neg (by omega), if_neg (by omega)]
    · rw [if_neg (by omega), if_pos (by omega), entry]
    · rw [if_pos (by omega), entry]

end Aging

section Expiry

variable {s : State}

theorem ageRow {e t : PeerEntry} (known : e.entry ≠ .absent) (same : t.tally = e.aged.tally) :
    t.silence = min 10 (e.silence + 1)
      ∧ t.entry = (if t.silence = 10 then .lost else if 3 ≤ t.silence then .silent else e.entry) := by
  rw [aged_present known] at same
  simp only [PeerEntry.tally, Prod.mk.injEq] at same
  obtain ⟨-, entry, -, silence, -⟩ := same
  have last : 10 ≤ min 10 (e.silence + 1) ↔ min 10 (e.silence + 1) = 10 := by omega
  refine ⟨silence, ?_⟩
  rw [entry, silence]
  simp only [entryStateAt, last]

/-- Whatever follows an aging expiry, its timer restarts and the entries show one aging. -/
theorem agingExpiry_tally (h : s.timers.aging.isSome = true) : ∃ t, exec .agingExpiry s = .next t
    ∧ t.timers.aging = some (s.cfg.sharePeriod * 1000)
    ∧ ∀ n, (t.entry n).tally = (if n = s.loader.station then s.entry n else (s.entry n).aged).tally := by
  obtain ⟨aging, tally⟩ := joinStep_tally s.agingRestarted.age
  have follows := follows_age s.agingRestarted
  refine ⟨_, exec_agingExpiry h, ?_, fun n => ?_⟩
  · rw [aging, follows.aging]
    rfl
  · rw [tally, follows.tally, ageEntries_entry]
    rfl

/-- With no entry whose state an aging changes, nothing follows it. -/
theorem agingExpiry_same (h : s.timers.aging.isSome = true) (joined : s.st ≠ .joining)
    (settled : ∀ n, n ≠ s.loader.station → (s.entry n).SettledFor) :
    exec .agingExpiry s = .next { s with
      timers := { s.timers with aging := some (s.cfg.sharePeriod * 1000) }
      peers := { s.peers with entries := s.peers.entries.map fun n e =>
        if n = s.loader.station ∨ e.entry = .absent then e else { e with silence := min 10 (e.silence + 1) } } } := by
  have aged (n : Station) : (if n = s.loader.station then s.entry n else (s.entry n).aged)
      = if n = s.loader.station ∨ (s.entry n).entry = .absent then s.entry n
        else { s.entry n with silence := min 10 ((s.entry n).silence + 1) } := by
    by_cases own : n = s.loader.station
    · simp [own]
    · simp [own, aged_settled (settled n own)]
  have standing (n : Station) : (s.agingRestarted.ageEntries.entry n).entry = (s.agingRestarted.entry n).entry := by
    rw [ageEntries_entry]
    show (if n = s.loader.station then s.entry n else (s.entry n).aged).entry = (s.entry n).entry
    rw [aged]
    split <;> rfl
  rw [exec_agingExpiry h, age_same standing, joinStep_elsewhere s.agingRestarted.ageEntries joined]
  have entries : (s.peers.entries.map fun n e => if n = s.loader.station then e else e.aged)
      = s.peers.entries.map fun n e =>
        if n = s.loader.station ∨ e.entry = .absent then e else { e with silence := min 10 (e.silence + 1) } := by
    simp only [Eight.map, Eight.mk.injEq]
    exact ⟨aged 0, aged 1, aged 2, aged 3, aged 4, aged 5, aged 6, aged 7⟩
  rw [← entries]
  rfl

/-- Else the peer causes are presented and the list re-evaluated, R8, R17. -/
theorem agingExpiry_differing (h : s.timers.aging.isSome = true) (joined : s.st ≠ .joining)
    (differs : ∃ n, (s.agingRestarted.ageEntries.entry n).entry ≠ (s.entry n).entry) :
    exec .agingExpiry s = .next s.agingRestarted.ageEntries.peerCauses.reevaluate := by
  have follows := follows_group s.agingRestarted.ageEntries
  rw [exec_agingExpiry h, age_differing (s := s.agingRestarted) differs, joinStep_elsewhere]
  rw [Ne, follows.joining]
  exact joined

/-- A frame after the expiry and an expiry after the frame, R3, R7. -/
theorem refreshed_aged (cls : BitVec 3) (e : PeerEntry) (_ : e.entry ≠ .absent) :
    (e.aged.refreshed cls).silence = 0 ∧ (e.aged.refreshed cls).entry = .present
      ∧ (e.refreshed cls).aged.silence = 1 ∧ (e.refreshed cls).aged.entry = .present := ⟨rfl, rfl, rfl, rfl⟩

end Expiry

section PeerCauses

variable (s : State)

theorem peerSilentNow_eq : s.peerSilentNow = decide (∃ n, n ≠ s.loader.station ∧ (s.entry n).kind = .drive
    ∧ (s.entry n).foreign = false ∧ (s.entry n).entry = .silent) := by
  rw [Bool.eq_iff_iff]
  simp [State.peerSilentNow, State.groupDrive, mem_eightNumbers, and_assoc]

theorem peerLostNow_eq : s.peerLostNow = decide (∃ n, n ≠ s.loader.station ∧ (s.entry n).kind = .drive
    ∧ (s.entry n).foreign = false ∧ (s.entry n).entry = .lost) := by
  rw [Bool.eq_iff_iff]
  simp [State.peerLostNow, State.groupDrive, mem_eightNumbers, and_assoc]

theorem foreignNow_eq : s.foreignNow = decide (∃ n, (s.entry n).foreign = true) := by
  rw [Bool.eq_iff_iff]
  simp [State.foreignNow, mem_eightNumbers]

theorem refreshPeer_eq (origin : Station) (cls : BitVec 3) {u : State}
    (hu : u = s.onEntry origin (PeerEntry.refreshed cls)) : s.refreshPeer origin cls =
      (if (u.entry origin).entry ≠ (s.entry origin).entry ∨ (u.entry origin).kind ≠ (s.entry origin).kind
       then u.peerCauses.reevaluate else u) := by
  have foreign : (u.entry origin).foreign = (s.entry origin).foreign := by
    rw [hu, entry_onEntry_self]
    rfl
  unfold State.refreshPeer
  rw [← hu]
  refine if_congr ?_ rfl rfl
  simp [PeerEntry.standingDiffers, foreign]

end PeerCauses

end Sys2Proof.Machine
end

section
/-!
PROOFS. The participant list at a change between participating states (R16, R17), and the entry to BREAKAWAY with
enough participants (R28, R32, R75).
-/

namespace Sys2Proof.Machine

section List

variable {s : State}

theorem someOtherShows_iff (s : State) (kind : StationState → Bool) : s.someOtherShows kind = true
    ↔ ∃ n ∈ s.peers.participants, n ≠ s.loader.station ∧ (s.entry n).shows kind = true := by
  simp [State.someOtherShows, State.others]

theorem participating_blocksRun {st : StationState} (h : st.participating = true) : st.blocksRun = true := by
  cases st <;> first | rfl | cases h

/-- In a participating state the list holds this station when it is ready, and the others by their entries, R16. -/
theorem participantsNow_participating (h : s.st.participating = true) : s.participantsNow
    = eightNumbers.filter fun n => if n = s.loader.station then s.ready else (s.entry n).participates := by
  have each : s.isParticipant = fun n => if n = s.loader.station then s.ready else (s.entry n).participates := by
    funext n
    unfold State.isParticipant
    rw [h, Bool.true_and]
  unfold State.participantsNow
  rw [if_pos (participating_blocksRun h), each]

theorem moveTo_ready (s : State) (new : StationState) : (s.moveTo new).ready = s.ready :=
  congrArg (! ·) (moveTo_latched s new .selftestFail).1

theorem onMove_participates (new : StationState) (e : PeerEntry) : (e.onMove new).participates = e.participates := rfl

/-- A change between participating states leaves the list as it stands, R16, R17. -/
theorem moveTo_participants {new : StationState} (h : s.st ≠ new) (old : s.st.participating = true)
    (next : new.participating = true) : (s.moveTo new).peers.participants = s.participantsNow := by
  have settled : (s.moveTo new).peers.participants = (s.moveTo new).participantsNow := moveTo_participantsOk h
  have next : (s.moveTo new).st.participating = true := by rwa [st_moveTo]
  rw [settled, participantsNow_participating next, participantsNow_participating old]
  simp only [moveTo_loader, moveTo_ready, moveTo_entry h, onMove_participates]

end List

/-- The station goes between two participating states with its list in order. -/
structure Regroups (s : State) (new : StationState) : Prop where
  leaves : s.st ≠ new
  old : s.st.participating = true
  next : new.participating = true
  list : s.ParticipantsOk

namespace Regroups

variable {s : State} {new : StationState} (h : Regroups s new)
include h

theorem participants : (s.moveTo new).peers.participants = s.peers.participants :=
  (moveTo_participants h.leaves h.old h.next).trans h.list.symm

theorem count : (s.moveTo new).count = s.count := congrArg List.length h.participants

theorem someOtherShows (kind : StationState → Bool) :
    (s.moveTo new).someOtherShows kind = s.someOtherShows kind := by
  rw [Bool.eq_iff_iff, someOtherShows_iff, someOtherShows_iff, h.participants, moveTo_loader]
  simp only [moveTo_entry h.leaves]
  rfl

/-- GROUP_SHORT, evaluated at the entry to a driving state, does not rise with enough participants, R35. -/
theorem checkGroupShort (enough : s.cfg.minCreep ≤ s.count) :
    (s.moveTo new).checkGroupShort = (s.moveTo new).cease .groupShort := by
  have unmet : (s.moveTo new).groupShortNow = false := by
    simp [State.groupShortNow, h.count, Nat.not_lt.mpr enough]
  have joined : (s.moveTo new).st.joined = true := by
    have next := h.next
    rw [st_moveTo]
    cases new <;> first | rfl | cases next
  exact present_ceases _ 0 joined unmet

end Regroups

section Breakaway

variable {s : State}

/-- BREAKAWAY as it is entered with enough participants, R28, R75. -/
def State.breakawayEntered (s : State) : State :=
  (s.moveTo .breakaway).cease .groupShort

/-- The mode entered at the end of breakaway with enough participants, R24, R32. -/
def State.modeEntered (s : State) : State :=
  (s.moveTo (s.modeFor s.seq.intended).state).cease .groupShort

theorem mode_participating (m : Mode) : m.state.participating = true := by cases m <;> rfl

theorem mode_ne_breakaway (m : Mode) : m.state ≠ .breakaway := by cases m <;> decide

theorem leaveBreakaway_enough (st : s.st = .breakaway) (list : s.ParticipantsOk) (enough : s.cfg.minCreep ≤ s.count) :
    s.leaveBreakaway = s.modeEntered := by
  have regroups : Regroups s (s.modeFor s.seq.intended).state :=
    ⟨fun same => mode_ne_breakaway _ (same.symm.trans st), by rw [st]; rfl, mode_participating _, list⟩
  exact regroups.checkGroupShort enough

theorem enterBreakaway_enough (st : s.st = .starting) (list : s.ParticipantsOk) (enough : s.cfg.minCreep ≤ s.count) :
    s.enterBreakaway = if s.someOtherShows StationState.regulating = true then s.breakawayEntered.modeEntered
      else s.breakawayEntered := by
  have regroups : Regroups s .breakaway := ⟨by rw [st]; decide, by rw [st]; rfl, rfl, list⟩
  have entered : s.breakawayEntered.st = .breakaway := st_moveTo s .breakaway
  have shows : s.breakawayEntered.someOtherShows StationState.regulating
      = s.someOtherShows StationState.regulating := regroups.someOtherShows _
  unfold State.enterBreakaway
  rw [regroups.checkGroupShort enough]
  dsimp only
  refine if_congr ?_ (leaveBreakaway_enough entered ?_ ?_) rfl
  · show s.breakawayEntered.st = .breakaway ∧ s.breakawayEntered.someOtherShows StationState.regulating = true ↔ _
    rw [entered, shows]
    simp
  · exact moveTo_participantsOk regroups.leaves
  · show (s.moveTo .breakaway).cfg.minCreep ≤ (s.moveTo .breakaway).count
    rw [moveTo_cfg, regroups.count]
    exact enough

theorem breakawayEntered_seq (st : s.st = .starting) : s.breakawayEntered.seq
    = { s.seq with station := .breakaway, confirmation := [] } := by
  have leaves : s.st ≠ .breakaway := by rw [st]; decide
  refine (moveTo_seq leaves).trans ?_
  simp [Sequencer.onMove, st]

theorem breakawayEntered_startWindow (st : s.st = .starting) : s.breakawayEntered.timers.startWindow = none := by
  have leaves : s.st ≠ .breakaway := by rw [st]; decide
  refine (congrArg Timers.startWindow (moveTo_timers leaves)).trans ?_
  simp [Timers.onMove, st]

theorem breakawayEntered_stage (st : s.st = .starting) : s.breakawayEntered.limiter.stage = 1 := by
  have leaves : s.st ≠ .breakaway := by rw [st]; decide
  exact (congrArg Limiter.stage (moveTo_limiter leaves)).trans rfl

theorem modeEntered_st (s : State) : s.modeEntered.st = (s.modeFor s.seq.intended).state := st_moveTo _ _

theorem modeFor_state (s : State) : (s.modeFor s.seq.intended).state
    = if s.seq.intended = .run ∧ s.cfg.minRun ≤ s.count then .run else .creep := by
  unfold State.modeFor
  by_cases few : s.count < s.cfg.minRun
  · cases s.seq.intended <;> simp [few, Nat.not_le.mpr few, Mode.state]
  · cases s.seq.intended <;> simp [few, Nat.not_lt.mp few, Mode.state]

section Entered

variable (st : s.st = .breakaway)
include st

theorem modeEntered_leaves : s.st ≠ (s.modeFor s.seq.intended).state :=
  fun same => mode_ne_breakaway _ (same.symm.trans st)

theorem modeEntered_seq : s.modeEntered.seq.confirmation = s.seq.confirmation
    ∧ s.modeEntered.seq.lastOutcome = s.seq.lastOutcome ∧ s.modeEntered.seq.startMark = s.seq.startMark := by
  have seq : s.modeEntered.seq = _ := moveTo_seq (modeEntered_leaves st)
  rw [seq]
  simp [Sequencer.onMove, st]

theorem modeEntered_startWindow : s.modeEntered.timers.startWindow = s.timers.startWindow := by
  refine (congrArg Timers.startWindow (moveTo_timers (modeEntered_leaves st))).trans ?_
  simp [Timers.onMove, st]

theorem modeEntered_stage : s.modeEntered.limiter.stage = 0 :=
  (congrArg Limiter.stage (moveTo_limiter (modeEntered_leaves st))).trans (if_neg (mode_ne_breakaway _))

end Entered

end Breakaway

section Starting

variable {s : State}

theorem loopCheck_quiet (s : State) (drive : s.lines.loopDrive = false) (others : s.inputs.loopOthers = false) :
    s.loopCheck = s := by
  refine if_neg ?_
  simp [State.loopSensed, drive, others]

theorem enterStopped_quiet (h : s.st ≠ .stopped) (others : s.inputs.loopOthers = false) :
    s.enterStopped = s.moveTo .stopped := by
  refine loopCheck_quiet _ ?_ ?_
  · rw [moveTo_lines h]
    rfl
  · rw [moveTo_inputs]
    exact others

/-- Whether a re-evaluation substitutes CREEP for an intended RUN, R34. -/
def State.substitutes (s : State) : Bool :=
  decide (s.participantsNow.length ≠ s.count ∧ s.participantsNow.length < s.cfg.minRun ∧ s.seq.intended = .run)

theorem relisted_starting (st : s.st = .starting) : s.relisted = s.refreshMembers.onSeq fun q =>
    { q with confirmation := q.confirmation.filter s.participantsNow.contains } := if_pos st

/-- STARTING after a re-evaluation that leaves enough participants for CREEP, R31, R34. -/
def State.startingSettled (s : State) : State :=
  (if s.substitutes then s.relisted.substituted else s.relisted).ceaseAll [.groupShort, .outOfStep]

theorem regrouped_undriven (s : State) (changed : Bool) (driving : (s.counted changed).st.driving = false)
    (standby : (s.counted changed).st ≠ .standby) :
    s.regrouped changed = (s.counted changed).ceaseAll [.groupShort, .outOfStep] := by
  unfold State.regrouped
  rw [checkGroup_undriven (s.counted changed) changed driving]
  exact standbyExit_elsewhere _ standby

section Relisted

variable (st : s.st = .starting)
include st

theorem relisted_seq : s.relisted.seq
    = { s.seq with confirmation := s.seq.confirmation.filter s.participantsNow.contains } := by
  rw [relisted_starting st]
  rfl

theorem relisted_st : s.relisted.st = .starting := by
  rw [relisted_starting st]
  exact st

theorem relisted_peers : s.relisted.peers = { s.peers with participants := s.participantsNow } := by
  rw [relisted_starting st]
  rfl

theorem relisted_blocks : s.relisted.cfg = s.cfg ∧ s.relisted.timers = s.timers ∧ s.relisted.inputs = s.inputs
    ∧ s.relisted.loader = s.loader := by
  rw [relisted_starting st]
  exact ⟨rfl, rfl, rfl, rfl⟩

theorem relisted_participantsOk : s.relisted.ParticipantsOk := by
  rw [relisted_starting st]
  exact participants_congr (s := s.refreshMembers) rfl rfl rfl (fun _ _ => rfl) rfl (refreshMembers_settled s)

theorem relisted_count : s.relisted.count = s.participantsNow.length := by
  unfold State.count
  rw [relisted_peers st]

/-- TOO_FEW in STARTING, R31. -/
theorem reevaluate_starting_few (changed : s.participantsNow.length ≠ s.count)
    (few : s.participantsNow.length < s.cfg.minCreep) (others : s.inputs.loopOthers = false) :
    s.reevaluate = ((s.relisted.writeMarked .tooFew).moveTo .stopped).ceaseAll [.groupShort, .outOfStep] := by
  have starting : (s.relisted.writeMarked .tooFew).st = .starting := relisted_st st
  have leaves : (s.relisted.writeMarked .tooFew).st ≠ .stopped := by rw [starting]; decide
  have quiet : (s.relisted.writeMarked .tooFew).inputs.loopOthers = false := by
    show s.relisted.inputs.loopOthers = false
    rw [(relisted_blocks st).2.2.1]
    exact others
  have counted : s.relisted.counted (s.relisted.count != s.count)
      = (s.relisted.writeMarked .tooFew).moveTo .stopped := by
    have short : s.relisted.count < s.relisted.cfg.minCreep := by
      rw [relisted_count st, (relisted_blocks st).1]
      exact few
    have moved : (s.relisted.count != s.count) = true := by
      rw [relisted_count st]
      simpa using changed
    rw [moved, State.counted, if_pos rfl, State.countChanged]
    simp only [relisted_st st, short, if_true]
    exact enterStopped_quiet leaves quiet
  have regrouped : s.relisted.regrouped (s.relisted.count != s.count)
      = ((s.relisted.writeMarked .tooFew).moveTo .stopped).ceaseAll [.groupShort, .outOfStep] := by
    rw [regrouped_undriven, counted] <;> rw [counted, st_moveTo] <;> decide
  have stopped : (s.relisted.regrouped (s.relisted.count != s.count)).st = .stopped := by
    rw [regrouped]
    exact st_moveTo _ _
  rw [reevaluate_eq, stopped, if_neg (by simp), regrouped]

theorem startingSettled_st : s.startingSettled.st = .starting := by
  have relisted := relisted_st st
  unfold State.startingSettled
  split <;> exact relisted

/-- With enough participants for CREEP an emptied confirmation set ends STARTING, R31. -/
theorem reevaluate_starting_enough (enough : s.cfg.minCreep ≤ s.participantsNow.length) : s.reevaluate
    = if s.seq.confirmation ≠ [] ∧ s.seq.confirmation.filter s.participantsNow.contains = []
      then s.startingSettled.enterBreakaway else s.startingSettled := by
  have relisted := relisted_st st
  have counted : s.relisted.counted (s.relisted.count != s.count)
      = if s.substitutes then s.relisted.substituted else s.relisted := by
    have intended : s.relisted.seq.intended = s.seq.intended := by rw [relisted_seq st]
    unfold State.counted State.countChanged State.substitutes
    simp only [relisted, relisted_count st, (relisted_blocks st).1, intended]
    by_cases changed : s.participantsNow.length = s.count
    · simp [changed]
    · simp only [bne_iff_ne, ne_eq, changed, not_false_eq_true, if_true, true_and, decide_eq_true_eq]
      exact if_neg (Nat.not_lt.mpr enough)
  have kind : (s.relisted.counted (s.relisted.count != s.count)).st = .starting := by
    rw [counted]
    split <;> exact relisted
  have regrouped : s.relisted.regrouped (s.relisted.count != s.count) = s.startingSettled := by
    rw [regrouped_undriven, counted]
    · rfl
    · rw [kind]
      rfl
    · rw [kind]
      decide
  rw [reevaluate_eq, regrouped, startingSettled_st st, relisted_seq st]
  refine if_congr ?_ rfl rfl
  simp

theorem startingSettled_seq : s.startingSettled.seq = { s.seq with
    confirmation := s.seq.confirmation.filter s.participantsNow.contains
    intended := if s.substitutes then .creep else s.seq.intended
    lastOutcome := if s.substitutes then some ⟨.demand, .runAsCreep, s.seq.startMark.getD 0⟩
      else s.seq.lastOutcome } := by
  have seq := relisted_seq st
  unfold State.startingSettled
  split
  · show { s.relisted.seq with
        intended := .creep, lastOutcome := some ⟨.demand, .runAsCreep, s.relisted.seq.startMark.getD 0⟩ } = _
    rw [seq]
  · exact seq

theorem startingSettled_blocks : s.startingSettled.peers = { s.peers with participants := s.participantsNow }
    ∧ s.startingSettled.timers = s.timers ∧ s.startingSettled.cfg = s.cfg ∧ s.startingSettled.loader = s.loader := by
  obtain ⟨cfg, timers, -, loader⟩ := relisted_blocks st
  have peers := relisted_peers st
  unfold State.startingSettled
  split <;> exact ⟨peers, timers, cfg, loader⟩

theorem startingSettled_participantsOk : s.startingSettled.ParticipantsOk := by
  have list := relisted_participantsOk st
  have ready : s.startingSettled.ready = s.relisted.ready := by
    unfold State.startingSettled State.ready
    rw [ceaseAll_causeField]
    split <;> rfl
  refine participants_congr (s := s.relisted) ?_ ?_ ready ?_ ?_ list
  · rw [startingSettled_st st, relisted_st st]
  · rw [(startingSettled_blocks st).2.2.2, (relisted_blocks st).2.2.2]
  · intro n _
    unfold State.entry
    rw [(startingSettled_blocks st).1, relisted_peers st]
  · rw [(startingSettled_blocks st).1, relisted_peers st]

end Relisted

section Rows

variable {m : Byte} (st : s.st = .starting) (marked : s.seq.startMark = some m)
include st marked

/-- R31's first row. -/
theorem starting_few (changed : s.participantsNow.length ≠ s.count)
    (few : s.participantsNow.length < s.cfg.minCreep) (others : s.inputs.loopOthers = false) :
    s.reevaluate.st = .stopped ∧ s.reevaluate.seq.confirmation = [] ∧ s.reevaluate.timers.startWindow = none
      ∧ s.reevaluate.seq.lastOutcome = some ⟨.demand, .tooFew, m⟩
      ∧ s.reevaluate.seq.startMark = s.seq.startMark := by
  have relisted := relisted_st st
  have seq := relisted_seq st
  have leaves : (s.relisted.writeMarked .tooFew).st ≠ .stopped := by
    show s.relisted.st ≠ _
    rw [relisted]
    decide
  have moved := moveTo_seq leaves
  have timers := moveTo_timers leaves
  have old : (s.relisted.writeMarked .tooFew).st = .starting := relisted
  rw [reevaluate_starting_few st changed few others]
  refine ⟨st_moveTo _ _, ?_, ?_, ?_, ?_⟩
  · show ((s.relisted.writeMarked .tooFew).moveTo .stopped).seq.confirmation = _
    rw [moved, old]
    rfl
  · show ((s.relisted.writeMarked .tooFew).moveTo .stopped).timers.startWindow = _
    rw [timers, old]
    rfl
  · show ((s.relisted.writeMarked .tooFew).moveTo .stopped).seq.lastOutcome = _
    rw [moved]
    show some (LastOutcome.mk .demand .tooFew (s.relisted.seq.startMark.getD 0)) = _
    rw [seq, marked]
    rfl
  · show ((s.relisted.writeMarked .tooFew).moveTo .stopped).seq.startMark = _
    rw [moved]
    show s.relisted.seq.startMark = _
    rw [seq]

/-- The settled outcome with the mark it carries. -/
theorem startingSettled_lastOutcome : s.startingSettled.seq.lastOutcome
    = if s.substitutes then some ⟨.demand, .runAsCreep, m⟩ else s.seq.lastOutcome := by
  rw [startingSettled_seq st, marked]
  rfl

variable (enough : s.cfg.minCreep ≤ s.participantsNow.length)
include enough

theorem starting_waits (kept : s.seq.confirmation.filter s.participantsNow.contains ≠ [] ∨ s.seq.confirmation = []) :
    s.reevaluate.st = .starting
      ∧ s.reevaluate.seq.confirmation = s.seq.confirmation.filter s.participantsNow.contains
      ∧ s.reevaluate.seq.intended = (if s.substitutes then .creep else s.seq.intended)
      ∧ s.reevaluate.timers.startWindow = s.timers.startWindow
      ∧ s.reevaluate.seq.lastOutcome
        = (if s.substitutes then some ⟨.demand, .runAsCreep, m⟩ else s.seq.lastOutcome) := by
  have waits : s.reevaluate = s.startingSettled := by
    rw [reevaluate_starting_enough st enough, if_neg]
    rintro ⟨waiting, emptied⟩
    exact kept.elim (· emptied) waiting
  rw [waits, (startingSettled_blocks st).2.1]
  refine ⟨startingSettled_st st, ?_, ?_, rfl, startingSettled_lastOutcome st marked⟩ <;> rw [startingSettled_seq st]

theorem starting_emptied (kept : s.seq.confirmation.filter s.participantsNow.contains = [])
    (waiting : s.seq.confirmation ≠ []) :
    s.reevaluate.seq.confirmation = [] ∧ s.reevaluate.timers.startWindow = none
      ∧ s.reevaluate.seq.lastOutcome
        = (if s.substitutes then some ⟨.demand, .runAsCreep, m⟩ else s.seq.lastOutcome)
      ∧ (s.startingSettled.someOtherShows StationState.regulating = false → s.reevaluate.st = .breakaway
        ∧ s.reevaluate.seq.intended = (if s.substitutes then .creep else s.seq.intended)
        ∧ s.reevaluate.limiter.stage = 1)
      ∧ (s.startingSettled.someOtherShows StationState.regulating = true → s.reevaluate.st
        = (if (if s.substitutes then .creep else s.seq.intended) = Mode.run ∧ s.cfg.minRun ≤ s.participantsNow.length
           then .run else .creep)) := by
  have settled := startingSettled_st st
  have list := startingSettled_participantsOk st
  obtain ⟨peers, timers, cfg, loader⟩ := startingSettled_blocks st
  have count : s.startingSettled.count = s.participantsNow.length := by rw [State.count, peers]
  have long : s.startingSettled.cfg.minCreep ≤ s.startingSettled.count := by rwa [cfg, count]
  have entered : s.startingSettled.breakawayEntered.st = .breakaway := st_moveTo _ _
  have seq := breakawayEntered_seq settled
  have window := breakawayEntered_startWindow settled
  have outcome := startingSettled_lastOutcome st marked
  have intended : s.startingSettled.seq.intended = if s.substitutes then .creep else s.seq.intended := by
    rw [startingSettled_seq st]
  have regroups : Regroups s.startingSettled .breakaway := ⟨by rw [settled]; decide, by rw [settled]; rfl, rfl, list⟩
  have many : s.startingSettled.breakawayEntered.count = s.participantsNow.length := regroups.count.trans count
  have limits : s.startingSettled.breakawayEntered.cfg = s.cfg := (moveTo_cfg _ _).trans cfg
  rw [reevaluate_starting_enough st enough, if_pos ⟨waiting, kept⟩, enterBreakaway_enough settled list long]
  cases turning : s.startingSettled.someOtherShows StationState.regulating with
  | false =>
    rw [if_neg (by simp)]
    refine ⟨by rw [seq], window, by rw [seq]; exact outcome, fun _ => ⟨entered, by rw [seq]; exact intended,
      breakawayEntered_stage settled⟩, by simp⟩
  | true =>
    obtain ⟨confirmation, last, -⟩ := modeEntered_seq entered
    rw [if_pos rfl]
    refine ⟨by rw [confirmation, seq], by rw [modeEntered_startWindow entered, window],
      by rw [last, seq]; exact outcome, by simp, fun _ => ?_⟩
    rw [modeEntered_st, modeFor_state, many, limits, seq]
    simp only [intended]

end Rows

theorem startingSettled_turning (st : s.st = .starting) (kind : StationState → Bool) :
    s.startingSettled.someOtherShows kind = true
      ↔ ∃ n ∈ s.participantsNow, n ≠ s.loader.station ∧ (s.entry n).shows kind = true := by
  obtain ⟨peers, -, -, loader⟩ := startingSettled_blocks st
  rw [someOtherShows_iff, peers, loader]
  unfold State.entry
  rw [peers]

end Starting

end Sys2Proof.Machine
end

section
/-!
PROOFS. A re-evaluation in the driving states (R34 to R36) and in STANDBY (R37): the causes of the group that rise, in
either order (R111), and what the trips among them leave.
-/

namespace Sys2Proof.Machine

section Rises

variable (s : State)

theorem subsequentCause_latched (c carried) (e : Cause) :
    ((s.subsequentCause c carried).causeField e).latched = (s.causeField e).latched
      ∧ ((s.subsequentCause c carried).causeField e).count = (s.causeField e).count := by
  refine subsequentCause_cases s (P := fun t => (t.causeField e).latched = (s.causeField e).latched
    ∧ (t.causeField e).count = (s.causeField e).count) c carried fun u recorded => ?_
  rcases recorded with rfl | rfl <;> exact ⟨⟨rfl, rfl⟩, fun _ => moveTo_latched _ _ e⟩

theorem originTrip_latched (c detail) (e : Cause) :
    ((s.originTrip c detail).causeField e).latched = (s.causeField e).latched
      ∧ ((s.originTrip c detail).causeField e).count = (s.causeField e).count := by
  have begun : (s.originBegun c detail).causeField e = s.causeField e :=
    congrArg (CauseSet.get · e) (originBegun_causes s c detail)
  rw [originTrip_eq, ← begun]
  exact tripMove_latched _ e

/-- What acts on a rise latches and counts no cause. -/
theorem rise_latched (c detail) (e : Cause) :
    ((s.rise c detail).causeField e).latched = ((s.risen c).causeField e).latched
      ∧ ((s.rise c detail).causeField e).count = ((s.risen c).causeField e).count := by
  rw [rise_eq]
  generalize s.risen c = u
  unfold State.actOnRise
  split
  · split
    · exact originTrip_latched u c detail e
    · split
      · exact subsequentCause_latched u c none e
      · exact ⟨rfl, rfl⟩
  · exact (stays_composeClamp u c).latched e
  · exact ⟨rfl, rfl⟩

theorem rise_latched_self (c detail) : ((s.rise c detail).causeField c).latched = true
    ∧ ((s.rise c detail).causeField c).count = min 255 ((s.causeField c).count + 1) := by
  obtain ⟨latched, count⟩ := rise_latched s c detail c
  rw [latched, count, risen_causeField]
  exact ⟨rfl, rfl⟩

theorem rise_latched_ne {c e : Cause} (detail) (h : e ≠ c) :
    ((s.rise c detail).causeField e).latched = (s.causeField e).latched
      ∧ ((s.rise c detail).causeField e).count = (s.causeField e).count := by
  have same := rise_latched s c detail e
  rwa [risen_causeField_ne s h] at same

theorem raised_two (a b : Cause) : ∃ n, s.raised [a, b] = (State.rise { s with free := n } a 0).rise b 0
    ∨ s.raised [a, b] = (State.rise { s with free := n } b 0).rise a 0 := by
  refine ⟨s.free + 1, ?_⟩
  have two : Config.freeChoice s.free % 2 = 0 ∨ Config.freeChoice s.free % 2 = 1 := Nat.mod_two_eq_zero_or_one _
  rcases two with first | second
  · left
    simp [State.raised, State.inFreeOrder, first]
  · right
    simp [State.raised, State.inFreeOrder, second]

end Rises

/-- From the driving state `s` a trip of this station's own was made, R114, R115. -/
structure Tripped (s t : State) : Prop where
  st : t.st = tripTarget s.st s.speed.standstill
  stopped : t.Stopped
  g : t.cause.g = successor s.cause.g
  actions : t.cause.actions = s.cause.actions
  seq : t.seq.intended = s.seq.intended ∧ t.seq.lastOutcome = s.seq.lastOutcome

section Trips

variable {s t u : State}

theorem Tripped.of_stays (h : Tripped s t) (k : Stays t u) : Tripped s u :=
  ⟨k.st.trans h.st, k.stopped h.stopped, k.g.trans h.g, (by rw [k.cause, h.actions]), (by rw [k.seq]; exact h.seq)⟩

theorem Tripped.undriven (h : Tripped s t) : t.st.driving = false ∧ t.st.canTrip = false ∧ t.st ≠ .clearing
    ∧ t.st ≠ .standby := by
  rw [h.st]
  unfold tripTarget
  split <;> decide

theorem onMove_answers (q : Sequencer) (old : StationState) {new : StationState} (h : new.cruising = false) :
    (q.onMove old new).intended = q.intended ∧ (q.onMove old new).lastOutcome = q.lastOutcome := by
  cases new <;> first | exact ⟨rfl, rfl⟩ | cases h

theorem moveTo_answers (s : State) {new : StationState} (h : new.cruising = false) :
    (s.moveTo new).seq.intended = s.seq.intended ∧ (s.moveTo new).seq.lastOutcome = s.seq.lastOutcome := by
  by_cases same : s.st = new
  · rw [moveTo_eq s same]
    exact ⟨rfl, rfl⟩
  · rw [moveTo_seq same]
    exact onMove_answers _ _ h

theorem tripMove_answers (h : s.st.running = true) :
    s.tripMove.seq.intended = s.seq.intended ∧ s.tripMove.seq.lastOutcome = s.seq.lastOutcome := by
  have slows := moveTo_answers s (new := .tripDecel) rfl
  have halts := moveTo_answers (s.moveTo .tripDecel) (new := .tripped) rfl
  rw [tripMove_running s h]
  split
  · exact ⟨halts.1.trans slows.1, halts.2.trans slows.2⟩
  · exact slows

theorem originBegun_seq (s : State) (c detail) : (s.originBegun c detail).seq = s.seq := by
  simp [State.originBegun, State.setG, State.beginTrip, State.openRecord, State.composeTrip]

theorem driving_running {st : StationState} (h : st.driving = true) : st.running = true ∧ st.canTrip = true := by
  cases st <;> first | exact ⟨rfl, rfl⟩ | cases h

theorem tripped_originTrip (h : s.st.driving = true) (c detail) : Tripped s (s.originTrip c detail) := by
  obtain ⟨running, can⟩ := driving_running h
  have running : (s.originBegun c detail).st.running = true := by rwa [originBegun_st]
  have can' : (s.originBegun c detail).st.canTrip = true := by rwa [originBegun_st]
  have answers := tripMove_answers running
  rw [originBegun_seq] at answers
  have g := originTrip_g s c detail
  have st := originTrip_st s c detail can
  rw [originTrip_eq] at g st ⊢
  exact ⟨st, tripMove_stopped _ can', g, by rw [tripMove_actions, originBegun_actions], answers⟩

/-- A trip from a state that differs from `s` in nothing the trip is made of. -/
theorem Tripped.of_same {u : State} (h : Tripped u t) (st : u.st = s.st) (speed : u.speed = s.speed)
    (g : u.cause.g = s.cause.g) (actions : u.cause.actions = s.cause.actions) (seq : u.seq = s.seq) : Tripped s t :=
  ⟨by rw [h.st, st, speed], h.stopped, by rw [h.g, g], h.actions.trans actions, by rw [← seq]; exact h.seq⟩

/-- A TRIP-action rise in a driving state trips. -/
theorem tripped_rise (h : s.st.driving = true) {c : Cause} (detail) (action : s.actionOf c = .trip) :
    Tripped s (s.rise c detail) := by
  rw [rise_trip s detail action (driving_running h).2]
  exact (tripped_originTrip (s := s.risen c) h c detail).of_same rfl rfl rfl rfl rfl

theorem stays_risen_seq (s : State) (c : Cause) : (s.risen c).st = s.st ∧ (s.risen c).cause.g = s.cause.g
    ∧ (s.risen c).seq = s.seq := ⟨rfl, rfl, rfl⟩

/-- A further rise after the trip leaves it. -/
theorem Tripped.rise (h : Tripped s t) (c : Cause) (detail) : Tripped s (t.rise c detail) := by
  obtain ⟨-, can, clearing, -⟩ := h.undriven
  have risen : Tripped s (t.risen c) := ⟨h.st, h.stopped, h.g, h.actions, h.seq⟩
  exact risen.of_stays (stays_rise t detail fun trips => trips.2.elim (by simp [can]) clearing)

/-- A rise of another action in a driving state leaves state, number and answers. -/
theorem stays_rise_quiet (s : State) {c : Cause} (detail) (action : s.actionOf c ≠ .trip) :
    Stays (s.risen c) (s.rise c detail) := stays_rise s detail fun trips => action trips.1

theorem actionOf_groupShort (s : State) : s.actionOf .groupShort = .trip := rfl

/-- GROUP_SHORT among the rises trips, in whatever order they are taken, R35, R111. -/
theorem raised_groupShort (h : s.st.driving = true) {cs : List Cause}
    (hcs : cs = [.groupShort] ∨ cs = [.groupShort, .outOfStep]) : Tripped s (s.raised cs)
      ∧ ((s.raised cs).causeField .groupShort).latched = true
      ∧ ((s.raised cs).causeField .groupShort).count = min 255 ((s.causeField .groupShort).count + 1) := by
  rcases hcs with rfl | rfl
  · exact ⟨tripped_rise h 0 (actionOf_groupShort s), rise_latched_self s .groupShort 0⟩
  · obtain ⟨n, order | order⟩ := raised_two s .groupShort .outOfStep <;> rw [order]
    · have trips : Tripped s (State.rise { s with free := n } .groupShort 0) :=
        (tripped_rise (s := { s with free := n }) h (c := .groupShort) 0 rfl).of_same rfl rfl rfl rfl rfl
      obtain ⟨latched, count⟩ :=
        rise_latched_ne (State.rise { s with free := n } .groupShort 0) (c := .outOfStep) (e := .groupShort) 0 (by decide)
      obtain ⟨latched', count'⟩ := rise_latched_self { s with free := n } .groupShort 0
      exact ⟨trips.rise .outOfStep 0, latched.trans latched', count.trans count'⟩
    · obtain ⟨latched, count⟩ := rise_latched_self (State.rise { s with free := n } .outOfStep 0) .groupShort 0
      obtain ⟨-, count'⟩ := rise_latched_ne { s with free := n } (c := .outOfStep) (e := .groupShort) 0 (by decide)
      refine ⟨?_, latched, by rw [count, count']; rfl⟩
      by_cases action : s.actionOf .outOfStep = .trip
      · have trips : Tripped s (State.rise { s with free := n } .outOfStep 0) :=
          (tripped_rise (s := { s with free := n }) h (c := .outOfStep) 0 action).of_same rfl rfl rfl rfl rfl
        exact trips.rise .groupShort 0
      · have quiet := stays_rise_quiet { s with free := n } (c := .outOfStep) 0 action
        have st : (State.rise { s with free := n } .outOfStep 0).st = s.st := quiet.st
        have trips := tripped_rise (s := State.rise { s with free := n } .outOfStep 0) (by rwa [st]) (c := .groupShort) 0
          rfl
        have speed : (State.rise { s with free := n } .outOfStep 0).speed = s.speed := quiet.speed
        have actions : (State.rise { s with free := n } .outOfStep 0).cause.actions = s.cause.actions := by
          rw [quiet.cause]
          rfl
        have g : (State.rise { s with free := n } .outOfStep 0).cause.g = s.cause.g := quiet.g
        have seq : (State.rise { s with free := n } .outOfStep 0).seq = s.seq := quiet.seq
        exact trips.of_same st speed g actions seq

end Trips

/-- The count change answered in a driving state, R34: `moved` says whether RUN was left for CREEP. -/
structure Recounted (s : State) (moved : Bool) (k : State) : Prop where
  st : k.st = if moved then .creep else s.st
  driving : k.st.driving = true
  list : k.peers.participants = s.participantsNow
  entry : ∀ n, k.entry n = if moved then { s.entry n with nonRunning := 0 } else s.entry n
  groupShort : k.causeField .groupShort = s.causeField .groupShort
  outOfStep : k.causeField .outOfStep = s.causeField .outOfStep
  standstill : k.speed.standstill = s.speed.standstill
  cause : k.cause.g = s.cause.g ∧ k.cause.actions = s.cause.actions
  cfg : k.cfg = s.cfg
  answers : k.seq.intended = (if s.substitutes && s.st != .creep then .creep else s.seq.intended)
    ∧ k.seq.lastOutcome = (if s.substitutes && s.st != .creep
        then some ⟨.demand, .runAsCreep, s.seq.startMark.getD 0⟩ else s.seq.lastOutcome)

section Driving

variable {s : State}

theorem refreshMembers_count (s : State) : s.refreshMembers.count = s.participantsNow.length := rfl

/-- The list re-evaluated with nothing to answer. -/
theorem recounted_same (driving : s.st.driving = true) (quiet : (s.substitutes && s.st != .creep) = false) :
    Recounted s false s.refreshMembers := by
  refine ⟨rfl, driving, rfl, fun _ => rfl, rfl, rfl, rfl, ⟨rfl, rfl⟩, rfl, ?_⟩
  rw [quiet]
  exact ⟨rfl, rfl⟩

theorem recounted_substituted (st : s.st = .breakaway) (substitutes : s.substitutes = true) :
    Recounted s false s.refreshMembers.substituted := by
  refine ⟨rfl, ?_, rfl, fun _ => rfl, rfl, rfl, rfl, ⟨rfl, rfl⟩, rfl, ?_⟩
  · show s.st.driving = true
    rw [st]
    rfl
  · rw [substitutes, st]
    exact ⟨rfl, rfl⟩

theorem recounted_moved (st : s.st = .run) (substitutes : s.substitutes = true)
    (absent : (s.causeField .outOfStep).present = false) :
    Recounted s true ((s.refreshMembers.writeMarked .runAsCreep).moveTo .creep) := by
  have old : (s.refreshMembers.writeMarked .runAsCreep).st = .run := st
  have leaves : (s.refreshMembers.writeMarked .runAsCreep).st ≠ .creep := by rw [old]; decide
  have speed := congrArg SpeedUnit.standstill (moveTo_speed leaves)
  have seq := moveTo_seq leaves
  have list : (s.refreshMembers.writeMarked .runAsCreep).participantsNow = s.participantsNow :=
    participantsNow_congr rfl rfl rfl fun _ _ => rfl
  refine ⟨st_moveTo _ _, by rw [st_moveTo]; rfl, ?_, moveTo_entry leaves, ?_, ?_, speed, ⟨moveTo_g _ _, moveTo_actions _ _⟩,
    moveTo_cfg _ _, ?_⟩
  · rw [moveTo_participants leaves (by rw [old]; rfl) rfl, list]
  · exact moveTo_causeField_kept leaves (by decide) (by decide)
  · have ended := moveTo_ended leaves (c := .outOfStep) (by decide)
    obtain ⟨latched, count⟩ := moveTo_latched (s.refreshMembers.writeMarked .runAsCreep) .creep .outOfStep
    have field : (s.refreshMembers.writeMarked .runAsCreep).causeField .outOfStep = s.causeField .outOfStep := rfl
    rw [field] at latched count
    rw [CauseField.mk.injEq]
    exact ⟨ended.trans absent.symm, latched, count⟩
  · rw [seq, substitutes, st]
    exact ⟨rfl, rfl⟩

theorem counted_driving (driving : s.st.driving = true) (absent : (s.causeField .outOfStep).present = false)
    (mode : s.st = .run → s.seq.intended = .run) : Recounted s (s.substitutes && s.st == .run)
      (s.refreshMembers.counted (s.refreshMembers.count != s.count)) := by
  have limits : s.refreshMembers.cfg.minRun = s.cfg.minRun := rfl
  have intended : s.refreshMembers.seq.intended = s.seq.intended := rfl
  have kind : s.refreshMembers.st = s.st := rfl
  unfold State.counted State.countChanged
  simp only [refreshMembers_count, limits, intended, kind]
  rcases (driving_iff s.st).mp driving with st | st | st
  · have stays : (s.substitutes && s.st == .run) = false := by rw [st]; simp
    rw [stays]
    simp only [st]
    cases substitutes : s.substitutes with
    | false =>
      have same := recounted_same driving (by rw [substitutes]; rfl)
      simp only [State.substitutes, decide_eq_false_iff_not, not_and] at substitutes
      split
      · next changed =>
        rw [if_neg]
        · exact same
        · exact fun few => substitutes (by simpa using changed) few.1 few.2
      · exact same
    | true =>
      have answered := recounted_substituted st substitutes
      simp only [State.substitutes, decide_eq_true_eq] at substitutes
      rw [if_pos (by simpa using substitutes.1), if_pos substitutes.2]
      exact answered
  · simp only [st]
    cases substitutes : s.substitutes with
    | false =>
      have same := recounted_same driving (by rw [substitutes]; rfl)
      simp only [State.substitutes, decide_eq_false_iff_not, not_and] at substitutes
      split
      · next changed =>
        rw [if_neg]
        · exact same
        · exact fun few => substitutes (by simpa using changed) few (mode st)
      · exact same
    | true =>
      have moved := recounted_moved st substitutes absent
      simp only [State.substitutes, decide_eq_true_eq] at substitutes
      rw [if_pos (by simpa using substitutes.1), if_pos substitutes.2.1]
      exact moved
  · have stays : (s.substitutes && s.st == .run) = false := by rw [st]; simp
    rw [stays]
    simp only [st, ite_self]
    exact recounted_same driving (by rw [st]; simp)

end Driving

section Watched

variable {s k : State} {moved : Bool}

theorem Recounted.groupShortNow (h : Recounted s moved k) :
    k.groupShortNow = decide (s.participantsNow.length < s.cfg.minCreep) := by
  rw [State.groupShortNow, h.driving, Bool.true_and, State.count, h.list, h.cfg]

theorem Recounted.outOfStepNow (h : Recounted s moved k) : k.outOfStepNow = true
    ↔ moved = false ∧ ∃ n ∈ s.participantsNow, 2 ≤ (s.entry n).nonRunning := by
  unfold State.outOfStepNow
  rw [h.driving, h.list]
  simp only [Bool.true_and, List.any_eq_true, decide_eq_true_eq, h.entry]
  cases moved <;> simp

theorem CauseField.eq_absent {f g : CauseField} (hf : f.present = false) (hg : g.present = false)
    (latched : f.latched = g.latched ∧ f.count = g.count) : f = g := by
  rw [CauseField.mk.injEq]
  exact ⟨hf.trans hg.symm, latched⟩

/-- What ends the check of the group ceases its causes, where the driving states were left. -/
theorem Tripped.groupEnded {t : State} (h : Tripped s t) :
    t.groupEnded.standbyExit = t.ceaseAll [.groupShort, .outOfStep] := by
  obtain ⟨undriven, -, -, standby⟩ := h.undriven
  rw [groupEnded_undriven t undriven]
  exact standbyExit_elsewhere _ standby

theorem Tripped.ceaseAll {t : State} (h : Tripped s t) (cs) : Tripped s (t.ceaseAll cs) :=
  ⟨h.st, h.stopped, h.g, h.actions, h.seq⟩

theorem standbyExit_driving (t : State) (h : t.st.driving = true) : t.groupEnded.standbyExit = t := by
  rw [groupEnded_driving t h]
  refine standbyExit_elsewhere t fun st => ?_
  rw [st] at h
  cases h

/-- Too few participants for CREEP at a count change trip, R35. -/
theorem Recounted.short (h : Recounted s moved k) (few : s.participantsNow.length < s.cfg.minCreep)
    (absent : (s.causeField .groupShort).present = false) (inStep : (s.causeField .outOfStep).present = false) :
    Tripped k (k.checkGroup true).standbyExit
      ∧ (k.checkGroup true).standbyExit.causeField .groupShort = CauseField.mk false true
          (min 255 ((s.causeField .groupShort).count + 1)) := by
  have short : k.groupShortNow = true := by rw [h.groupShortNow, decide_eq_true few]
  have gs : (k.causeField .groupShort).present = false := by rw [h.groupShort, absent]
  have oos : (k.causeField .outOfStep).present = false := by rw [h.outOfStep, inStep]
  have rising : k.rising true = [.groupShort] ∨ k.rising true = [.groupShort, .outOfStep] := by
    cases step : k.outOfStepNow
    · left
      simp [State.rising, State.watched, State.unwatched, short, step, gs]
    · right
      simp [State.rising, State.watched, State.unwatched, short, step, gs, oos]
  have same : (k.unwatched true).causeField .groupShort = s.causeField .groupShort := by
    rw [State.unwatched, ceaseAll_causeField, h.groupShort, absent, Bool.false_and, ← absent]
  have trips : Tripped (k.unwatched true) ((k.unwatched true).raised (k.rising true)) ∧ _ :=
    raised_groupShort (s := k.unwatched true) h.driving rising
  obtain ⟨trips, latched, count⟩ := trips
  have trips : Tripped k ((k.unwatched true).raised (k.rising true)) := trips.of_same rfl rfl rfl rfl rfl
  rw [checkGroup_eq, trips.groupEnded]
  refine ⟨trips.ceaseAll _, ?_⟩
  rw [same] at count
  rw [ceaseAll_causeField, CauseField.mk.injEq]
  exact ⟨by simp, latched, count⟩

/-- With enough participants GROUP_SHORT stands as it stood; a station in step drives on, R36. -/
theorem Recounted.calm (h : Recounted s moved k) {changed : Bool}
    (enough : changed = true → ¬s.participantsNow.length < s.cfg.minCreep) (inStep : k.outOfStepNow = false) :
    (k.checkGroup changed).standbyExit
      = k.ceaseAll (if changed then [.groupShort, .outOfStep] else [.outOfStep]) := by
  have enough : changed = true → k.groupShortNow = false := fun c => by
    rw [h.groupShortNow, decide_eq_false (enough c)]
  have calm := checkGroup_calm k changed h.driving enough inStep
  rw [calm]
  refine standbyExit_elsewhere _ fun st => ?_
  have driving := h.driving
  rw [show k.st = .standby from st] at driving
  cases driving

/-- A participant out of step makes OUT_OF_STEP rise, R36. -/
theorem Recounted.outOfStepRises (h : Recounted s moved k) {changed : Bool}
    (enough : changed = true → ¬s.participantsNow.length < s.cfg.minCreep) (step : k.outOfStepNow = true)
    (inStep : (s.causeField .outOfStep).present = false) : ∃ cs, .outOfStep ∉ cs
      ∧ k.checkGroup changed = ((k.ceaseAll cs).rise .outOfStep 0).groupEnded := by
  have oos : (k.causeField .outOfStep).present = false := by rw [h.outOfStep, inStep]
  refine ⟨if changed then [.groupShort] else [], by split <;> simp, ?_⟩
  cases changed with
  | false =>
    have rising : k.rising false = [.outOfStep] := by
      simp [State.rising, State.watched, State.unwatched, step, oos]
    have unmet : k.unwatched false = k.ceaseAll [] := by
      simp [State.unwatched, State.watched, step]
    rw [checkGroup_eq, rising, raised_one, unmet]
    rfl
  | true =>
    have long : k.groupShortNow = false := by rw [h.groupShortNow, decide_eq_false (enough rfl)]
    have rising : k.rising true = [.outOfStep] := by
      simp [State.rising, State.watched, State.unwatched, step, oos, long]
    have unmet : k.unwatched true = k.ceaseAll [.groupShort] := by
      simp [State.unwatched, State.watched, step, long]
    rw [checkGroup_eq, rising, raised_one, unmet]
    rfl

end Watched

section Rows

variable {s : State}

theorem Recounted.outOfStep_row {k : State} {moved : Bool} (h : Recounted s moved k) {changed : Bool}
    (enough : changed = true → ¬s.participantsNow.length < s.cfg.minCreep) (step : k.outOfStepNow = true)
    (inStep : (s.causeField .outOfStep).present = false) :
    let t := (k.checkGroup changed).standbyExit
    ((s.causeField .groupShort).present = false → t.causeField .groupShort = s.causeField .groupShort)
      ∧ (t.causeField .outOfStep).latched = true
      ∧ (t.causeField .outOfStep).count = min 255 ((s.causeField .outOfStep).count + 1)
      ∧ t.seq.intended = k.seq.intended ∧ t.seq.lastOutcome = k.seq.lastOutcome
      ∧ (s.cause.actions.outOfStep.action = .trip →
          Tripped k t ∧ (t.causeField .outOfStep).present = false)
      ∧ (s.cause.actions.outOfStep.action ≠ .trip → t.st = k.st ∧ (t.causeField .outOfStep).present = true) := by
  obtain ⟨cs, kept, rises⟩ := h.outOfStepRises enough step inStep
  have driving : (k.ceaseAll cs).st.driving = true := h.driving
  have action : (k.ceaseAll cs).actionOf .outOfStep = s.cause.actions.outOfStep.action :=
    congrArg (fun a : ActionTable => a.outOfStep.action) h.cause.2
  have before (short : (s.causeField .groupShort).present = false) :
      (k.ceaseAll cs).causeField .groupShort = s.causeField .groupShort := by
    rw [ceaseAll_causeField, h.groupShort, short, Bool.false_and, ← short]
  have count : ((k.ceaseAll cs).causeField .outOfStep).count = (s.causeField .outOfStep).count := by
    rw [ceaseAll_causeField, h.outOfStep]
  obtain ⟨latched, counted⟩ := rise_latched_self (k.ceaseAll cs) .outOfStep 0
  have other := rise_latched_ne (k.ceaseAll cs) (c := .outOfStep) (e := .groupShort) 0 (by decide)
  rw [count] at counted
  rw [rises]
  by_cases trips : s.cause.actions.outOfStep.action = .trip
  · have tripped : Tripped k ((k.ceaseAll cs).rise .outOfStep 0) :=
      (tripped_rise driving 0 (action.trans trips)).of_same rfl rfl rfl rfl rfl
    rw [tripped.groupEnded]
    refine ⟨fun short => ?_, ?_, ?_, tripped.seq.1, tripped.seq.2, fun _ => ⟨tripped.ceaseAll _, ?_⟩,
      fun quiet => absurd trips quiet⟩
    · rw [before short] at other
      refine CauseField.eq_absent ?_ short ?_ <;> rw [ceaseAll_causeField]
      · simp
      · exact other
    · rw [ceaseAll_causeField]
      exact latched
    · rw [ceaseAll_causeField]
      exact counted
    · rw [ceaseAll_causeField]
      simp
  · have quiet := stays_rise_quiet (k.ceaseAll cs) (c := .outOfStep) 0 (by rwa [action])
    have st : ((k.ceaseAll cs).rise .outOfStep 0).st = k.st := quiet.st
    have seq : ((k.ceaseAll cs).rise .outOfStep 0).seq = k.seq := quiet.seq
    rw [standbyExit_driving _ (by rw [st]; exact h.driving)]
    refine ⟨fun short => ?_, latched, counted, by rw [seq], by rw [seq], fun no => absurd no trips, fun _ => ⟨st, ?_⟩⟩
    · rw [quiet.causeField _ (by decide), risen_causeField_ne _ (by decide), before short]
    · rw [quiet.causeField _ (by decide), risen_causeField]

theorem reevaluate_driving (driving : s.st.driving = true) : s.reevaluate
    = ((s.refreshMembers.counted (s.refreshMembers.count != s.count)).checkGroup
        (s.refreshMembers.count != s.count)).standbyExit := by
  refine reevaluate_settled s fun st => ?_
  rw [st] at driving
  cases driving

/-- A driving station in step with its group unchanged has no OUT_OF_STEP, R36. -/
theorem reevaluate_inStep (driving : s.st.driving = true) (same : s.participantsNow.length = s.count)
    (inStep : ∀ n ∈ s.participantsNow, (s.entry n).nonRunning < 2) :
    s.reevaluate = s.refreshMembers.ceaseAll [.outOfStep] := by
  have quiet : (s.substitutes && s.st != .creep) = false := by simp [State.substitutes, same]
  have recounted := recounted_same driving quiet
  have unchanged : (s.refreshMembers.count != s.count) = false := by rw [refreshMembers_count, same, bne_self_eq_false]
  have calm : s.refreshMembers.outOfStepNow = false := by
    rw [← Bool.not_eq_true, recounted.outOfStepNow]
    rintro ⟨-, n, member, step⟩
    exact absurd (inStep n member) (Nat.not_lt.mpr step)
  have still : s.refreshMembers.counted false = s.refreshMembers := rfl
  rw [reevaluate_driving driving, unchanged, still, recounted.calm (changed := false) (by simp) calm]
  rfl

/-- STANDBY is left when no other participant is starting or running, R37. -/
theorem reevaluate_standby (st : s.st = .standby) (others : s.inputs.loopOthers = false) : s.reevaluate.st
    = (if ∃ n ∈ s.participantsNow, n ≠ s.loader.station ∧ (s.entry n).shows StationState.startingOrRunning = true
       then .standby else if s.seq.selftestDone = true then .stopped else .selftest) := by
  have driving : s.refreshMembers.st.driving = false := by
    show s.st.driving = false
    rw [st]
    rfl
  have standby : (s.refreshMembers.ceaseAll [.groupShort, .outOfStep]).st = .standby := st
  have shows : (s.refreshMembers.ceaseAll [.groupShort, .outOfStep]).someOtherShows StationState.startingOrRunning = true
      ↔ ∃ n ∈ s.participantsNow, n ≠ s.loader.station ∧ (s.entry n).shows StationState.startingOrRunning = true :=
    someOtherShows_iff _ _
  have settled : s.reevaluate = (s.refreshMembers.ceaseAll [.groupShort, .outOfStep]).standbyExit := by
    rw [reevaluate_settled s (by rw [st]; decide), State.regrouped, counted_elsewhere, checkGroup_undriven _ _ driving]
    all_goals
      show s.st ≠ _
      rw [st]
      decide
  have quiet : (s.refreshMembers.ceaseAll [.groupShort, .outOfStep]).inputs.loopOthers = false := others
  have done : (s.refreshMembers.ceaseAll [.groupShort, .outOfStep]).seq.selftestDone = s.seq.selftestDone := rfl
  rw [settled]
  simp only [← shows]
  generalize s.refreshMembers.ceaseAll [.groupShort, .outOfStep] = u at *
  unfold State.standbyExit
  rw [standby, done]
  cases turning : u.someOtherShows StationState.startingOrRunning with
  | true => simp [standby]
  | false =>
    simp only [true_and, if_true, Bool.false_eq_true, if_false]
    split
    · rw [enterStopped_quiet (by rw [standby]; decide) quiet, st_moveTo]
    · have leaves : (u.onSeq fun q => { q with selftestTag := 0 }).st ≠ .selftest := by
        show u.st ≠ _
        rw [standby]
        decide
      unfold State.enterSelftest
      rw [loopCheck_quiet, st_moveTo]
      · rw [moveTo_lines leaves]
        rfl
      · rw [moveTo_inputs]
        exact quiet

end Rows

end Sys2Proof.Machine
end

section
/-!
PROOFS. AGING_EXPIRY and what a change of an entry's standing leads to (R7 to R9, R17, R31, R34 to R37), assembled.
-/

namespace Sys2Proof.Machine

section Assembly

variable {s : State}

/-- R34's condition as a re-evaluation in a driving state reads it. -/
theorem substitutes_iff (s : State) : (s.substitutes && s.st != .creep) = true
    ↔ s.participantsNow.length ≠ s.count ∧ s.participantsNow.length < s.cfg.minRun ∧ s.seq.intended = .run
      ∧ s.st ≠ .creep := by
  simp [State.substitutes, and_assoc]

theorem moved_iff (s : State) : (s.substitutes && s.st == .run) = true
    ↔ (s.participantsNow.length ≠ s.count ∧ s.participantsNow.length < s.cfg.minRun ∧ s.seq.intended = .run
      ∧ s.st ≠ .creep) ∧ s.st = .run := by
  simp only [State.substitutes, Bool.and_eq_true, decide_eq_true_eq, beq_iff_eq]
  constructor
  · rintro ⟨⟨changed, few, intended⟩, st⟩
    exact ⟨⟨changed, few, intended, by rw [st]; decide⟩, st⟩
  · rintro ⟨⟨changed, few, intended, -⟩, st⟩
    exact ⟨⟨changed, few, intended⟩, st⟩

theorem tripTarget_driving {st st' : StationState} (h : st.driving = true) (h' : st'.driving = true) (standstill : Bool) :
    tripTarget st standstill = tripTarget st' standstill := by
  have awake {x : StationState} (hx : x.driving = true) : x ≠ .selftest := by
    rintro rfl
    cases hx
  simp [tripTarget, awake h, awake h']

/-- A trip from the recounted state is a trip from the state held. -/
theorem Recounted.trip {k t : State} {moved : Bool} (h : Recounted s moved k) (driving : s.st.driving = true)
    (trips : Tripped k t) : t.st = tripTarget s.st s.speed.standstill ∧ t.Stopped
      ∧ t.cause.g = successor s.cause.g := by
  refine ⟨?_, trips.stopped, by rw [trips.g, h.cause.1]⟩
  rw [trips.st, h.standstill]
  exact tripTarget_driving h.driving driving _

/-- R34 to R36 in the driving states. -/
theorem driving_rows {m : Byte} (driving : s.st.driving = true) (marked : s.seq.startMark = some m)
    (short : (s.causeField .groupShort).present = false) (inStep : (s.causeField .outOfStep).present = false)
    (mode : s.st = .run → s.seq.intended = .run) :
    let t := s.reevaluate
    let ps := s.participantsNow
    let changed := ps.length ≠ s.count
    let substituted := changed ∧ ps.length < s.cfg.minRun ∧ s.seq.intended = .run ∧ s.st ≠ .creep
    t.seq.intended = (if substituted then .creep else s.seq.intended)
    ∧ t.seq.lastOutcome = (if substituted then some ⟨.demand, .runAsCreep, m⟩ else s.seq.lastOutcome)
    ∧ (changed → ps.length < s.cfg.minCreep →
        t.st = tripTarget s.st s.speed.standstill ∧ t.Stopped ∧ t.cause.g = successor s.cause.g
        ∧ t.causeField .groupShort = { present := false, latched := true,
                                       count := min 255 ((s.causeField .groupShort).count + 1) })
    ∧ (¬(changed ∧ ps.length < s.cfg.minCreep) →
        t.causeField .groupShort = s.causeField .groupShort
        ∧ (substituted → s.st = .run → t.st = .creep ∧ (t.causeField .outOfStep).present = false)
        ∧ (¬(substituted ∧ s.st = .run) → ((∀ n ∈ ps, (s.entry n).nonRunning < 2) →
            t.st = s.st ∧ t.causeField .outOfStep = s.causeField .outOfStep))
        ∧ (¬(substituted ∧ s.st = .run) → (∃ n ∈ ps, 2 ≤ (s.entry n).nonRunning) →
            (t.causeField .outOfStep).latched = true
            ∧ (t.causeField .outOfStep).count = min 255 ((s.causeField .outOfStep).count + 1)
            ∧ (s.cause.actions.outOfStep.action = .trip → t.st = tripTarget s.st s.speed.standstill
                ∧ (t.causeField .outOfStep).present = false ∧ t.cause.g = successor s.cause.g)
            ∧ (s.cause.actions.outOfStep.action ≠ .trip → t.st = s.st
                ∧ (t.causeField .outOfStep).present = true))) := by
  have recounted := counted_driving driving inStep mode
  have result := reevaluate_driving driving
  obtain ⟨intended, outcome⟩ := recounted.answers
  simp only [marked, Option.getD_some, substitutes_iff] at intended outcome
  have moved := moved_iff s
  have altered : (s.refreshMembers.count != s.count) = true ↔ s.participantsNow.length ≠ s.count := by
    rw [refreshMembers_count, bne_iff_ne]
  generalize (s.substitutes && s.st == .run) = left at *
  generalize (s.refreshMembers.count != s.count) = changed at *
  generalize s.refreshMembers.counted changed = k at *
  dsimp only
  rw [result, ← intended, ← outcome]
  by_cases few : s.participantsNow.length ≠ s.count ∧ s.participantsNow.length < s.cfg.minCreep
  · have changed : changed = true := altered.mpr few.1
    subst changed
    obtain ⟨trips, field⟩ := recounted.short few.2 short inStep
    obtain ⟨st, stopped, g⟩ := recounted.trip driving trips
    exact ⟨trips.seq.1, trips.seq.2, fun _ _ => ⟨st, stopped, g, field⟩, fun no => absurd few no⟩
  · have enough : changed = true → ¬s.participantsNow.length < s.cfg.minCreep := fun c less => few ⟨altered.mp c, less⟩
    cases step : k.outOfStepNow with
    | false =>
      rw [recounted.calm enough step]
      have kept (c : Cause) (field : k.causeField c = s.causeField c) (absent : (s.causeField c).present = false) (cs) :
          (k.ceaseAll cs).causeField c = s.causeField c := by
        rw [ceaseAll_causeField, field, absent, Bool.false_and, ← absent]
      have oos := kept .outOfStep recounted.outOfStep inStep
        (if changed then [.groupShort, .outOfStep] else [.outOfStep])
      refine ⟨rfl, rfl, fun c less => absurd ⟨c, less⟩ few, fun _ => ⟨kept _ recounted.groupShort short _,
        fun sub run => ⟨?_, by rw [oos, inStep]⟩, fun stays _ => ⟨?_, oos⟩, fun stays ⟨n, member, slow⟩ => ?_⟩⟩
      · have st := recounted.st
        rwa [if_pos (moved.mpr ⟨sub, run⟩)] at st
      · have st := recounted.st
        rwa [if_neg (mt moved.mp stays)] at st
      · have rises := recounted.outOfStepNow.mpr ⟨by simpa using mt moved.mp stays, n, member, slow⟩
        rw [step] at rises
        cases rises
    | true =>
      obtain ⟨stayed, n, member, slow⟩ := recounted.outOfStepNow.mp step
      have stays := mt moved.mpr (by rw [stayed]; simp)
      have st := recounted.st
      rw [stayed, if_neg (by simp)] at st
      obtain ⟨gs, latched, count, intended', outcome', trips, quiet⟩ :=
        recounted.outOfStep_row enough step inStep
      refine ⟨intended', outcome', fun c less => absurd ⟨c, less⟩ few, fun _ => ⟨gs short, fun sub run => ?_,
        fun _ all => ?_, fun _ _ => ⟨latched, count, fun action => ?_, fun action => ?_⟩⟩⟩
      · exact absurd ⟨sub, run⟩ stays
      · exact absurd (all n member) (Nat.not_lt.mpr slow)
      · obtain ⟨tripped, absent⟩ := trips action
        obtain ⟨target, -, g⟩ := recounted.trip driving tripped
        exact ⟨target, absent, g⟩
      · obtain ⟨same, present⟩ := quiet action
        exact ⟨same.trans st, present⟩

/-- R31 and R34 in STARTING, with enough participants for CREEP. -/
theorem starting_rows {m : Byte} (st : s.st = .starting) (marked : s.seq.startMark = some m)
    (enough : s.cfg.minCreep ≤ s.participantsNow.length) :
    let t := s.reevaluate
    let ps := s.participantsNow
    let kept := s.seq.confirmation.filter ps.contains
    let substituted := ps.length ≠ s.count ∧ ps.length < s.cfg.minRun ∧ s.seq.intended = .run
    let intended : Mode := if substituted then .creep else s.seq.intended
    let turning := ∃ n ∈ ps, n ≠ s.loader.station ∧ (s.entry n).shows StationState.regulating = true
    t.seq.lastOutcome = (if substituted then some ⟨.demand, .runAsCreep, m⟩ else s.seq.lastOutcome)
    ∧ (kept ≠ [] ∨ s.seq.confirmation = [] → t.st = .starting ∧ t.seq.confirmation = kept
        ∧ t.seq.intended = intended ∧ t.timers.startWindow = s.timers.startWindow)
    ∧ (kept = [] → s.seq.confirmation ≠ [] →
        t.seq.confirmation = [] ∧ t.timers.startWindow = none
        ∧ (¬turning → t.st = .breakaway ∧ t.seq.intended = intended ∧ t.limiter.stage = 1)
        ∧ (turning → t.st = (if intended = .run ∧ s.cfg.minRun ≤ ps.length then .run else .creep))) := by
  have sub : s.substitutes = true ↔ s.participantsNow.length ≠ s.count ∧ s.participantsNow.length < s.cfg.minRun
      ∧ s.seq.intended = .run := decide_eq_true_iff
  have turns := startingSettled_turning st StationState.regulating
  have waits := starting_waits st marked enough
  have emptied := starting_emptied st marked enough
  simp only [sub] at waits emptied
  simp only [← turns, Bool.not_eq_true]
  by_cases kept : s.seq.confirmation.filter s.participantsNow.contains ≠ [] ∨ s.seq.confirmation = []
  · obtain ⟨st, confirmation, intended, window, outcome⟩ := waits kept
    refine ⟨outcome, fun _ => ⟨st, confirmation, intended, window⟩, fun gone waiting => ?_⟩
    exact absurd kept (by simp [gone, waiting])
  · have gone : s.seq.confirmation.filter s.participantsNow.contains = [] ∧ s.seq.confirmation ≠ [] := by
      simpa only [not_or, not_not] using kept
    obtain ⟨confirmation, window, outcome, breakaway, turning⟩ := emptied gone.1 gone.2
    exact ⟨outcome, fun yes => absurd yes kept, fun _ _ => ⟨confirmation, window, breakaway, turning⟩⟩

/-- Settles O26. -/
theorem agingExpiry : Obligations.AgingExpiry := by
  unfold Obligations.AgingExpiry
  refine ⟨⟨fun s runs => ?_, fun s runs joined settled => agingExpiry_same runs joined settled, ?_,
    fun cls e known => refreshed_aged cls e known⟩, ?_, ?_, ?_, ?_, ?_, ?_, ?_⟩
  · obtain ⟨t, answer, aging, tally⟩ := agingExpiry_tally runs
    refine ⟨t, answer, aging, fun n other known => ?_, fun n still => ?_, fun n => ?_⟩
    · refine ageRow known ((tally n).trans ?_)
      rw [if_neg other]
    · have same : (if n = s.loader.station then s.entry n else (s.entry n).aged) = s.entry n := by
        rcases still with own | absent
        · rw [if_pos own]
        · rw [aged_absent absent, ite_self]
      have figures := tally n
      rw [same] at figures
      simp only [PeerEntry.tally, Prod.mk.injEq] at figures
      exact ⟨figures.2.2.2.1, figures.2.1⟩
    · obtain ⟨kind, foreign, heard⟩ := aged_figures (s.entry n)
      have figures := tally n
      simp only [PeerEntry.tally, Prod.mk.injEq] at figures
      obtain ⟨tKind, -, tForeign, -, tHeard⟩ := figures
      rw [tKind, tForeign, tHeard]
      split
      · exact ⟨rfl, rfl, rfl⟩
      · exact ⟨kind, foreign, heard⟩
  · rintro s u runs joined rfl differs
    exact agingExpiry_differing runs joined differs
  · intro u
    rw [← peerSilentNow_eq, ← peerLostNow_eq, ← foreignNow_eq]
    rfl
  · rintro origin cls s u rfl
    exact refreshPeer_eq s origin cls rfl
  · rintro s t ps kept m st rfl rfl rfl marked
    exact ⟨fun changed few others => starting_few st marked changed few others,
      fun enough => starting_rows st marked enough⟩
  · rintro s t ps m driving rfl rfl marked short inStep
    exact driving_rows driving marked short inStep
  · rintro s t driving rfl same inStep
    rw [reevaluate_inStep driving same inStep, ceaseAll_causeField]
    simp
  · rintro s t ps st rfl rfl others
    exact reevaluate_standby st others
  · rintro s t driving starting standby rfl
    rw [reevaluate_idle s driving starting standby]
    rfl

end Assembly

end Sys2Proof.Machine
end

section
/-!
PROOFS. A SHARE taken (R4, R9): what its state code shows, what the peer causes make of it (R8, R9), and the follower
trip it may call for (R121).
-/

namespace Sys2Proof.Machine

section Codes

/-- Whether a state code shows a state of a kind. -/
def codeShows (code : BitVec 4) (kind : StationState → Bool) : Bool :=
  match StationState.ofCode code.toNat with
  | some st => kind st
  | none => false

theorem shareShows_eq (p : SharePayload) (kind) : shareShows p kind = codeShows p.state kind := rfl

variable (p : SharePayload)

theorem shows_trip : shareShows p StationState.showsTrip = true ↔ p.state = 9 ∨ p.state = 10 := by
  have each : ∀ x : BitVec 4, codeShows x StationState.showsTrip = true ↔ x = 9 ∨ x = 10 := by decide
  exact each p.state

theorem shows_regulating : shareShows p StationState.regulating = true
    ↔ p.state = 6 ∨ p.state = 7 ∨ p.state = 8 := by
  have each : ∀ x : BitVec 4, codeShows x StationState.regulating = true ↔ x = 6 ∨ x = 7 ∨ x = 8 := by decide
  exact each p.state

theorem shows_confirms : shareShows p StationState.confirms = true
    ↔ 4 ≤ p.state.toNat ∧ p.state.toNat ≤ 7 := by
  have each : ∀ x : BitVec 4, codeShows x StationState.confirms = true ↔ 4 ≤ x.toNat ∧ x.toNat ≤ 7 := by decide
  exact each p.state

theorem shows_notYetRunning : shareShows p StationState.notYetRunning = true ↔ p.state = 3 ∨ p.state = 4 := by
  have each : ∀ x : BitVec 4, codeShows x StationState.notYetRunning = true ↔ x = 3 ∨ x = 4 := by decide
  exact each p.state

theorem shows_breakaway : shareShows p (· == .breakaway) = true ↔ p.state = 5 := by
  have each : ∀ x : BitVec 4, codeShows x (· == .breakaway) = true ↔ x = 5 := by decide
  exact each p.state

theorem shows_participating : shareShows p StationState.participating = true
    ↔ 3 ≤ p.state.toNat ∧ p.state.toNat ≤ 8 := by
  have each : ∀ x : BitVec 4, codeShows x StationState.participating = true ↔ 3 ≤ x.toNat ∧ x.toNat ≤ 8 := by decide
  exact each p.state

end Codes

/-- From `s` to `t` nothing changed but these causes. -/
structure CausesOnly (cs : List Cause) (s t : State) : Prop where
  rest : t = { s with cause := { s.cause with causes := t.cause.causes } }
  field : ∀ c, c ∉ cs → t.causeField c = s.causeField c

namespace CausesOnly

variable {s t u : State} {cs ds : List Cause}

theorem refl (s : State) : CausesOnly cs s s := ⟨rfl, fun _ _ => rfl⟩

theorem trans (h : CausesOnly cs s t) (k : CausesOnly ds t u) : CausesOnly (cs ++ ds) s u where
  rest := by
    rw [k.rest, h.rest]
  field := fun c hc => by
    rw [List.mem_append, not_or] at hc
    exact (k.field c hc.2).trans (h.field c hc.1)

end CausesOnly

section Presented

variable (s : State)

theorem rise_alert {c : Cause} (detail) (action : s.actionOf c = .alert) : s.rise c detail = s.risen c := by
  have action : (s.risen c).actionOf c = .alert := action
  rw [rise_eq, State.actOnRise, action]

/-- A cause presented that does not trip or clamp: it ceases, or rises with no more than an alert. -/
theorem presented_only (c : Cause) (cond detail)
    (quiet : s.st.joined = true → cond = true → s.actionOf c = .alert ∨ (s.causeField c).present = true) :
    CausesOnly [c] s (s.present c cond detail) := by
  cases joined : s.st.joined with
  | false =>
    rw [present_unjoined s c cond detail joined]
    exact .refl s
  | true =>
    cases met : cond with
    | false =>
      rw [present_ceases s detail joined rfl]
      exact ⟨rfl, fun d hd => CauseSet.get_set_ne _ _ (by simpa using hd)⟩
    | true =>
      cases already : (s.causeField c).present with
      | true =>
        rw [present_present s detail rfl already]
        exact .refl s
      | false =>
        have action := (quiet joined met).resolve_right (by rw [already]; simp)
        rw [present_rises s detail joined rfl already, rise_alert s detail action]
        exact ⟨rfl, fun d hd => risen_causeField_ne s (by simpa using hd)⟩

/-- With PEER_LOST present wherever its condition holds, the peer causes presented change no more than themselves. -/
theorem peerCauses_only (lost : s.st.joined = true → s.peerLostNow = true → (s.causeField .peerLost).present = true) :
    CausesOnly [.peerSilent, .peerLost, .foreignPeer] s s.peerCauses := by
  have first := presented_only s .peerSilent s.peerSilentNow 0 fun _ _ => .inl rfl
  have st : (s.present .peerSilent s.peerSilentNow 0).st = s.st := by rw [first.rest]; rfl
  have second := presented_only (s.present .peerSilent s.peerSilentNow 0) .peerLost s.peerLostNow 0
    fun joined met => .inr (by rw [first.field _ (by decide)]; exact lost (by rwa [← st]) met)
  have third := presented_only (State.present (s.present .peerSilent s.peerSilentNow 0) .peerLost s.peerLostNow 0)
    .foreignPeer s.foreignNow 0 fun _ _ => .inl rfl
  exact (first.trans second).trans third

end Presented

section Shared

/-- An entry after a SHARE, R3, R4, R9. -/
def PeerEntry.sharing (e : PeerEntry) (foreign : Bool) (p : SharePayload) : PeerEntry :=
  { kind := .drive, entry := .present, foreign := foreign, silence := 0, share := some p,
    nonRunning := if p.state = 3 ∨ p.state = 4 then min 255 (e.nonRunning + 1) else 0,
    heard := min 65535 (e.heard + 1) }

variable (s : State) (origin : Station) (p : SharePayload)

/-- The SHARE counted and its sender's entry taken, R4, R151. -/
def State.shareEntered (s : State) (origin : Station) (p : SharePayload) : State :=
  s.withEntry origin ((s.entry origin).sharing (p.signature != s.cfg.signature) p)

/-- The SHARE taken as far as the peer causes. -/
def State.shareHeard (s : State) (origin : Station) (p : SharePayload) : State :=
  (s.shareEntered origin p).peerCauses

theorem takeShare_entry (e : PeerEntry) (signature : Word) :
    e.takeShare signature p = e.sharing (p.signature != signature) p := by
  unfold PeerEntry.takeShare PeerEntry.sharing
  have counts := shows_notYetRunning p
  by_cases waits : p.state = 3 ∨ p.state = 4
  · rw [if_pos (counts.mpr waits), if_pos waits]
    rfl
  · rw [if_neg (mt counts.mp waits), if_neg waits]
    rfl

/-- SHARE_FRAME up to its readers. -/
theorem exec_shareFrame {s : State} {origin : Station} (active : s.link.active = true)
    (listening : s.link.listening = true) (other : origin ≠ s.loader.station) : exec (.shareFrame origin p) s = .next
      (if (s.shareHeard origin p).st.canTrip && (s.shareHeard origin p).callsForFollowing origin p
       then (s.shareHeard origin p).refreshMembers.followerTrip p.g none 0
       else (s.shareHeard origin p).readShare origin p) := by
  have entered : s.countValid.onEntry origin (PeerEntry.takeShare s.cfg.signature p) = s.shareEntered origin p := by
    rw [countValid_onEntry, takeShare_entry]
    rfl
  refine congrArg Host.Outcome.next
    ((hears_reader (f := ⟨classShare, origin, p.words⟩) _ active listening other).trans ?_)
  show s.countValid.takeShare origin p = _
  unfold State.takeShare State.shareHeard
  rw [show s.countValid.cfg.signature = s.cfg.signature from rfl, entered]

theorem shareEntered_entry : (s.shareEntered origin p).entry origin
    = (s.entry origin).sharing (p.signature != s.cfg.signature) p := Eight.get_set_self _ _ _

theorem shareEntered_entry_ne {n : Station} (h : n ≠ origin) : (s.shareEntered origin p).entry n = s.entry n :=
  Eight.get_set_ne _ _ h

/-- The sender is no station that is lost: PEER_LOST's condition holds then only where it held before, R8. -/
theorem shareEntered_peerLost (h : (s.shareEntered origin p).peerLostNow = true) : s.peerLostNow = true := by
  rw [peerLostNow_eq, decide_eq_true_eq] at *
  obtain ⟨n, other, kind, foreign, lost⟩ := h
  have apart : n ≠ origin := by
    rintro rfl
    rw [shareEntered_entry] at lost
    cases lost
  rw [shareEntered_entry_ne s origin p apart] at kind foreign lost
  exact ⟨n, other, kind, foreign, lost⟩

variable {s} in
/-- What the peer causes make of a SHARE where no PEER_LOST rises. -/
theorem shareHeard_only (lost : s.st.joined = true → s.peerLostNow = true → (s.causeField .peerLost).present = true) :
    CausesOnly [.peerSilent, .peerLost, .foreignPeer] (s.shareEntered origin p) (s.shareHeard origin p) :=
  peerCauses_only _ fun joined met => lost joined (shareEntered_peerLost s origin p met)

end Shared

section Follower

variable {s : State} {origin : Station} {p : SharePayload}
  (only : CausesOnly [.peerSilent, .peerLost, .foreignPeer] (s.shareEntered origin p) (s.shareHeard origin p))
include only

theorem shareHeard_st : (s.shareHeard origin p).st = s.st := by rw [only.rest]; rfl

theorem shareHeard_g : (s.shareHeard origin p).cause.g = s.cause.g := by rw [only.rest]; rfl

theorem shareHeard_loader : (s.shareHeard origin p).loader = s.loader := by rw [only.rest]; rfl

theorem shareHeard_peers : (s.shareHeard origin p).peers = (s.shareEntered origin p).peers := by rw [only.rest]

theorem shareHeard_entry (n : Station) : (s.shareHeard origin p).entry n = (s.shareEntered origin p).entry n := by
  unfold State.entry
  rw [shareHeard_peers only]

theorem shareHeard_calls : (s.shareHeard origin p).callsForFollowing origin p = true ↔ s.CallsFrom s.cause.g p := by
  have entry := shareHeard_entry only origin
  rw [shareEntered_entry] at entry
  simp only [State.callsForFollowing, State.CallsFrom, entry, shareHeard_g only, Bool.and_eq_true, shows_trip]
  simp [PeerEntry.sharing, and_assoc]

/-- The follower trip of R121, with its record. -/
theorem share_follower (can : s.st.canTrip = true) :
    let t := (s.shareHeard origin p).refreshMembers.followerTrip p.g none 0
    t.cause.g = p.g ∧ t.st = tripTarget s.st s.speed.standstill ∧ t.Stopped
      ∧ t.cause.context = some { number := some p.g, origin := none, confirmed := false, ownPart := .follower,
                                 coOrigins := [], stateAtTrip := s.st }
      ∧ t.causeField .peerTrip = { s.causeField .peerTrip with
          latched := true, count := min 255 ((s.causeField .peerTrip).count + 1) }
      ∧ t.ParticipantsOk ∧ t.link.tripSlot = s.link.tripSlot ∧ t.timers.loopWait = none
      ∧ (s.RecordsOk → ∃ i r, t.records.current = some i ∧ t.records.slots.get i = some r
          ∧ r.closed = false ∧ r.number = some p.g ∧ r.origin = none ∧ r.confirmed = false
          ∧ r.ownPart = .follower ∧ r.coOrigins = [] ∧ r.firstCause = .peerTrip ∧ r.detail = 0
          ∧ r.timeMark = s.clock.timeMark ∧ r.stateAtTrip = s.st ∧ r.history = s.records.ring
          ∧ r.subsequent = [] ∧ r.tail = []) := by
  have st := shareHeard_st only
  have standstill : (s.shareHeard origin p).speed.standstill = s.speed.standstill := by rw [only.rest]; rfl
  have link : (s.shareHeard origin p).link.tripSlot = s.link.tripSlot := by rw [only.rest]; rfl
  have records : (s.shareHeard origin p).records = s.records := by rw [only.rest]; rfl
  have clock : (s.shareHeard origin p).clock = s.clock := by rw [only.rest]; rfl
  have peerTrip : (s.shareHeard origin p).causeField .peerTrip = s.causeField .peerTrip := only.field _ (by decide)
  generalize s.shareHeard origin p = a at *
  have trips : a.refreshMembers.st.canTrip = true := by
    show a.st.canTrip = true
    rwa [st]
  have begun : (a.refreshMembers.followerBegun p.g none 0).st.canTrip = true := by rwa [followerBegun_st]
  obtain ⟨g, context, field, target, stopped, linkSame, wait⟩ :=
    followerTrip_effects a.refreshMembers p.g none 0 trips
  have recorded := followerTrip_records a.refreshMembers p.g none 0
  have list : (a.refreshMembers.followerTrip p.g none 0).ParticipantsOk := by
    rw [followerTrip_eq]
    exact tripMove_participantsOk _ begun
  have st' : a.refreshMembers.st = s.st := st
  have standstill' : a.refreshMembers.speed.standstill = s.speed.standstill := standstill
  have peerTrip' : a.refreshMembers.causeField .peerTrip = s.causeField .peerTrip := peerTrip
  refine ⟨g, by rw [target, st', standstill'], stopped, ?_, by rw [field, peerTrip'], list, ?_, wait, fun ok => ?_⟩
  · rw [context, State.tripContext, st']
    rfl
  · rw [linkSame]
    exact link
  · have ok : a.refreshMembers.records.Ok := by
      show a.records.Ok
      rw [records]
      exact ok.1
    obtain ⟨i, current, slot⟩ := insert_current ok
      (a.refreshMembers.newRecord (a.refreshMembers.tripContext (some p.g) none false .follower) .peerTrip 0)
    rw [recorded]
    refine ⟨i, _, current, slot, rfl, rfl, rfl, rfl, rfl, rfl, rfl, rfl, ?_, st', ?_, rfl, rfl⟩
    · exact congrArg Clock.timeMark clock
    · exact congrArg RecordStore.ring records

end Follower

end Sys2Proof.Machine
end

section
/-!
PROOFS. The readers of a SHARE after the peer table (R14, R29, R32, R63, R78, R119), one by one and together.
-/

namespace Sys2Proof.Machine

/-- The readers of a SHARE, from the state that the re-evaluation has left. -/
def State.shareRead (w : State) (origin : Station) (p : SharePayload) : State :=
  (((((w.learnFrom origin p.g).confirmStart origin p).peerRotation origin p).followStage origin p).trimAtShare
    origin).settleByShare origin p

section Readers

variable (w : State) (origin : Station) (p : SharePayload)

theorem readShare_eq (s : State) : s.readShare origin p = s.reevaluate.shareRead origin p := rfl

theorem learnFrom_joined (g) (h : w.st ≠ .joining) : w.learnFrom origin g = w := by
  simp [State.learnFrom, h]

/-- R29: the SHARE takes its sender out of the confirmation set. -/
def State.Confirms (w : State) (origin : Station) (p : SharePayload) : Prop :=
  w.st = .starting ∧ origin ∈ w.seq.confirmation ∧ 4 ≤ p.state.toNat ∧ p.state.toNat ≤ 7

/-- R32: a participant that turns. -/
def State.Turns (w : State) (origin : Station) (p : SharePayload) : Prop :=
  w.st = .breakaway ∧ origin ∈ w.peers.participants ∧ (p.state = 6 ∨ p.state = 7 ∨ p.state = 8)

/-- R78: a participant at a higher stage. -/
def State.Leads (w : State) (origin : Station) (p : SharePayload) : Prop :=
  w.st = .breakaway ∧ origin ∈ w.peers.participants ∧ p.state = 5 ∧ w.limiter.stage < p.stage.toNat

/-- R119: a number for the pending one. -/
def State.Settles (w : State) (origin : Station) (p : SharePayload) : Prop :=
  w.st.isTripped = true ∧ (∃ ctx, w.cause.context = some ctx ∧ ctx.number = none)
    ∧ w.callsForFollowing origin p = true

/-- The confirmation set without one station. -/
def State.confirmed (w : State) (origin : Station) : State :=
  w.onSeq fun q => { q with confirmation := q.confirmation.filter (· ≠ origin) }

theorem confirmStart_eq (h : w.Confirms origin p) : w.confirmStart origin p
    = if (w.confirmed origin).seq.confirmation.isEmpty then (w.confirmed origin).enterBreakaway
      else w.confirmed origin := by
  obtain ⟨st, waiting, shows⟩ := h
  exact if_pos ⟨st, List.contains_iff_mem.mpr waiting, (shows_confirms p).mpr shows⟩

theorem confirmStart_else (h : ¬w.Confirms origin p) : w.confirmStart origin p = w := by
  refine if_neg ?_
  rintro ⟨st, waiting, shows⟩
  exact h ⟨st, List.contains_iff_mem.mp waiting, (shows_confirms p).mp shows⟩

theorem peerRotation_eq (h : w.Turns origin p) : w.peerRotation origin p = w.leaveBreakaway := by
  obtain ⟨st, member, shows⟩ := h
  exact if_pos ⟨st, List.contains_iff_mem.mpr member, (shows_regulating p).mpr shows⟩

theorem peerRotation_else (h : ¬w.Turns origin p) : w.peerRotation origin p = w := by
  refine if_neg ?_
  rintro ⟨st, member, shows⟩
  exact h ⟨st, List.contains_iff_mem.mp member, (shows_regulating p).mp shows⟩

theorem followStage_eq (h : w.Leads origin p) : w.followStage origin p = w.setStage p.stage.toNat := by
  obtain ⟨st, member, shows, higher⟩ := h
  exact if_pos ⟨st, List.contains_iff_mem.mpr member, (shows_breakaway p).mpr shows, higher⟩

theorem followStage_else (h : ¬w.Leads origin p) : w.followStage origin p = w := by
  refine if_neg ?_
  rintro ⟨st, member, shows, higher⟩
  exact h ⟨st, List.contains_iff_mem.mp member, (shows_breakaway p).mp shows, higher⟩

theorem settleByShare_else (h : ¬w.Settles origin p) : w.settleByShare origin p = w := by
  unfold State.settleByShare
  split
  · rfl
  · next ctx context =>
    refine if_neg ?_
    simp only [Bool.and_eq_true, Option.isNone_iff_eq_none]
    rintro ⟨⟨tripped, number⟩, calls⟩
    exact h ⟨tripped, ⟨ctx, context, number⟩, calls⟩

/-- The trim at a member's SHARE, R63. -/
theorem trimAtShare_eq : w.trimAtShare origin = { w with reg := { w.reg with
    trim := if origin ∈ w.balancingSet ∧ w.loader.station ∈ w.balancingSet then w.trimNow else w.reg.trim } } := by
  simp only [mem_balancingSet]
  unfold State.trimAtShare State.recomputeTrim State.onReg
  cases sender : w.inBalance origin <;> cases w.inBalance w.loader.station <;> simp

theorem not_settles_trim (h : ¬w.Settles origin p) : ¬(w.trimAtShare origin).Settles origin p := by
  rw [trimAtShare_eq]
  exact h

theorem not_settles_awake (h : w.st.isTripped = false) : ¬w.Settles origin p := fun settles => by
  rw [settles.1] at h
  cases h

/-- The last two readers where no pending number is settled. -/
theorem read_tail (h : ¬w.Settles origin p) : (w.trimAtShare origin).settleByShare origin p = w.trimAtShare origin :=
  settleByShare_else _ origin p (not_settles_trim w origin p h)

/-- A SHARE with nothing else to act on leaves a number learned and the trim. -/
theorem shareRead_plain (confirms : ¬w.Confirms origin p) (turns : ¬w.Turns origin p) (leads : ¬w.Leads origin p)
    (settles : ¬w.Settles origin p) : w.shareRead origin p = (w.learnFrom origin p.g).trimAtShare origin := by
  have settles' : ¬(w.learnFrom origin p.g).Settles origin p := by
    by_cases joining : w.st = .joining
    · refine not_settles_awake _ origin p ?_
      rw [learnFrom_eq]
      show w.st.isTripped = false
      rw [joining]
      rfl
    · rwa [learnFrom_joined w origin p.g joining]
  have confirms' : ¬(w.learnFrom origin p.g).Confirms origin p := by rwa [learnFrom_eq]
  have turns' : ¬(w.learnFrom origin p.g).Turns origin p := by rwa [learnFrom_eq]
  have leads' : ¬(w.learnFrom origin p.g).Leads origin p := by rwa [learnFrom_eq]
  unfold State.shareRead
  rw [confirmStart_else _ origin p confirms', peerRotation_else _ origin p turns', followStage_else _ origin p leads',
    read_tail _ origin p settles']

theorem not_turns {w : State} (h : w.st ≠ .breakaway) : ¬w.Turns origin p := fun turns => h turns.1

theorem not_leads {w : State} (h : w.st ≠ .breakaway) : ¬w.Leads origin p := fun leads => h leads.1

theorem not_confirms {w : State} (h : w.st ≠ .starting) : ¬w.Confirms origin p := fun confirms => h confirms.1

/-- What the trim at a SHARE leaves. -/
theorem trimAtShare_rest : (w.trimAtShare origin).st = w.st ∧ (w.trimAtShare origin).seq = w.seq
    ∧ (w.trimAtShare origin).limiter = w.limiter ∧ (w.trimAtShare origin).timers = w.timers
    ∧ (w.trimAtShare origin).speed = w.speed ∧ (w.trimAtShare origin).cause = w.cause
    ∧ (w.trimAtShare origin).records = w.records := by
  rw [trimAtShare_eq]
  exact ⟨rfl, rfl, rfl, rfl, rfl, rfl, rfl⟩

/-- A participant that turns ends breakaway, R32. -/
theorem shareRead_turns (turns : w.Turns origin p) (list : w.ParticipantsOk) (enough : w.cfg.minCreep ≤ w.count) :
    w.shareRead origin p = w.modeEntered.trimAtShare origin := by
  have st := turns.1
  have left : w.modeEntered.st ≠ .breakaway := by
    rw [modeEntered_st]
    exact mode_ne_breakaway _
  have awake : w.modeEntered.st.isTripped = false := by
    rw [modeEntered_st]
    cases w.modeFor w.seq.intended <;> rfl
  unfold State.shareRead
  rw [learnFrom_joined w origin p.g (by rw [st]; decide), confirmStart_else w origin p (not_confirms _ _ (by rw [st]; decide)),
    peerRotation_eq w origin p turns, leaveBreakaway_enough st list enough,
    followStage_else _ origin p (not_leads _ _ left), read_tail _ origin p (not_settles_awake _ _ _ awake)]

theorem setStage_rest (stage : Nat) : (w.setStage stage).st = w.st ∧ (w.setStage stage).limiter.stage = stage
    ∧ (w.setStage stage).limiter.stageValue = w.cfg.stageLevel stage
    ∧ (w.setStage stage).timers.stage = some (w.cfg.stageTime * 1000) ∧ (w.setStage stage).speed.stageEdges = 0
    ∧ (w.setStage stage).seq = w.seq ∧ (w.setStage stage).timers.startWindow = w.timers.startWindow :=
  ⟨rfl, rfl, rfl, rfl, rfl, rfl, rfl⟩

/-- A participant at a higher stage is followed, R78. -/
theorem shareRead_leads (leads : w.Leads origin p) :
    w.shareRead origin p = (w.setStage p.stage.toNat).trimAtShare origin := by
  have st := leads.1
  have still : ¬w.Turns origin p := fun turns => by
    have five := leads.2.2.1
    rcases turns.2.2 with other | other | other <;> rw [five] at other <;> cases other
  have awake : (w.setStage p.stage.toNat).st.isTripped = false := by
    show w.st.isTripped = false
    rw [st]
    rfl
  unfold State.shareRead
  rw [learnFrom_joined w origin p.g (by rw [st]; decide), confirmStart_else w origin p (not_confirms _ _ (by rw [st]; decide)),
    peerRotation_else w origin p still, followStage_eq w origin p leads,
    read_tail _ origin p (not_settles_awake _ _ _ awake)]

end Readers

section Follows

variable (w : State) (origin : Station) (p : SharePayload)

theorem follows_learnFrom (g) : Follows w (w.learnFrom origin g) := by
  rw [learnFrom_eq]
  exact .of_same rfl rfl rfl rfl ⟨rfl, rfl, rfl, rfl, rfl⟩ rfl rfl

theorem follows_confirmStart : Follows w (w.confirmStart origin p) := by
  by_cases confirms : w.Confirms origin p
  · have out : Follows w (w.confirmed origin) := follows_onSeq w _ rfl
    rw [confirmStart_eq w origin p confirms]
    split
    · refine out.trans (follows_enterBreakaway _ ?_)
      show w.st.progress < 1
      rw [confirms.1]
      decide
    · exact out
  · rw [confirmStart_else w origin p confirms]
    exact .refl w

theorem follows_peerRotation : Follows w (w.peerRotation origin p) := by
  by_cases turns : w.Turns origin p
  · rw [peerRotation_eq w origin p turns]
    exact follows_leaveBreakaway w (by rw [turns.1]; decide)
  · rw [peerRotation_else w origin p turns]
    exact .refl w

theorem follows_setStage (stage) : Follows w (w.setStage stage) :=
  ⟨.inl rfl, fun _ => rfl, .inl rfl, rfl, rfl, rfl, rfl, rfl, rfl, rfl, rfl, ⟨rfl, rfl⟩⟩

theorem follows_followStage : Follows w (w.followStage origin p) := by
  by_cases leads : w.Leads origin p
  · rw [followStage_eq w origin p leads]
    exact follows_setStage w _
  · rw [followStage_else w origin p leads]
    exact .refl w

theorem follows_trimAtShare : Follows w (w.trimAtShare origin) := by
  rw [trimAtShare_eq]
  exact .of_same rfl rfl rfl rfl ⟨rfl, rfl, rfl, rfl, rfl⟩ rfl rfl

theorem settleNumber_eq (ctx : TripContext) (n : Word) (from' : Option Station) : w.settleNumber ctx n from' = { w with
    cause := { w.cause with
      g := n, context := some { ctx with number := some n, origin := from', confirmed := from'.isSome } }
    timers := { w.timers with loopWait := none }
    records := w.records.onCurrent fun r => { r with number := some n, origin := from', confirmed := from'.isSome,
                                                     ownPart := ctx.ownPart, coOrigins := ctx.coOrigins } } := rfl

theorem follows_settleByShare : Follows w (w.settleByShare origin p) := by
  unfold State.settleByShare
  split
  · exact .refl w
  · split
    · rw [settleNumber_eq]
      exact .of_same rfl rfl rfl rfl ⟨rfl, rfl, rfl, rfl, rfl⟩ rfl rfl
    · exact .refl w

theorem follows_shareRead : Follows w (w.shareRead origin p) :=
  (((((follows_learnFrom w origin p.g).trans (follows_confirmStart _ origin p)).trans
    (follows_peerRotation _ origin p)).trans (follows_followStage _ origin p)).trans (follows_trimAtShare _ origin)).trans
    (follows_settleByShare _ origin p)

end Follows

end Sys2Proof.Machine
end

section
/-!
PROOFS. A SHARE of a participant that stays one (R16, R17, R29, R32, R36, R64, R78), and SHARE_FRAME as a whole.
-/

namespace Sys2Proof.Machine

section Effects

variable {s : State} {origin : Station} {p : SharePayload}

theorem ceaseAll_ready (s : State) (cs) : (s.ceaseAll cs).ready = s.ready := by
  unfold State.ready
  rw [ceaseAll_causeField]

theorem follows_shareHeard (s : State) (origin p) : Follows (s.shareEntered origin p) (s.shareHeard origin p) :=
  follows_peerCauses _

/-- The sender's entry after all that its SHARE leads to, R3, R4, R9. -/
theorem shared_entry {t : State} (h : Follows (s.shareEntered origin p) t) :
    (t.entry origin).kind = .drive ∧ (t.entry origin).entry = .present ∧ (t.entry origin).silence = 0
      ∧ (t.entry origin).share = some p ∧ (t.entry origin).foreign = (p.signature != s.cfg.signature)
      ∧ (t.entry origin).heard = min 65535 ((s.entry origin).heard + 1)
      ∧ (s.st.driving = false → s.st ≠ .starting → (t.entry origin).nonRunning
          = (if p.state = 3 ∨ p.state = 4 then min 255 ((s.entry origin).nonRunning + 1) else 0))
      ∧ (t.st = s.st → (t.entry origin).nonRunning
          = (if p.state = 3 ∨ p.state = 4 then min 255 ((s.entry origin).nonRunning + 1) else 0)) := by
  have st : (s.shareEntered origin p).st = s.st := rfl
  have entry := shareEntered_entry s origin p
  have counted (same : t.peers.entries = (s.shareEntered origin p).peers.entries) : (t.entry origin).nonRunning
      = if p.state = 3 ∨ p.state = 4 then min 255 ((s.entry origin).nonRunning + 1) else 0 := by
    have same : t.entry origin = (s.shareEntered origin p).entry origin := congrArg (fun e => e.get origin) same
    rw [same, entry]
    rfl
  have figures : (t.entry origin).kind = .drive ∧ (t.entry origin).entry = .present ∧ (t.entry origin).silence = 0
      ∧ (t.entry origin).share = some p ∧ (t.entry origin).foreign = (p.signature != s.cfg.signature)
      ∧ (t.entry origin).heard = min 65535 ((s.entry origin).heard + 1) := by
    rcases h.entry origin with same | same <;> rw [same, entry] <;> exact ⟨rfl, rfl, rfl, rfl, rfl, rfl⟩
  obtain ⟨kind, present, silence, share, foreign, heard⟩ := figures
  refine ⟨kind, present, silence, share, foreign, heard, fun quiet waiting => ?_, fun same => ?_⟩
  · rcases h.entries with same | ⟨turned, -, -⟩
    · exact counted same
    · rw [st] at turned
      cases kind : s.st <;> simp [kind, StationState.progress, StationState.driving] at turned quiet waiting
  · rcases h.entries with unchanged | ⟨-, moved, -⟩
    · exact counted unchanged
    · exact absurd same moved

theorem settleByShare_eq (w : State) {ctx : TripContext} (context : w.cause.context = some ctx)
    (tripped : w.st.isTripped = true) (pending : ctx.number = none) (calls : w.callsForFollowing origin p = true) :
    w.settleByShare origin p = w.settleNumber ctx p.g none := by
  unfold State.settleByShare
  rw [context]
  simp [tripped, pending, calls]

theorem onCurrent_none {r : RecordStore} (f) (h : r.current = none) : r.onCurrent f = r := by
  unfold RecordStore.onCurrent
  rw [h]

theorem onCurrent_some {r : RecordStore} (f) {i : Fin 8} {x : TripRecord} (current : r.current = some i)
    (slot : r.slots.get i = some x) : r.onCurrent f = { r with slots := r.slots.set i (some (f x)) } := by
  unfold RecordStore.onCurrent
  rw [current]
  simp [slot]

theorem isTripped_rows {st : StationState} (h : st.isTripped = true) : st.driving = false ∧ st ≠ .starting
    ∧ st ≠ .standby ∧ st ≠ .joining ∧ st ≠ .breakaway ∧ st.canTrip = false := by
  cases st <;> first | exact ⟨rfl, by decide, by decide, by decide, by decide, rfl⟩ | cases h

variable (only : CausesOnly [.peerSilent, .peerLost, .foreignPeer] (s.shareEntered origin p) (s.shareHeard origin p))
include only

/-- A pending number settled by a SHARE, R119, R135. -/
theorem share_settles {ctx : TripContext} (tripped : s.st.isTripped = true) (context : s.cause.context = some ctx)
    (pending : ctx.number = none) (calls : s.CallsFrom s.cause.g p) :
    let t := (s.shareHeard origin p).readShare origin p
    t.cause.g = p.g ∧ t.timers.loopWait = none ∧ t.st = s.st
      ∧ t.cause.context = some { ctx with number := some p.g, origin := none, confirmed := false }
      ∧ (s.records.current = none → t.records = s.records)
      ∧ (∀ i r, s.records.current = some i → s.records.slots.get i = some r →
          t.records = { s.records with slots := s.records.slots.set i (some { r with
            number := some p.g, origin := none, confirmed := false, ownPart := ctx.ownPart,
            coOrigins := ctx.coOrigins }) }) := by
  obtain ⟨driving, starting, standby, joining, breakaway, -⟩ := isTripped_rows tripped
  have st := shareHeard_st only
  have follows := (shareHeard_calls only).mpr calls
  have records : (s.shareHeard origin p).records = s.records := by rw [only.rest]; rfl
  have held : (s.shareHeard origin p).cause.context = some ctx := by rw [only.rest]; exact context
  generalize s.shareHeard origin p = a at *
  have idle : a.reevaluate = a.refreshMembers.ceaseAll [.groupShort, .outOfStep] :=
    reevaluate_idle a (by rwa [st]) (by rwa [st]) (by rwa [st])
  have read : a.readShare origin p
      = (a.reevaluate.trimAtShare origin).settleNumber ctx p.g none := by
    rw [readShare_eq, State.shareRead]
    have awake : a.reevaluate.st = s.st := by
      rw [idle]
      exact st
    rw [learnFrom_joined _ origin p.g (by rwa [awake]), confirmStart_else _ origin p (not_confirms _ _ (by rwa [awake])),
      peerRotation_else _ origin p (not_turns _ _ (by rwa [awake])),
      followStage_else _ origin p (not_leads _ _ (by rwa [awake]))]
    refine settleByShare_eq _ ?_ ?_ pending ?_
    · rw [trimAtShare_eq, idle]
      exact held
    · rw [trimAtShare_eq]
      show a.reevaluate.st.isTripped = true
      rwa [awake]
    · rw [trimAtShare_eq, idle]
      exact follows
  have same : (a.reevaluate.trimAtShare origin).records = s.records := by
    rw [trimAtShare_eq, idle]
    exact records
  have kept : (a.reevaluate.trimAtShare origin).st = s.st := by
    rw [trimAtShare_eq, idle]
    exact st
  dsimp only
  rw [read, settleNumber_eq, same]
  refine ⟨rfl, rfl, kept, rfl, fun none => onCurrent_none _ none, fun i r current slot => ?_⟩
  exact onCurrent_some _ current slot

end Effects

section Group

variable {s : State} {origin : Station} {p : SharePayload}
  (only : CausesOnly [.peerSilent, .peerLost, .foreignPeer] (s.shareEntered origin p) (s.shareHeard origin p))
  (other : origin ≠ s.loader.station) (keeps : s.ShareKeepsGroup origin p)
include only other keeps

theorem keeps_participants : (s.shareHeard origin p).participantsNow = s.peers.participants := by
  obtain ⟨list, member, signature, ready, shows, -, -⟩ := keeps
  have readyKept : (s.shareHeard origin p).ready = s.ready :=
    congrArg (fun f : CauseField => !f.latched) (only.field .selftestFail (by decide))
  have member : origin ∈ s.participantsNow := by
    rw [← list]
    exact member
  have before : (s.entry origin).participates = true := by
    unfold State.participantsNow at member
    split at member
    · have own := (List.mem_filter.mp member).2
      unfold State.isParticipant at own
      rwa [if_neg other] at own
    · cases member
  rw [list]
  refine participantsNow_congr (shareHeard_st only) (by rw [shareHeard_loader only]) readyKept fun n _ => ?_
  rw [shareHeard_entry only]
  by_cases sender : n = origin
  · rw [sender, before, shareEntered_entry]
    simp [PeerEntry.sharing, PeerEntry.participates, signature, shows, ready]
  · rw [shareEntered_entry_ne s origin p sender]

/-- The list and its count stay, and no other participant is out of step. -/
theorem keeps_group : (s.shareHeard origin p).participantsNow.length = (s.shareHeard origin p).count
    ∧ (s.shareHeard origin p).count = s.count
    ∧ (s.shareHeard origin p).cfg.minCreep ≤ (s.shareHeard origin p).participantsNow.length := by
  have count : (s.shareHeard origin p).count = s.count := by rw [State.count, shareHeard_peers only]; rfl
  have cfg : (s.shareHeard origin p).cfg = s.cfg := by rw [State.cfg, shareHeard_loader only]; rfl
  have same := keeps_participants only other keeps
  obtain ⟨-, -, -, -, -, enough, -⟩ := keeps
  rw [same, count, cfg]
  exact ⟨rfl, rfl, enough⟩

theorem keeps_inStep (low : p.state = 3 ∨ p.state = 4 → (s.entry origin).nonRunning = 0) :
    ∀ n ∈ (s.shareHeard origin p).participantsNow, ((s.shareHeard origin p).entry n).nonRunning < 2 := by
  intro n member
  rw [keeps_participants only other keeps] at member
  obtain ⟨-, -, -, -, -, -, inStep⟩ := keeps
  rw [shareHeard_entry only]
  by_cases sender : n = origin
  · rw [sender, shareEntered_entry]
    show (if p.state = 3 ∨ p.state = 4 then _ else _) < 2
    split
    · next waits =>
      rw [low waits]
      decide
    · decide
  · rw [shareEntered_entry_ne s origin p sender]
    exact inStep n member sender

/-- In a driving state a SHARE in step re-evaluates the list and ends OUT_OF_STEP. -/
theorem keeps_driving (driving : s.st.driving = true)
    (low : p.state = 3 ∨ p.state = 4 → (s.entry origin).nonRunning = 0) : (s.shareHeard origin p).reevaluate
      = (s.shareHeard origin p).refreshMembers.ceaseAll [.outOfStep] :=
  reevaluate_inStep (by rwa [shareHeard_st only]) (keeps_group only other keeps).1
    (keeps_inStep only other keeps low)

omit other only in
theorem keeps_calls : ¬(s.st.canTrip = true ∧ s.CallsFrom s.cause.g p) := by
  rintro ⟨-, -, state, -⟩
  obtain ⟨-, -, -, -, shows, -, -⟩ := keeps
  rw [shows_participating] at shows
  rcases state with state | state <;> rw [state] at shows <;> exact absurd shows (by decide)

omit other only in
theorem keeps_settles (w : State) : ¬w.Settles origin p := by
  rintro ⟨-, -, calls⟩
  obtain ⟨-, -, -, -, shows, -, -⟩ := keeps
  rw [shows_participating] at shows
  simp only [State.callsForFollowing, Bool.and_eq_true, shows_trip] at calls
  rcases calls.1.2 with state | state <;> rw [state] at shows <;> exact absurd shows (by decide)

/-- STARTING as a SHARE leaves it that keeps the group, before its sender confirms. -/
theorem keeps_starting (st : s.st = .starting) (members : ∀ n ∈ s.seq.confirmation, n ∈ s.peers.participants) :
    (s.shareHeard origin p).reevaluate = (s.shareHeard origin p).startingSettled
      ∧ (s.shareHeard origin p).startingSettled.seq = s.seq := by
  obtain ⟨same, count, enough⟩ := keeps_group only other keeps
  have list := keeps_participants only other keeps
  have st : (s.shareHeard origin p).st = .starting := by rw [shareHeard_st only, st]
  have seq : (s.shareHeard origin p).seq = s.seq := by rw [only.rest]; rfl
  have kept : s.seq.confirmation.filter s.peers.participants.contains = s.seq.confirmation :=
    List.filter_eq_self.mpr fun n hn => List.contains_iff_mem.mpr (members n hn)
  have quiet : (s.shareHeard origin p).substitutes = false := by simp [State.substitutes, same]
  constructor
  · rw [reevaluate_starting_enough st enough, if_neg]
    rw [seq, list, kept]
    exact fun both => both.1 both.2
  · rw [startingSettled_seq st, quiet, seq, list, kept]
    rfl

/-- What of STARTING the readers look at. -/
theorem keeps_starting_blocks (st : s.st = .starting) :
    (s.shareHeard origin p).startingSettled.st = .starting
      ∧ (s.shareHeard origin p).startingSettled.ParticipantsOk
      ∧ (s.shareHeard origin p).startingSettled.peers.participants = s.peers.participants
      ∧ (s.shareHeard origin p).startingSettled.cfg = s.cfg := by
  have st : (s.shareHeard origin p).st = .starting := by rw [shareHeard_st only, st]
  obtain ⟨peers, -, cfg, -⟩ := startingSettled_blocks st
  refine ⟨startingSettled_st st, startingSettled_participantsOk st, ?_, ?_⟩
  · rw [peers]
    exact keeps_participants only other keeps
  · rw [cfg, State.cfg, shareHeard_loader only]
    rfl

/-- Whether another participant turns, once the SHARE is taken. -/
theorem keeps_turning (st : s.st = .starting) :
    (s.shareHeard origin p).startingSettled.someOtherShows StationState.regulating = true
      ↔ (p.state = 6 ∨ p.state = 7 ∨ p.state = 8) ∨ ∃ n ∈ s.peers.participants, n ≠ s.loader.station ∧ n ≠ origin
        ∧ (s.entry n).shows StationState.regulating = true := by
  have member : origin ∈ s.peers.participants := keeps.2.1
  have sender : ((s.shareHeard origin p).entry origin).shows StationState.regulating = true
      ↔ p.state = 6 ∨ p.state = 7 ∨ p.state = 8 := by
    rw [shareHeard_entry only, shareEntered_entry]
    exact shows_regulating p
  have others {n : Station} (apart : n ≠ origin) : (s.shareHeard origin p).entry n = s.entry n := by
    rw [shareHeard_entry only, shareEntered_entry_ne s origin p apart]
  rw [startingSettled_turning (by rw [shareHeard_st only, st]), keeps_participants only other keeps,
    shareHeard_loader only, ← sender]
  constructor
  · rintro ⟨n, hn, own, shows⟩
    by_cases apart : n = origin
    · rw [apart] at shows
      exact .inl shows
    · rw [others apart] at shows
      exact .inr ⟨n, hn, own, apart, shows⟩
  · rintro (shows | ⟨n, hn, own, apart, shows⟩)
    · exact ⟨origin, member, other, shows⟩
    · rw [← others apart] at shows
      exact ⟨n, hn, own, shows⟩

/-- A confirmation that leaves others to wait for, R29. -/
theorem keeps_confirms_waiting (st : s.st = .starting)
    (members : ∀ n ∈ s.seq.confirmation, n ∈ s.peers.participants) (waiting : origin ∈ s.seq.confirmation)
    (code : 4 ≤ p.state.toNat ∧ p.state.toNat ≤ 7) (rest : s.seq.confirmation.filter (· ≠ origin) ≠ []) :
    ((s.shareHeard origin p).readShare origin p).st = .starting
      ∧ ((s.shareHeard origin p).readShare origin p).seq
        = { s.seq with confirmation := s.seq.confirmation.filter (· ≠ origin) } := by
  obtain ⟨settled, seq⟩ := keeps_starting only other keeps st members
  obtain ⟨starting, -, -, -⟩ := keeps_starting_blocks only other keeps st
  rw [readShare_eq, settled]
  generalize (s.shareHeard origin p).startingSettled = x at *
  have kind : (x.confirmed origin).st = .starting := starting
  have out : (x.confirmed origin).seq = { s.seq with confirmation := s.seq.confirmation.filter (· ≠ origin) } := by
    rw [← seq]
    rfl
  have confirms : x.Confirms origin p := ⟨starting, by rw [seq]; exact waiting, code⟩
  have more : ((x.confirmed origin).seq.confirmation.isEmpty) = false := by
    rw [out]
    simpa [List.isEmpty_iff] using rest
  have here : (x.confirmed origin).st ≠ .breakaway := by rw [kind]; decide
  rw [State.shareRead, learnFrom_joined x origin p.g (by rw [starting]; decide), confirmStart_eq x origin p confirms, more,
    if_neg (by simp), peerRotation_else _ origin p (not_turns _ _ here), followStage_else _ origin p (not_leads _ _ here),
    read_tail _ origin p (keeps_settles keeps _)]
  obtain ⟨st', seq', -⟩ := trimAtShare_rest (x.confirmed origin) origin
  exact ⟨st'.trans kind, seq'.trans out⟩

/-- The last confirmation: BREAKAWAY is entered, and left at once where another participant turns, R29, R32. -/
theorem keeps_confirms_last (st : s.st = .starting)
    (members : ∀ n ∈ s.seq.confirmation, n ∈ s.peers.participants) (waiting : origin ∈ s.seq.confirmation)
    (code : 4 ≤ p.state.toNat ∧ p.state.toNat ≤ 7) (last : s.seq.confirmation.filter (· ≠ origin) = []) :
    let t := (s.shareHeard origin p).readShare origin p
    let turning := (p.state = 6 ∨ p.state = 7 ∨ p.state = 8) ∨ ∃ n ∈ s.peers.participants, n ≠ s.loader.station
      ∧ n ≠ origin ∧ (s.entry n).shows StationState.regulating = true
    t.seq.confirmation = [] ∧ t.timers.startWindow = none
      ∧ (¬turning → t.st = .breakaway ∧ t.limiter.stage = (if p.state = 5 then max 1 p.stage.toNat else 1))
      ∧ (turning → t.st = (if s.seq.intended = .run ∧ s.cfg.minRun ≤ s.count then .run else .creep)
          ∧ t.limiter.stage = 0) := by
  obtain ⟨settled, seq⟩ := keeps_starting only other keeps st members
  obtain ⟨starting, list, participants, cfg⟩ := keeps_starting_blocks only other keeps st
  have turns := keeps_turning only other keeps st
  have member : origin ∈ s.peers.participants := keeps.2.1
  have enough : s.cfg.minCreep ≤ s.count := keeps.2.2.2.2.2.1
  have settles := keeps_settles keeps
  dsimp only
  rw [readShare_eq, settled]
  generalize (s.shareHeard origin p).startingSettled = x at *
  have confirms : x.Confirms origin p := ⟨starting, by rw [seq]; exact waiting, code⟩
  have kind : (x.confirmed origin).st = .starting := starting
  have done : (x.confirmed origin).seq.confirmation.isEmpty = true := by
    show (x.seq.confirmation.filter (· ≠ origin)).isEmpty = true
    rw [seq, last]
    rfl
  have list' : (x.confirmed origin).ParticipantsOk := participants_congr (s := x) rfl rfl rfl (fun _ _ => rfl) rfl list
  have count : (x.confirmed origin).count = s.count := congrArg List.length participants
  have limits : (x.confirmed origin).cfg = s.cfg := cfg
  have shows : (x.confirmed origin).someOtherShows StationState.regulating
      = x.someOtherShows StationState.regulating := rfl
  have intended : (x.confirmed origin).seq.intended = s.seq.intended := by
    show x.seq.intended = _
    rw [seq]
  have entered := enterBreakaway_enough kind list' (by rw [limits, count]; exact enough)
  have moved := breakawayEntered_seq kind
  have window := breakawayEntered_startWindow kind
  have stage := breakawayEntered_stage kind
  have regroups : Regroups (x.confirmed origin) .breakaway := ⟨by rw [kind]; decide, by rw [kind]; rfl, rfl, list'⟩
  have many : (x.confirmed origin).breakawayEntered.count = s.count := regroups.count.trans count
  have limits' : (x.confirmed origin).breakawayEntered.cfg = s.cfg := (moveTo_cfg _ _).trans limits
  have within : (x.confirmed origin).breakawayEntered.peers.participants = s.peers.participants :=
    regroups.participants.trans participants
  have rolling : (x.confirmed origin).breakawayEntered.st = .breakaway := st_moveTo _ _
  have intended' : (x.confirmed origin).breakawayEntered.seq.intended = s.seq.intended := by
    rw [moved]
    exact intended
  rw [State.shareRead, learnFrom_joined x origin p.g (by rw [starting]; decide), confirmStart_eq x origin p confirms, done,
    if_pos rfl, entered, shows]
  generalize (x.confirmed origin).breakawayEntered = b at *
  by_cases turning : x.someOtherShows StationState.regulating = true
  · obtain ⟨confirmation, -, -⟩ := modeEntered_seq rolling
    have left : b.modeEntered.st ≠ .breakaway := by
      rw [modeEntered_st]
      exact mode_ne_breakaway _
    obtain ⟨st', seq', limiter', timers', -⟩ := trimAtShare_rest b.modeEntered origin
    rw [if_pos turning, peerRotation_else _ origin p (not_turns _ _ left), followStage_else _ origin p (not_leads _ _ left),
      read_tail _ origin p (settles _), st', seq', limiter', timers']
    refine ⟨by rw [confirmation, moved], by rw [modeEntered_startWindow rolling, window],
      fun no => absurd (turns.mp turning) no, fun _ => ⟨?_, modeEntered_stage rolling⟩⟩
    rw [modeEntered_st, modeFor_state, many, limits', intended']
  · have still : ¬b.Turns origin p := fun mine => turning (turns.mpr (.inl mine.2.2))
    rw [if_neg turning, peerRotation_else b origin p still]
    by_cases leads : b.Leads origin p
    · obtain ⟨st', stage', -, -, -, seq', window'⟩ := setStage_rest b p.stage.toNat
      obtain ⟨st'', seq'', limiter'', timers'', -⟩ := trimAtShare_rest (b.setStage p.stage.toNat) origin
      have five := leads.2.2.1
      have higher : 1 < p.stage.toNat := by
        rw [← stage]
        exact leads.2.2.2
      rw [followStage_eq b origin p leads, read_tail _ origin p (settles _), st'', seq'', limiter'', timers'']
      refine ⟨by rw [seq', moved], by rw [window', window], fun _ => ⟨by rw [st', rolling], ?_⟩,
        fun yes => absurd (turns.mpr yes) turning⟩
      rw [stage', if_pos five]
      omega
    · obtain ⟨st'', seq'', limiter'', timers'', -⟩ := trimAtShare_rest b origin
      rw [followStage_else b origin p leads, read_tail _ origin p (settles _), st'', seq'', limiter'', timers'']
      refine ⟨by rw [moved], window, fun _ => ⟨rolling, ?_⟩, fun yes => absurd (turns.mpr yes) turning⟩
      rw [stage]
      split
      · next five =>
        have low : ¬1 < p.stage.toNat := fun higher =>
          leads ⟨rolling, by rw [within]; exact member, five, by rw [stage]; exact higher⟩
        omega
      · rfl

/-- A SHARE that confirms nothing leaves STARTING as it is. -/
theorem keeps_starting_still (st : s.st = .starting)
    (members : ∀ n ∈ s.seq.confirmation, n ∈ s.peers.participants)
    (silent : p.state = 3 ∨ p.state = 8 ∨ origin ∉ s.seq.confirmation) :
    ((s.shareHeard origin p).readShare origin p).st = .starting
      ∧ ((s.shareHeard origin p).readShare origin p).seq = s.seq := by
  obtain ⟨settled, seq⟩ := keeps_starting only other keeps st members
  obtain ⟨starting, -, -, -⟩ := keeps_starting_blocks only other keeps st
  rw [readShare_eq, settled]
  generalize (s.shareHeard origin p).startingSettled = x at *
  have here : x.st ≠ .breakaway := by rw [starting]; decide
  have confirms : ¬x.Confirms origin p := by
    rintro ⟨-, listed, low, high⟩
    rw [seq] at listed
    rcases silent with code | code | absent
    · rw [code] at low
      exact absurd low (by decide)
    · rw [code] at high
      exact absurd high (by decide)
    · exact absent listed
  obtain ⟨st', seq', -⟩ := trimAtShare_rest x origin
  rw [shareRead_plain x origin p confirms (not_turns _ _ here) (not_leads _ _ here) (keeps_settles keeps _),
    learnFrom_joined x origin p.g (by rw [starting]; decide), st', seq']
  exact ⟨starting, seq⟩

/-- The station in BREAKAWAY, RUN or CREEP as a SHARE in step leaves it, before its readers. -/
theorem keeps_driving_blocks :
    let w := (s.shareHeard origin p).refreshMembers.ceaseAll [.outOfStep]
    w.st = s.st ∧ w.peers.participants = s.peers.participants ∧ w.ParticipantsOk ∧ w.count = s.count
      ∧ w.cfg = s.cfg ∧ w.seq = s.seq ∧ w.limiter = s.limiter ∧ w.timers = s.timers ∧ w.speed = s.speed
      ∧ w.loader = s.loader := by
  have list := keeps_participants only other keeps
  have st := shareHeard_st only
  have seq : (s.shareHeard origin p).seq = s.seq := by rw [only.rest]; rfl
  have limiter : (s.shareHeard origin p).limiter = s.limiter := by rw [only.rest]; rfl
  have timers : (s.shareHeard origin p).timers = s.timers := by rw [only.rest]; rfl
  have speed : (s.shareHeard origin p).speed = s.speed := by rw [only.rest]; rfl
  have loader := shareHeard_loader only
  have settled : ((s.shareHeard origin p).refreshMembers.ceaseAll [.outOfStep]).ParticipantsOk := by
    exact participants_congr (s := (s.shareHeard origin p).refreshMembers) rfl rfl (ceaseAll_ready _ _)
      (fun _ _ => rfl) rfl (refreshMembers_settled _)
  have cfg : (s.shareHeard origin p).cfg = s.cfg := by rw [State.cfg, loader]; rfl
  generalize s.shareHeard origin p = a at *
  exact ⟨st, list, settled, congrArg List.length list, cfg, seq, limiter, timers, speed, loader⟩

/-- The end of breakaway at a participant's SHARE, R32. -/
theorem keeps_rotation (st : s.st = .breakaway) (turning : p.state = 6 ∨ p.state = 7 ∨ p.state = 8) :
    ((s.shareHeard origin p).readShare origin p).st
        = (if s.seq.intended = .run ∧ s.cfg.minRun ≤ s.count then .run else .creep)
      ∧ ((s.shareHeard origin p).readShare origin p).limiter.stage = 0 := by
  have low : p.state = 3 ∨ p.state = 4 → (s.entry origin).nonRunning = 0 := by
    rintro (code | code) <;> rw [code] at turning <;> exact absurd turning (by decide)
  obtain ⟨kind, participants, list, count, cfg, seq, -⟩ := keeps_driving_blocks only other keeps
  rw [readShare_eq, keeps_driving only other keeps (by rw [st]; rfl) low]
  generalize (s.shareHeard origin p).refreshMembers.ceaseAll [.outOfStep] = w at *
  have here : w.st = .breakaway := kind.trans st
  have turns : w.Turns origin p := ⟨here, by rw [participants]; exact keeps.2.1, turning⟩
  obtain ⟨st', -, limiter', -⟩ := trimAtShare_rest w.modeEntered origin
  rw [shareRead_turns w origin p turns list (by rw [cfg, count]; exact keeps.2.2.2.2.2.1), st', limiter', modeEntered_st,
    modeFor_state, seq, cfg, count]
  exact ⟨rfl, modeEntered_stage here⟩

/-- The stage of a participant in BREAKAWAY, followed where it is higher, R78. -/
theorem keeps_stage (st : s.st = .breakaway) (five : p.state = 5) :
    let t := (s.shareHeard origin p).readShare origin p
    (s.limiter.stage < p.stage.toNat → t.st = .breakaway ∧ t.limiter.stage = p.stage.toNat
        ∧ t.limiter.stageValue = s.cfg.stageLevel p.stage.toNat
        ∧ t.timers.stage = some (s.cfg.stageTime * 1000) ∧ t.speed.stageEdges = 0)
      ∧ (p.stage.toNat ≤ s.limiter.stage → t.st = .breakaway ∧ t.limiter.stage = s.limiter.stage
        ∧ t.timers.stage = s.timers.stage ∧ t.speed = s.speed) := by
  have low : p.state = 3 ∨ p.state = 4 → (s.entry origin).nonRunning = 0 := by
    rintro (code | code) <;> rw [code] at five <;> exact absurd five (by decide)
  obtain ⟨kind, participants, list, count, cfg, seq, limiter, timers, speed, -⟩ := keeps_driving_blocks only other keeps
  dsimp only
  rw [readShare_eq, keeps_driving only other keeps (by rw [st]; rfl) low]
  generalize (s.shareHeard origin p).refreshMembers.ceaseAll [.outOfStep] = w at *
  have here : w.st = .breakaway := kind.trans st
  have member : origin ∈ w.peers.participants := by
    rw [participants]
    exact keeps.2.1
  constructor
  · intro higher
    have leads : w.Leads origin p := ⟨here, member, five, by rw [limiter]; exact higher⟩
    obtain ⟨st', -, limiter', timers', speed', -⟩ := trimAtShare_rest (w.setStage p.stage.toNat) origin
    obtain ⟨stSet, stage, value, timer, edges, -⟩ := setStage_rest w p.stage.toNat
    rw [shareRead_leads w origin p leads, st', limiter', timers', speed', stSet, stage, value, timer, edges, cfg]
    exact ⟨here, rfl, rfl, rfl, rfl⟩
  · intro lower
    have leads : ¬w.Leads origin p := by
      rintro ⟨-, -, -, higher⟩
      rw [limiter] at higher
      exact absurd higher (Nat.not_lt.mpr lower)
    have turns : ¬w.Turns origin p := by
      rintro ⟨-, -, turning⟩
      rw [five] at turning
      exact absurd turning (by decide)
    obtain ⟨st', -, limiter', timers', speed', -⟩ := trimAtShare_rest w origin
    rw [shareRead_plain w origin p (not_confirms _ _ (by rw [here]; decide)) turns leads (keeps_settles keeps _),
      learnFrom_joined w origin p.g (by rw [here]; decide), st', limiter', timers', speed', limiter, timers, speed]
    exact ⟨here, rfl, rfl, rfl⟩

omit only other in
/-- A SHARE that does not turn, in a driving state, leaves what the re-evaluation led to but for the trim. -/
theorem keeps_waiting_read (w : State) (waits : p.state = 3 ∨ p.state = 4) (later : w.st ≠ .starting)
    (joined : w.st ≠ .joining) : w.shareRead origin p = w.trimAtShare origin := by
  have turns : ¬w.Turns origin p := by
    rintro ⟨-, -, turning⟩
    rcases waits with code | code <;> rw [code] at turning <;> exact absurd turning (by decide)
  have leads : ¬w.Leads origin p := by
    rintro ⟨-, -, five, -⟩
    rcases waits with code | code <;> rw [code] at five <;> exact absurd five (by decide)
  rw [shareRead_plain w origin p (not_confirms _ _ later) turns leads (keeps_settles keeps _),
    learnFrom_joined w origin p.g joined]

/-- OUT_OF_STEP at the SHARE of a participant that does not run, R36. -/
theorem keeps_outOfStep (driving : s.st.driving = true) (waits : p.state = 3 ∨ p.state = 4)
    (absent : (s.causeField .outOfStep).present = false) :
    let t := (s.shareHeard origin p).readShare origin p
    ((s.entry origin).nonRunning = 0 → (t.causeField .outOfStep).present = false ∧ t.st = s.st)
      ∧ (1 ≤ (s.entry origin).nonRunning →
          (t.causeField .outOfStep).latched = true
          ∧ (t.causeField .outOfStep).count = min 255 ((s.causeField .outOfStep).count + 1)
          ∧ (s.cause.actions.outOfStep.action = .trip → t.st = tripTarget s.st s.speed.standstill
              ∧ (t.causeField .outOfStep).present = false ∧ t.cause.g = successor s.cause.g)
          ∧ (s.cause.actions.outOfStep.action ≠ .trip → t.st = s.st
              ∧ (t.causeField .outOfStep).present = true)) := by
  have later {st : StationState} (h : st.driving = true) : st ≠ .starting ∧ st ≠ .joining := by
    constructor <;> rintro rfl <;> cases h
  have trimmed (w : State) (c : Cause) : (w.trimAtShare origin).causeField c = w.causeField c := by
    unfold State.causeField
    rw [(trimAtShare_rest w origin).2.2.2.2.2.1]
  dsimp only
  rw [readShare_eq]
  constructor
  · intro zero
    obtain ⟨kind, -⟩ := keeps_driving_blocks only other keeps
    rw [keeps_driving only other keeps driving fun _ => zero]
    obtain ⟨notStarting, notJoining⟩ := later (kind ▸ driving)
    rw [keeps_waiting_read keeps _ waits notStarting notJoining, trimmed, ceaseAll_causeField,
      (trimAtShare_rest _ origin).1]
    exact ⟨by simp, kind⟩
  · intro some
    obtain ⟨same, -, -⟩ := keeps_group only other keeps
    have st := shareHeard_st only
    have list := keeps_participants only other keeps
    have field := only.field .outOfStep (by decide)
    have g := shareHeard_g only
    have standstill : (s.shareHeard origin p).speed.standstill = s.speed.standstill := by rw [only.rest]; rfl
    have actions : (s.shareHeard origin p).cause.actions = s.cause.actions := by rw [only.rest]; rfl
    have slow : 2 ≤ ((s.shareHeard origin p).entry origin).nonRunning := by
      rw [shareHeard_entry only, shareEntered_entry]
      show 2 ≤ if p.state = 3 ∨ p.state = 4 then _ else _
      rw [if_pos waits]
      omega
    have field : (s.shareHeard origin p).causeField .outOfStep = s.causeField .outOfStep := field
    have member : origin ∈ (s.shareHeard origin p).participantsNow := by
      rw [list]
      exact keeps.2.1
    generalize s.shareHeard origin p = a at *
    have driving' : a.st.driving = true := by rwa [st]
    have recounted := recounted_same driving' (by simp [State.substitutes, same])
    have unchanged : (a.refreshMembers.count != a.count) = false := by
      rw [refreshMembers_count, same, bne_self_eq_false]
    have step := recounted.outOfStepNow.mpr ⟨rfl, origin, member, slow⟩
    obtain ⟨-, latched, count, -, -, trips, quiet⟩ := recounted.outOfStep_row (changed := false) (by simp) step
      (by rw [field]; exact absent)
    have result : a.reevaluate = (a.refreshMembers.checkGroup false).standbyExit := by
      rw [reevaluate_driving driving', unchanged]
      rfl
    rw [← result] at latched count trips quiet
    rw [field] at count
    rw [actions] at trips quiet
    have read : a.reevaluate.shareRead origin p = a.reevaluate.trimAtShare origin := by
      by_cases action : s.cause.actions.outOfStep.action = .trip
      · have target := (trips action).1.st
        refine keeps_waiting_read keeps _ waits ?_ ?_ <;> rw [target, tripTarget] <;> split <;> decide
      · obtain ⟨kept, -⟩ := quiet action
        obtain ⟨notStarting, notJoining⟩ := later driving'
        refine keeps_waiting_read keeps _ waits ?_ ?_ <;> rw [kept]
        · exact notStarting
        · exact notJoining
    rw [read, trimmed, (trimAtShare_rest _ origin).1, (trimAtShare_rest _ origin).2.2.2.2.2.1]
    refine ⟨latched, count, fun action => ?_, fun action => ?_⟩
    · obtain ⟨tripped, gone⟩ := trips action
      obtain ⟨target, -, number⟩ := recounted.trip driving' tripped
      exact ⟨by rw [target, st, standstill], gone, by rw [number, g]⟩
    · obtain ⟨kept, present⟩ := quiet action
      exact ⟨kept.trans st, present⟩

end Group

end Sys2Proof.Machine
end

section
/-!
PROOFS. The balance trim at a member's SHARE (R63 to R65), and SHARE_FRAME as a whole.
-/

namespace Sys2Proof.Machine

section Balance

theorem inBalance_own (w : State) : w.inBalance w.loader.station = true
    ↔ w.loader.station ∈ w.peers.participants ∧ w.st.regulating = true := by
  simp [State.inBalance]

theorem inBalance_other (w : State) {n : Station} (h : n ≠ w.loader.station) : w.inBalance n = true
    ↔ n ∈ w.peers.participants ∧ (w.entry n).shows StationState.regulating = true := by
  simp [State.inBalance, h]

/-- The trim of a re-evaluated list is 0 outside the balancing set, R65. -/
theorem refreshMembers_trim_out (a : State) (h : ¬a.refreshMembers.inBalance a.loader.station = true) :
    a.refreshMembers.reg.trim = 0 := by
  rw [refreshMembers_trim, if_neg]
  rintro ⟨own, -⟩
  exact h ((mem_balancingSet _ _).mp own)

/-- A member's SHARE recomputes the trim of a station that drives with it, R63, R64. -/
theorem trimAtShare_member (a : State) (cs : List Cause) {origin : Station} (other : origin ≠ a.loader.station)
    (member : origin ∈ a.participantsNow) (shows : (a.entry origin).shows StationState.regulating = true)
    (regulating : a.st.regulating = true) :
    let t := (a.refreshMembers.ceaseAll cs).trimAtShare origin
    t.reg.trim = (if a.loader.station ∈ a.participantsNow then t.trimNow else 0) := by
  have sender : origin ∈ (a.refreshMembers.ceaseAll cs).balancingSet :=
    (mem_balancingSet _ _).mpr ((inBalance_other (a.refreshMembers.ceaseAll cs) other).mpr ⟨member, shows⟩)
  have own : a.loader.station ∈ (a.refreshMembers.ceaseAll cs).balancingSet ↔ a.loader.station ∈ a.participantsNow := by
    rw [mem_balancingSet]
    exact (inBalance_own (a.refreshMembers.ceaseAll cs)).trans (and_iff_left regulating)
  have out (h : a.loader.station ∉ a.participantsNow) : (a.refreshMembers.ceaseAll cs).reg.trim = 0 := by
    refine refreshMembers_trim_out a fun inside => h ?_
    exact ((inBalance_own a.refreshMembers).mp inside).1
  dsimp only
  rw [trimAtShare_eq]
  show (if origin ∈ (a.refreshMembers.ceaseAll cs).balancingSet
      ∧ a.loader.station ∈ (a.refreshMembers.ceaseAll cs).balancingSet
    then (a.refreshMembers.ceaseAll cs).trimNow else (a.refreshMembers.ceaseAll cs).reg.trim)
    = if a.loader.station ∈ a.participantsNow then (a.refreshMembers.ceaseAll cs).trimNow else 0
  by_cases inside : a.loader.station ∈ a.participantsNow
  · rw [if_pos ⟨sender, own.mpr inside⟩, if_pos inside]
  · rw [if_neg fun both => inside (own.mp both.2), if_neg inside, out inside]

variable {s : State} {origin : Station} {p : SharePayload}
  (only : CausesOnly [.peerSilent, .peerLost, .foreignPeer] (s.shareEntered origin p) (s.shareHeard origin p))
  (other : origin ≠ s.loader.station) (keeps : s.ShareKeepsGroup origin p)
include only other keeps

theorem keeps_balance (regulating : s.st.regulating = true) (turning : p.state = 6 ∨ p.state = 7 ∨ p.state = 8) :
    let t := (s.shareHeard origin p).readShare origin p
    t.st = s.st ∧ t.reg.trim = (if s.loader.station ∈ s.peers.participants then t.trimNow else 0) := by
  have low : p.state = 3 ∨ p.state = 4 → (s.entry origin).nonRunning = 0 := by
    rintro (code | code) <;> rw [code] at turning <;> exact absurd turning (by decide)
  have rows : s.st.driving = true ∨ (s.st.driving = false ∧ s.st ≠ .starting ∧ s.st ≠ .standby) := by
    cases st : s.st <;> simp [st, StationState.regulating] at regulating <;> simp [StationState.driving]
  have here : s.st ≠ .breakaway ∧ s.st ≠ .starting ∧ s.st ≠ .joining := by
    refine ⟨?_, ?_, ?_⟩ <;> intro st <;> rw [st] at regulating <;> cases regulating
  have st := shareHeard_st only
  have list := keeps_participants only other keeps
  have loader := shareHeard_loader only
  have settled : ∃ cs, (s.shareHeard origin p).reevaluate = (s.shareHeard origin p).refreshMembers.ceaseAll cs := by
    rcases rows with driving | ⟨driving, starting, standby⟩
    · exact ⟨_, keeps_driving only other keeps driving low⟩
    · exact ⟨_, reevaluate_idle _ (by rwa [st]) (by rwa [st]) (by rwa [st])⟩
  have shows : ((s.shareHeard origin p).entry origin).shows StationState.regulating = true := by
    rw [shareHeard_entry only, shareEntered_entry]
    exact (shows_regulating p).mpr turning
  have member : origin ∈ (s.shareHeard origin p).participantsNow := by
    rw [list]
    exact keeps.2.1
  generalize s.shareHeard origin p = a at *
  obtain ⟨cs, settled⟩ := settled
  have kind : (a.refreshMembers.ceaseAll cs).st = s.st := st
  have trim := trimAtShare_member a cs (by rwa [loader]) member shows (by rwa [st])
  dsimp only at trim ⊢
  rw [readShare_eq, settled, shareRead_plain _ origin p (not_confirms _ _ (by rw [kind]; exact here.2.1))
    (not_turns _ _ (by rw [kind]; exact here.1)) (not_leads _ _ (by rw [kind]; exact here.1)) (keeps_settles keeps _),
    learnFrom_joined _ origin p.g (by rw [kind]; exact here.2.2), trim, list, loader]
  exact ⟨(trimAtShare_rest _ origin).1.trans kind, rfl⟩

end Balance

section Settled

variable {s : State} {origin : Station} {p : SharePayload}

theorem shareEntered_foreign : ((s.shareEntered origin p).entry origin).foreign = false
    ↔ p.signature = s.cfg.signature := by
  rw [shareEntered_entry]
  simp [PeerEntry.sharing]

/-- The list is in order after a re-evaluation. -/
theorem reevaluate_participantsOk (a : State) : a.reevaluate.ParticipantsOk :=
  (chain_reevaluate_after (b := true) a).keeps (fun _ _ => change_participants) (refreshMembers_settled a)

theorem group_station : (s.shareHeard origin p).reevaluate.loader = s.loader :=
  ((follows_shareHeard s origin p).trans (follows_reevaluate _)).loader

theorem group_foreign : ((s.shareHeard origin p).reevaluate.entry origin).foreign = (p.signature != s.cfg.signature) :=
  (shared_entry ((follows_shareHeard s origin p).trans (follows_reevaluate _))).2.2.2.2.1

/-- R121's condition as it stands after the re-evaluation. -/
theorem group_calls : (s.shareHeard origin p).reevaluate.callsForFollowing origin p = true
    ↔ s.CallsFrom (s.shareHeard origin p).reevaluate.cause.g p := by
  simp only [State.callsForFollowing, State.CallsFrom, group_foreign, Bool.and_eq_true, shows_trip]
  simp [and_assoc]

/-- The readers from the state that the re-evaluation has left. -/
theorem share_read :
    let w := (s.shareHeard origin p).reevaluate
    let t := w.shareRead origin p
    let member := origin ∈ w.peers.participants
    let confirming := w.st = .starting ∧ origin ∈ w.seq.confirmation ∧ 4 ≤ p.state.toNat ∧ p.state.toNat ≤ 7
    let turning := w.st = .breakaway ∧ member ∧ (p.state = 6 ∨ p.state = 7 ∨ p.state = 8)
    let higher := w.st = .breakaway ∧ member ∧ p.state = 5 ∧ w.limiter.stage < p.stage.toNat
    let settling := w.st.isTripped = true ∧ (∃ ctx, w.cause.context = some ctx ∧ ctx.number = none)
      ∧ s.CallsFrom w.cause.g p
    (¬confirming → ¬turning → ¬higher → ¬settling → t = { w with
      reg := { w.reg with trim :=
        if origin ∈ w.balancingSet ∧ s.loader.station ∈ w.balancingSet then w.trimNow else w.reg.trim }
      cause := { w.cause with
        g := if s.st = .joining ∧ p.signature = s.cfg.signature ∧ newer p.g s.cause.g = true then p.g
             else w.cause.g } })
    ∧ (turning → w.cfg.minCreep ≤ w.count →
        t.st = (if w.seq.intended = .run ∧ w.cfg.minRun ≤ w.count then .run else .creep) ∧ t.limiter.stage = 0)
    ∧ (higher → t.st = .breakaway ∧ t.limiter.stage = p.stage.toNat
        ∧ t.limiter.stageValue = s.cfg.stageLevel p.stage.toNat
        ∧ t.timers.stage = some (s.cfg.stageTime * 1000) ∧ t.speed.stageEdges = 0) := by
  have station := group_station (s := s) (origin := origin) (p := p)
  have calls := group_calls (s := s) (origin := origin) (p := p)
  have list := reevaluate_participantsOk (s.shareHeard origin p)
  have cfg : (s.shareHeard origin p).reevaluate.cfg = s.cfg := by rw [State.cfg, station]; rfl
  obtain ⟨-, learned⟩ := learnedFrom_group (s := s) (v := s.shareEntered origin p) rfl rfl shareEntered_foreign p.g
  dsimp only
  refine ⟨fun confirming turning higher settling => ?_, fun turning enough => ?_, fun higher => ?_⟩
  · have still : ¬(s.shareHeard origin p).reevaluate.Settles origin p := fun settles =>
      settling ⟨settles.1, settles.2.1, calls.mp settles.2.2⟩
    rw [shareRead_plain _ origin p confirming turning higher still]
    have learned : (s.shareHeard origin p).reevaluate.learnFrom origin p.g = _ := learned
    rw [learned, trimAtShare_eq, ← station]
    rfl
  · obtain ⟨st', -, limiter', -⟩ := trimAtShare_rest (s.shareHeard origin p).reevaluate.modeEntered origin
    rw [shareRead_turns _ origin p turning list enough, st', limiter', modeEntered_st, modeFor_state]
    exact ⟨rfl, modeEntered_stage turning.1⟩
  · obtain ⟨st', -, limiter', timers', speed', -⟩ :=
      trimAtShare_rest ((s.shareHeard origin p).reevaluate.setStage p.stage.toNat) origin
    obtain ⟨stSet, stage, value, timer, edges, -⟩ := setStage_rest (s.shareHeard origin p).reevaluate p.stage.toNat
    rw [shareRead_leads _ origin p higher, st', limiter', timers', speed', stSet, stage, value, timer, edges, cfg]
    exact ⟨higher.1, rfl, rfl, rfl, rfl⟩

/-- In JOINING a SHARE teaches the number, R14. -/
theorem share_joining (joining : s.st = .joining) : ((s.shareHeard origin p).readShare origin p).st = .joining
    ∧ ((s.shareHeard origin p).readShare origin p).cause.g
      = (if p.signature = s.cfg.signature ∧ newer p.g s.cause.g = true then p.g else s.cause.g) := by
  have follows := (follows_shareHeard s origin p).trans (follows_reevaluate (s.shareHeard origin p))
  have st : (s.shareHeard origin p).reevaluate.st = .joining := follows.joining.mpr joining
  obtain ⟨learns, -⟩ := learnedFrom_group (s := s) (v := s.shareEntered origin p) rfl rfl shareEntered_foreign p.g
  have learns : ((s.shareHeard origin p).reevaluate.learnFrom origin p.g).st = .joining
    ∧ ((s.shareHeard origin p).reevaluate.learnFrom origin p.g).cause.g = _ := learns joining
  rw [readShare_eq, shareRead_plain _ origin p (not_confirms _ _ (by rw [st]; decide))
    (not_turns _ _ (by rw [st]; decide)) (not_leads _ _ (by rw [st]; decide))
    (not_settles_awake _ _ _ (by rw [st]; rfl)), (trimAtShare_rest _ origin).1, (trimAtShare_rest _ origin).2.2.2.2.2.1]
  exact learns

end Settled

/-- Settles O53. -/
theorem shareTaken : Obligations.ShareTaken := by
  unfold Obligations.ShareTaken
  intro origin p s active listening other lost
  have only := shareHeard_only p (origin := origin) lost
  have answer := exec_shareFrame p active listening other
  have st := shareHeard_st only
  have calls := shareHeard_calls only
  have trips : ((s.shareHeard origin p).st.canTrip && (s.shareHeard origin p).callsForFollowing origin p) = true
      ↔ s.st.canTrip = true ∧ s.CallsFrom s.cause.g p := by rw [Bool.and_eq_true, st, calls]
  rw [answer]
  have follows : Follows (s.shareEntered origin p)
      (if (s.shareHeard origin p).st.canTrip && (s.shareHeard origin p).callsForFollowing origin p
       then (s.shareHeard origin p).refreshMembers.followerTrip p.g none 0
       else (s.shareHeard origin p).readShare origin p) := by
    refine (follows_shareHeard s origin p).trans ?_
    split
    · exact (follows_refreshMembers _).trans (follows_followerTrip _ _ _ _)
    · exact (follows_reevaluate _).trans (follows_shareRead _ origin p)
  obtain ⟨kind, present, silence, share, foreign, heard, quiet, same⟩ := shared_entry follows
  refine ⟨_, rfl, kind, present, silence, share, foreign, heard, quiet, same, fun joining => ?_,
    fun can signature code newer => ?_, fun ctx tripped context pending signature code newer => ?_,
    fun w reads hw => ?_, fun keeps => ?_⟩
  · have reads : ¬(s.st.canTrip = true ∧ s.CallsFrom s.cause.g p) := by
      rw [joining]
      exact fun both => absurd both.1 (by decide)
    rw [if_neg (mt trips.mp reads)]
    exact share_joining joining
  · rw [if_pos (trips.mpr ⟨can, signature, code, newer⟩)]
    exact share_follower only can
  · have reads : ¬(s.st.canTrip = true ∧ s.CallsFrom s.cause.g p) := fun both => by
      rw [(isTripped_rows tripped).2.2.2.2.2] at both
      cases both.1
    rw [if_neg (mt trips.mp reads)]
    exact share_settles only tripped context pending ⟨signature, code, newer⟩
  · have hw : w = (s.shareHeard origin p).reevaluate := hw
    rw [if_neg (mt trips.mp reads), readShare_eq, hw]
    exact share_read
  · rw [if_neg (mt trips.mp (keeps_calls keeps))]
    refine ⟨fun starting members waiting code => ⟨fun rest => ?_, fun last none => ?_, fun last some => ?_⟩,
      fun starting members waiting code => ⟨fun rest => ?_, fun last => ?_⟩,
      fun starting members _ silent => keeps_starting_still only other keeps starting members silent,
      fun breakaway turning => keeps_rotation only other keeps breakaway turning,
      fun breakaway five higher => (keeps_stage only other keeps breakaway five).1 higher,
      fun breakaway five lower => (keeps_stage only other keeps breakaway five).2 lower,
      fun driving waits absent => keeps_outOfStep only other keeps driving waits absent,
      fun regulating turning => keeps_balance only other keeps regulating turning⟩
    · exact keeps_confirms_waiting only other keeps starting members waiting
        (by rcases code with code | code <;> rw [code] <;> decide) rest
    · obtain ⟨confirmation, window, still, -⟩ := keeps_confirms_last only other keeps starting members waiting
        (by rcases code with code | code <;> rw [code] <;> decide) last
      obtain ⟨kind, stage⟩ := still (by
        rintro (own | ⟨n, hn, station, apart, shows⟩)
        · rcases code with code | code <;> rw [code] at own <;> exact absurd own (by decide)
        · rw [none n hn station apart] at shows
          cases shows)
      exact ⟨kind, confirmation, window, stage⟩
    · obtain ⟨confirmation, window, -, turns⟩ := keeps_confirms_last only other keeps starting members waiting
        (by rcases code with code | code <;> rw [code] <;> decide) last
      obtain ⟨kind, stage⟩ := turns (.inr some)
      exact ⟨kind, confirmation, window, stage⟩
    · exact keeps_confirms_waiting only other keeps starting members waiting
        (by rcases code with code | code <;> rw [code] <;> decide) rest
    · obtain ⟨confirmation, window, -, turns⟩ := keeps_confirms_last only other keeps starting members waiting
        (by rcases code with code | code <;> rw [code] <;> decide) last
      obtain ⟨kind, stage⟩ := turns (.inl (by rcases code with code | code <;> simp [code]))
      exact ⟨kind, confirmation, window, stage⟩

end Sys2Proof.Machine
end

section
/-!
PROOFS. The end of joining (R13, R15, R109, R111): what the causes presented one after another have made of the state
in which JOINING ended, whatever order is taken.
-/

namespace Sys2Proof.Machine

section Order

/-- Each element is taken once, in some order: what holds of the elements taken so far, the newest first, and the state
they have led to, holds of all of them in the end. -/
theorem inFreeOrder_perm {α : Type} {P : List α → State → Prop} {f : α → State → State} (l : List α) {s : State}
    (done : List α) (fresh : (l ++ done).Nodup)
    (each : ∀ x ∈ l, ∀ done u, x ∉ done → P done u → P (x :: done) (f x u))
    (free : ∀ done u n, P done u → P done { u with free := n }) (h : P done s) :
    ∃ all, all.Perm (l ++ done) ∧ P all (State.inFreeOrder f l.length l s) := by
  have apart {x : α} (l done : List α) (fresh : (l ++ done).Nodup) (hx : x ∈ l) : x ∉ done := fun taken =>
    (List.nodup_append.mp fresh).2.2 x hx x taken rfl
  induction hn : l.length generalizing l s done with
  | zero =>
    obtain rfl := List.length_eq_zero_iff.mp hn
    exact ⟨done, .refl _, h⟩
  | succ n ih =>
    match l, hn with
    | [x], _ => exact ⟨x :: done, .refl _, each x (by simp) done s (apart [x] done fresh (by simp)) h⟩
    | x :: y :: rest, hn =>
      unfold State.inFreeOrder
      dsimp only
      generalize hi : Config.freeChoice s.free % (x :: y :: rest).length = i
      have inside : i < (x :: y :: rest).length := hi ▸ Nat.mod_lt _ (by simp)
      rw [List.getD_eq_getElem _ _ inside]
      have less : ((x :: y :: rest).eraseIdx i).length = n := by
        rw [List.length_eraseIdx_of_lt inside, hn]
        rfl
      have taken : ((x :: y :: rest)[i] :: (x :: y :: rest).eraseIdx i).Perm (x :: y :: rest) :=
        List.getElem_cons_eraseIdx_perm inside
      have order := List.perm_middle.trans (taken.append_right done)
      obtain ⟨all, perm, result⟩ := ih ((x :: y :: rest).eraseIdx i) ((x :: y :: rest)[i] :: done)
        (order.nodup_iff.mpr fresh) (fun z hz => each z (List.mem_of_mem_eraseIdx hz))
        (each _ (List.getElem_mem inside) done _ (apart _ done fresh (List.getElem_mem inside)) (free done s _ h)) less
      exact ⟨all, perm.trans order, result⟩

end Order

section Parts

/-- The risen causes of a list that trip. -/
def State.tripCauses (j : State) (cs : List Cause) : List Cause :=
  cs.filter fun c => j.actionOf c == .trip

/-- The risen causes of a list that clamp. -/
def State.clampCauses (j : State) (cs : List Cause) : List Cause :=
  cs.filter fun c => j.actionOf c == .clamp

/-- The five causes that belong to states. -/
def Cause.ofStates : List Cause := [.noBreakaway, .jam, .surge, .groupShort, .outOfStep]

/-- From `j` the causes `cs` have risen: what they leave of the other blocks, and the causes themselves. -/
structure JoinBlocks (j : State) (cs : List Cause) (t : State) : Prop where
  entries : t.peers.entries = j.peers.entries
  speed : t.speed = j.speed
  outer : t.clock = j.clock ∧ t.loader = j.loader ∧ t.monitor = j.monitor ∧ t.inputs = j.inputs ∧ t.pending = j.pending
  lines : t.lines = t.st.lines
  timers : t.timers.share = j.timers.share ∧ t.timers.history = j.timers.history
  actions : t.cause.actions = j.cause.actions
  link : t.link = { j.link with tripSlot := t.link.tripSlot, clampSlot := t.link.clampSlot }
  risen : ∀ c ∈ cs, t.causeField c
    = { present := true, latched := true, count := min 255 ((j.causeField c).count + 1) }
  others : ∀ c, c ∉ cs → (t.causeField c).latched = (j.causeField c).latched
    ∧ (t.causeField c).count = (j.causeField c).count ∧ (c ∉ Cause.ofStates → t.causeField c = j.causeField c)

/-- The CLAMPs of the risen causes `cs`, the newest first, R86, R112. -/
structure JoinClamps (j : State) (cs : List Cause) (t : State) : Prop where
  loud : j.link.mute = false → t.limiter.clamp = j.limiter.clamp
    ∧ (j.clampCauses cs = [] → t.link.clampSlot = j.link.clampSlot)
    ∧ ∀ c rest, j.clampCauses cs = c :: rest → t.link.clampSlot = some (j.clampOf c)
  mute : j.link.mute = true → t.link.clampSlot = j.link.clampSlot
    ∧ (j.clampCauses cs = [] → t.limiter.clamp = j.limiter.clamp)
    ∧ ∀ c, j.clampCauses cs = [c] → (j.IgnoresOwnClamp (j.clampOf c) → t.limiter.clamp = j.limiter.clamp)
      ∧ (¬j.IgnoresOwnClamp (j.clampOf c) → t.limiter.clamp = j.ownClamp (j.clampOf c))

/-- The record of the origin trip by `first`, with the later TRIP-action rises as subsequent causes, R122, R133, R136. -/
structure JoinRecord (j : State) (first : Cause) (rest : List Cause) (r : TripRecord) : Prop where
  cause : r.firstCause = first ∧ r.detail = j.detailOf first
  kept : r.closed = false
  number : r.number = some (successor j.cause.g) ∧ r.origin = some j.loader.station ∧ r.confirmed = false
    ∧ r.ownPart = .origin
  held : r.stateAtTrip = j.st ∧ r.timeMark = j.clock.timeMark ∧ r.history = j.records.ring
  subsequent : ∀ x ∈ r.subsequent, x.cause ∈ rest ∧ x.offset = 0 ∧ x.number = none
  counted : r.subsequent.length = min 4 rest.length ∧ r.overflow = min 255 (rest.length - 4)

/-- The origin trip by `first`, R111, R114, R115. -/
structure JoinTrip (j : State) (first : Cause) (rest : List Cause) (t : State) : Prop where
  st : t.st = tripTarget j.st j.speed.standstill
  stopped : t.Stopped
  loopWait : t.timers.loopWait = none
  g : t.cause.g = successor j.cause.g
  context : t.cause.context = some (j.tripContext (some (successor j.cause.g)) (some j.loader.station) false .origin)
  tripSlot : t.link.tripSlot = if j.link.mute then j.link.tripSlot else some (j.tripFrameOf first)
  record : j.records.Ok → ∃ i r, t.records.current = some i ∧ t.records.slots.get i = some r ∧ JoinRecord j first rest r

/-- The trips of the risen causes `cs`, the newest first. -/
structure JoinTrips (j : State) (cs : List Cause) (t : State) : Prop where
  none : j.tripCauses cs = [] → t.st = j.st ∧ t.cause.g = j.cause.g ∧ t.cause.context = j.cause.context
    ∧ t.records = j.records ∧ t.link.tripSlot = j.link.tripSlot ∧ t.reg = j.reg ∧ t.vib = j.vib
  already : j.st = .tripped → t.st = .tripped ∧ t.cause.g = j.cause.g ∧ t.cause.context = j.cause.context
    ∧ t.link.tripSlot = j.link.tripSlot ∧ (j.cause.context = Option.none → t.records = j.records)
  made : j.st.canTrip = true → ∀ first rest, j.tripCauses cs = rest ++ [first] → JoinTrip j first rest t

end Parts

section Steps

variable {j t : State} {cs : List Cause} {c : Cause}

theorem tripCauses_cons (j : State) (c : Cause) (cs) : j.tripCauses (c :: cs)
    = if j.actionOf c = .trip then c :: j.tripCauses cs else j.tripCauses cs := by
  simp [State.tripCauses, List.filter_cons]

theorem clampCauses_cons (j : State) (c : Cause) (cs) : j.clampCauses (c :: cs)
    = if j.actionOf c = .clamp then c :: j.clampCauses cs else j.clampCauses cs := by
  simp [State.clampCauses, List.filter_cons]

theorem JoinBlocks.actionOf (h : JoinBlocks j cs t) (d : Cause) : t.actionOf d = j.actionOf d := by
  unfold State.actionOf
  rw [h.actions]

theorem JoinBlocks.muted (h : JoinBlocks j cs t) : t.link.mute = j.link.mute := by rw [h.link]

theorem JoinBlocks.cfg (h : JoinBlocks j cs t) : t.cfg = j.cfg := by
  unfold State.cfg
  rw [h.outer.2.1]

/-- The causes after one more rise: only the fields of the state's own causes may have changed beside its own. -/
theorem JoinBlocks.fields {u : State} (h : JoinBlocks j cs t) (fresh : c ∉ cs) (own : c ∉ Cause.ofStates)
    (latched : ∀ d, (u.causeField d).latched = ((t.risen c).causeField d).latched
      ∧ (u.causeField d).count = ((t.risen c).causeField d).count)
    (same : ∀ d, d ∉ Cause.ofStates → u.causeField d = (t.risen c).causeField d)
    (apart : ∀ d ∈ cs, d ∉ Cause.ofStates) :
    (∀ d ∈ c :: cs, u.causeField d
      = { present := true, latched := true, count := min 255 ((j.causeField d).count + 1) })
    ∧ ∀ d, d ∉ c :: cs → (u.causeField d).latched = (j.causeField d).latched
      ∧ (u.causeField d).count = (j.causeField d).count ∧ (d ∉ Cause.ofStates → u.causeField d = j.causeField d) := by
  have count : (t.causeField c).count = (j.causeField c).count := (h.others c fresh).2.1
  constructor
  · intro d hd
    rcases List.mem_cons.mp hd with rfl | hd
    · rw [same d own, risen_causeField, count]
    · have other : d ≠ c := fun same => fresh (same ▸ hd)
      rw [same d (apart d hd), risen_causeField_ne t other]
      exact h.risen d hd
  · intro d hd
    simp only [List.mem_cons, not_or] at hd
    obtain ⟨other, out⟩ := hd
    obtain ⟨latched', count', same'⟩ := h.others d out
    obtain ⟨latchedU, countU⟩ := latched d
    rw [risen_causeField_ne t other] at latchedU countU
    refine ⟨latchedU.trans latched', countU.trans count', fun free => ?_⟩
    rw [same d free, risen_causeField_ne t other]
    exact same' free

/-- An alert leaves nothing but its cause, R112. -/
theorem join_alert (blocks : JoinBlocks j cs t) (clamps : JoinClamps j cs t) (trips : JoinTrips j cs t) (fresh : c ∉ cs)
    (own : c ∉ Cause.ofStates) (apart : ∀ d ∈ cs, d ∉ Cause.ofStates) (action : j.actionOf c = .alert) :
    JoinBlocks j (c :: cs) (t.risen c) ∧ JoinClamps j (c :: cs) (t.risen c) ∧ JoinTrips j (c :: cs) (t.risen c) := by
  have sameTrips : j.tripCauses (c :: cs) = j.tripCauses cs := by rw [tripCauses_cons, if_neg (by rw [action]; decide)]
  have sameClamps : j.clampCauses (c :: cs) = j.clampCauses cs := by
    rw [clampCauses_cons, if_neg (by rw [action]; decide)]
  obtain ⟨risen, others⟩ := blocks.fields (u := t.risen c) fresh own (fun _ => ⟨rfl, rfl⟩) (fun _ _ => rfl) apart
  refine ⟨⟨blocks.entries, blocks.speed, blocks.outer, blocks.lines, blocks.timers, blocks.actions, blocks.link, risen,
    others⟩, ?_, ?_⟩
  · constructor <;> rw [sameClamps]
    · exact clamps.loud
    · exact clamps.mute
  · constructor
    · rw [sameTrips]
      exact trips.none
    · exact trips.already
    · intro can first rest made
      rw [sameTrips] at made
      have trip := trips.made can first rest made
      exact ⟨trip.st, trip.stopped, trip.loopWait, trip.g, trip.context, trip.tripSlot, trip.record⟩

theorem installClamp_records (s : State) (o p) : (s.installClamp o p).records = s.records := by
  unfold State.installClamp
  split
  · rfl
  · split <;> rfl

theorem composeClamp_loud (s : State) (c : Cause) (h : s.link.mute = false) :
    s.composeClamp c = s.onLink fun l => { l with clampSlot := some (s.clampOf c) } := by
  simp only [State.composeClamp, State.clampOf, h, Bool.false_eq_true, if_false]

theorem composeClamp_records (s : State) (c : Cause) : (s.composeClamp c).records = s.records := by
  cases mute : s.link.mute with
  | false =>
    rw [composeClamp_loud s c mute]
    rfl
  | true =>
    rw [composeClamp_mute s mute]
    exact installClamp_records s _ _

theorem composeClamp_link (s : State) (c : Cause) : (s.composeClamp c).link
    = if s.link.mute then s.link else { s.link with clampSlot := some (s.clampOf c) } := by
  cases mute : s.link.mute with
  | false =>
    rw [composeClamp_loud s c mute, if_neg (by simp)]
    rfl
  | true =>
    rw [composeClamp_mute s mute, if_pos rfl]
    exact installClamp_link s _ _

theorem JoinBlocks.clampOf (h : JoinBlocks j cs t) (d : Cause) : t.clampOf d = j.clampOf d := by
  unfold State.clampOf
  rw [h.actions, h.cfg]

theorem JoinTrip.of_stays {first : Cause} {rest : List Cause} {u v : State} (h : JoinTrip j first rest u)
    (stays : Stays u v) (records : v.records = u.records) (tripSlot : v.link.tripSlot = u.link.tripSlot) :
    JoinTrip j first rest v where
  st := stays.st.trans h.st
  stopped := stays.stopped h.stopped
  loopWait := by rw [stays.timers, h.loopWait]
  g := stays.g.trans h.g
  context := stays.context.trans h.context
  tripSlot := tripSlot.trans h.tripSlot
  record := by
    rw [records]
    exact h.record

/-- A CLAMP composed goes to its slot, or is applied here while MUTE, R86, R112. -/
theorem join_clamp (blocks : JoinBlocks j cs t) (clamps : JoinClamps j cs t) (trips : JoinTrips j cs t) (fresh : c ∉ cs)
    (own : c ∉ Cause.ofStates) (apart : ∀ d ∈ cs, d ∉ Cause.ofStates) (action : j.actionOf c = .clamp) :
    let u := (t.risen c).composeClamp c
    JoinBlocks j (c :: cs) u ∧ JoinClamps j (c :: cs) u ∧ JoinTrips j (c :: cs) u := by
  have sameTrips : j.tripCauses (c :: cs) = j.tripCauses cs := by rw [tripCauses_cons, if_neg (by rw [action]; decide)]
  have more : j.clampCauses (c :: cs) = c :: j.clampCauses cs := by rw [clampCauses_cons, if_pos action]
  have stays := stays_composeClamp (t.risen c) c
  have records : ((t.risen c).composeClamp c).records = t.records := composeClamp_records (t.risen c) c
  have payload : (t.risen c).clampOf c = j.clampOf c := blocks.clampOf c
  have link : ((t.risen c).composeClamp c).link
      = if j.link.mute then t.link else { t.link with clampSlot := some (j.clampOf c) } := by
    rw [composeClamp_link, payload, show (t.risen c).link = t.link from rfl, blocks.muted]
  have tripSlot : ((t.risen c).composeClamp c).link.tripSlot = t.link.tripSlot := by
    rw [link]
    split <;> rfl
  have notJam : ∀ d, d ∉ Cause.ofStates → d ≠ .jam := by
    rintro d hd rfl
    exact hd (by decide)
  obtain ⟨risen, others⟩ := blocks.fields fresh own (fun d => stays.latched d)
    (fun d hd => stays.causeField d (notJam d hd)) apart
  dsimp only
  refine ⟨⟨?_, ?_, ?_, ?_, ?_, ?_, ?_, risen, others⟩, ⟨fun loud => ?_, fun mute => ?_⟩, ⟨?_, ?_, ?_⟩⟩
  · rw [stays.peers]
    exact blocks.entries
  · rw [stays.speed]
    exact blocks.speed
  · rw [stays.clock, stays.loader, stays.monitor, stays.inputs, stays.pending]
    exact blocks.outer
  · rw [stays.lines, stays.st]
    exact blocks.lines
  · rw [stays.timers]
    exact blocks.timers
  · rw [stays.cause]
    exact blocks.actions
  · rw [link]
    split
    · exact blocks.link
    · rw [blocks.link]
  · obtain ⟨held, -, -⟩ := clamps.loud loud
    rw [more, link, loud, composeClamp_loud (t.risen c) c (blocks.muted.trans loud)]
    refine ⟨held, fun none => (by cases none), fun d rest list => ?_⟩
    rw [List.cons.injEq] at list
    rw [← list.1]
    rfl
  · obtain ⟨slot, held, -⟩ := clamps.mute mute
    rw [more, link, mute, composeClamp_mute (t.risen c) (c := c) (blocks.muted.trans mute), payload]
    refine ⟨slot, fun none => (by cases none), fun d only => ?_⟩
    rw [List.cons.injEq] at only
    obtain ⟨rfl, first⟩ := only
    have held := held first
    have ignores : (t.risen c).IgnoresOwnClamp (j.clampOf c) ↔ j.IgnoresOwnClamp (j.clampOf c) := by
      unfold State.IgnoresOwnClamp
      have entry : ((t.risen c).entry (t.risen c).loader.station).foreign = (j.entry j.loader.station).foreign := by
        show (t.peers.entries.get t.loader.station).foreign = _
        rw [blocks.entries, blocks.outer.2.1]
        rfl
      rw [entry, show (t.risen c).limiter.clamp = j.limiter.clamp from held]
    constructor
    · intro ignored
      rw [installClamp_ignored _ (ignores.mpr ignored)]
      exact held
    · intro taken
      rw [installClamp_own _ (mt ignores.mp taken)]
      show t.ownClamp (j.clampOf c) = _
      unfold State.ownClamp
      rw [blocks.outer.2.1]
  · intro none
    rw [sameTrips] at none
    obtain ⟨st, g, context, store, slot, reg, vib⟩ := trips.none none
    rw [stays.st, stays.g, stays.context, stays.reg, stays.vib, records, tripSlot]
    exact ⟨st, g, context, store, slot, reg, vib⟩
  · intro already
    obtain ⟨st, g, context, slot, store⟩ := trips.already already
    rw [stays.st, stays.g, stays.context, records, tripSlot]
    exact ⟨st, g, context, slot, store⟩
  · intro can first rest made
    rw [sameTrips] at made
    have trip := trips.made can first rest made
    have trip : JoinTrip j first rest (t.risen c) :=
      ⟨trip.st, trip.stopped, trip.loopWait, trip.g, trip.context, trip.tripSlot, trip.record⟩
    exact trip.of_stays stays records tripSlot

/-- A trip leaves the share and history timers running. -/
theorem tripMove_periodic (s : State) : s.tripMove.timers.share = s.timers.share
    ∧ s.tripMove.timers.history = s.timers.history := by
  refine tripMove_keeps (P := fun t => t.timers.share = s.timers.share ∧ t.timers.history = s.timers.history) s id
    (fun u new _ h => ?_) ⟨rfl, rfl⟩
  by_cases same : u.st = new
  · rw [moveTo_eq u same]
    exact h
  · rw [moveTo_timers same]
    exact h

theorem tripMove_lines (s : State) (h : s.st.canTrip = true) : s.tripMove.lines = s.tripMove.st.lines := by
  obtain ⟨u, ne, last⟩ := tripMove_last s h
  rw [last, moveTo_lines ne, st_moveTo]

theorem originBegun_periodic (s : State) (c detail) : (s.originBegun c detail).timers.share = s.timers.share
    ∧ (s.originBegun c detail).timers.history = s.timers.history := by
  simp [State.originBegun, State.setG, State.beginTrip, State.openRecord, State.composeTrip]

/-- What an origin trip leaves of the other blocks, R114. -/
theorem originTrip_blocks (s : State) (c detail) (h : s.st.canTrip = true) :
    let t := s.originTrip c detail
    t.peers.entries = s.peers.entries ∧ t.speed = s.speed
      ∧ (t.clock = s.clock ∧ t.loader = s.loader ∧ t.monitor = s.monitor ∧ t.inputs = s.inputs ∧ t.pending = s.pending)
      ∧ t.lines = t.st.lines ∧ (t.timers.share = s.timers.share ∧ t.timers.history = s.timers.history)
      ∧ t.cause.actions = s.cause.actions ∧ t.link = s.linkWithTrip c ∧ t.limiter.clamp = s.limiter.clamp := by
  have can : (s.originBegun c detail).st.canTrip = true := by rwa [originBegun_st]
  have periodic := tripMove_periodic (s.originBegun c detail)
  have begun := originBegun_periodic s c detail
  rw [originTrip_eq]
  refine ⟨?_, ?_, ⟨?_, ?_, ?_, ?_, ?_⟩, tripMove_lines _ can, ⟨periodic.1.trans begun.1, periodic.2.trans begun.2⟩, ?_, ?_,
    ?_⟩
  · rw [tripMove_entries, originBegun_peers]
  · rw [tripMove_speed, originBegun_speed]
  · rw [tripMove_clock, originBegun_clock]
  · rw [tripMove_loader, originBegun_loader]
  · rw [tripMove_monitor, originBegun_monitor]
  · rw [tripMove_inputs, originBegun_inputs]
  · rw [tripMove_pending, originBegun_pending]
  · rw [tripMove_actions, originBegun_actions]
  · rw [tripMove_link, originBegun_link]
  · rw [tripMove_clamp, originBegun_limiter]

/-- The trip itself. -/
theorem originTrip_effects (s : State) (c detail) (h : s.st.canTrip = true) :
    let t := s.originTrip c detail
    t.st = tripTarget s.st s.speed.standstill ∧ t.Stopped ∧ t.timers.loopWait = none
      ∧ t.cause.g = successor s.cause.g
      ∧ t.cause.context = some (s.tripContext (some (successor s.cause.g)) (some s.loader.station) false .origin)
      ∧ t.records = s.records.insert
        (s.newRecord (s.tripContext (some (successor s.cause.g)) (some s.loader.station) false .origin) c detail) := by
  have can : (s.originBegun c detail).st.canTrip = true := by rwa [originBegun_st]
  have st := originTrip_st s c detail h
  have g := originTrip_g s c detail
  rw [originTrip_eq] at st g ⊢
  refine ⟨st, tripMove_stopped _ can, ?_, g, ?_, ?_⟩
  · rw [tripMove_loopWait, originBegun_loopWait]
  · rw [tripMove_context, originBegun_context]
  · rw [tripMove_records, originBegun_records]

/-- The detail value handed over depends on no block that a rise before the trip has altered. -/
theorem detailOf_congr {s t : State} (reg : t.reg = s.reg) (vib : t.vib = s.vib) (loader : t.loader = s.loader)
    (fault : t.link.faultClass = s.link.faultClass) (c : Cause) : t.detailOf c = s.detailOf c := by
  have cfg : t.cfg = s.cfg := by
    unfold State.cfg
    rw [loader]
  unfold State.detailOf
  rw [reg, vib, loader, fault, cfg]

/-- The first TRIP-action rise of a station that can trip, R111, R114. -/
theorem join_trip_first (blocks : JoinBlocks j cs t) (clamps : JoinClamps j cs t) (trips : JoinTrips j cs t)
    (fresh : c ∉ cs) (own : c ∉ Cause.ofStates) (apart : ∀ d ∈ cs, d ∉ Cause.ofStates) (action : j.actionOf c = .trip)
    (can : j.st.canTrip = true) (none : j.tripCauses cs = []) :
    let u := (t.risen c).originTrip c (t.detailOf c)
    JoinBlocks j (c :: cs) u ∧ JoinClamps j (c :: cs) u ∧ JoinTrips j (c :: cs) u := by
  have sameClamps : j.clampCauses (c :: cs) = j.clampCauses cs := by
    rw [clampCauses_cons, if_neg (by rw [action]; decide)]
  have more : j.tripCauses (c :: cs) = [c] := by rw [tripCauses_cons, if_pos action, none]
  obtain ⟨st, g, context, store, slot, reg, vib⟩ := trips.none none
  have can' : (t.risen c).st.canTrip = true := by
    show t.st.canTrip = true
    rwa [st]
  have detail : t.detailOf c = j.detailOf c := detailOf_congr reg vib blocks.outer.2.1 (by rw [blocks.link]) c
  obtain ⟨entries, speed, outer, lines, timers, actions, link, clamp⟩ := originTrip_blocks (t.risen c) c (t.detailOf c) can'
  obtain ⟨target, stopped, loopWait, number, made, recorded⟩ := originTrip_effects (t.risen c) c (t.detailOf c) can'
  have link : ((t.risen c).originTrip c (t.detailOf c)).link = t.linkWithTrip c := link
  have clamp : ((t.risen c).originTrip c (t.detailOf c)).limiter.clamp = t.limiter.clamp := clamp
  have frame : t.tripFrameOf c = j.tripFrameOf c := by
    unfold State.tripFrameOf
    rw [g, st, reg, blocks.speed]
  have ctx : (t.risen c).tripContext (some (successor (t.risen c).cause.g)) (some (t.risen c).loader.station) false .origin
      = j.tripContext (some (successor j.cause.g)) (some j.loader.station) false .origin := by
    show t.tripContext (some (successor t.cause.g)) (some t.loader.station) false .origin = _
    unfold State.tripContext
    rw [g, st, blocks.outer.2.1]
  obtain ⟨risen, others⟩ := blocks.fields fresh own (fun d => originTrip_latched (t.risen c) c _ d) (fun d hd => by
    have begun : ((t.risen c).originBegun c (t.detailOf c)).causeField d = (t.risen c).causeField d :=
      congrArg (CauseSet.get · d) (originBegun_causes _ _ _)
    rw [originTrip_eq, tripMove_causeField _ hd, begun]) apart
  dsimp only
  refine ⟨⟨entries.trans blocks.entries, speed.trans blocks.speed, ?_, lines, ?_, actions.trans blocks.actions, ?_, risen,
    others⟩, ⟨?_, ?_⟩, ⟨fun empty => ?_, fun already => ?_, fun _ first rest list => ?_⟩⟩
  · obtain ⟨clock, loader, monitor, inputs, pending⟩ := outer
    obtain ⟨clock', loader', monitor', inputs', pending'⟩ := blocks.outer
    exact ⟨clock.trans clock', loader.trans loader', monitor.trans monitor', inputs.trans inputs', pending.trans pending'⟩
  · exact ⟨timers.1.trans blocks.timers.1, timers.2.trans blocks.timers.2⟩
  · rw [link, State.linkWithTrip, blocks.link]
  · rw [sameClamps, link, clamp]
    exact clamps.loud
  · rw [sameClamps, link, clamp]
    exact clamps.mute
  · rw [more] at empty
    cases empty
  · rw [already] at can
    cases can
  · rw [more] at list
    obtain ⟨rfl, rfl⟩ : rest = [] ∧ c = first := by
      cases rest with
      | nil => exact ⟨rfl, (List.cons.inj list).1⟩
      | cons x xs => simp at list
    refine ⟨?_, stopped, loopWait, ?_, ?_, ?_, fun ok => ?_⟩
    · rw [target]
      show tripTarget t.st t.speed.standstill = _
      rw [st, blocks.speed]
    · rw [number]
      show successor t.cause.g = _
      rw [g]
    · rw [made, ctx]
    · rw [link, State.linkWithTrip, frame, blocks.muted, slot]
    · have ok : (t.risen c).records.Ok := by
        show t.records.Ok
        rwa [store]
      obtain ⟨i, current, slot⟩ := insert_current ok ((t.risen c).newRecord ((t.risen c).tripContext
        (some (successor (t.risen c).cause.g)) (some (t.risen c).loader.station) false .origin) c (t.detailOf c))
      rw [recorded]
      refine ⟨i, _, current, slot, ⟨⟨rfl, detail⟩, rfl, ?_, ?_, fun x hx => (by cases hx), rfl, rfl⟩⟩
      · rw [ctx]
        exact ⟨rfl, rfl, rfl, rfl⟩
      · rw [ctx]
        exact ⟨rfl, congrArg Clock.timeMark blocks.outer.1, congrArg RecordStore.ring store⟩

theorem subsequentCause_eq (s : State) (c carried) (h : s.st ≠ .clearing) : s.subsequentCause c carried
    = s.onRecords fun r => if s.cause.context.isSome then r.onCurrent (TripRecord.addSubsequent s.clock.timeMark c carried)
        else r := by
  unfold State.subsequentCause
  dsimp only
  cases context : s.cause.context.isSome
  · simp only [Bool.false_eq_true, if_false]
    exact if_neg h
  · simp only [if_true]
    exact if_neg h

theorem offsetSince_same (now : BitVec 32) : offsetSince now now = 0 := by simp [offsetSince]

/-- One more subsequent cause at the instant of the trip, R122, R136. -/
theorem JoinRecord.more {first : Cause} {rest : List Cause} {r : TripRecord} (h : JoinRecord j first rest r) (c : Cause)
    {now : BitVec 32} (here : now = j.clock.timeMark) : JoinRecord j first (c :: rest) (r.addSubsequent now c none) := by
  obtain ⟨kept, full⟩ := h.counted
  have zero : offsetSince now r.timeMark = 0 := by rw [here, h.held.2.1, offsetSince_same]
  unfold TripRecord.addSubsequent
  split
  · next room =>
    refine ⟨h.cause, h.kept, h.number, h.held, fun x hx => ?_, ?_, ?_⟩
    · rcases List.mem_append.mp hx with old | new
      · obtain ⟨listed, offset, number⟩ := h.subsequent x old
        exact ⟨List.mem_cons_of_mem _ listed, offset, number⟩
      · rw [List.mem_singleton] at new
        rw [new]
        exact ⟨List.mem_cons_self, zero, rfl⟩
    · simp only [List.length_append, List.length_cons, List.length_nil, kept] at room ⊢
      omega
    · simp only [List.length_cons, full, kept] at room ⊢
      omega
  · next noRoom =>
    refine ⟨h.cause, h.kept, h.number, h.held, fun x hx => ?_, ?_, ?_⟩
    · obtain ⟨listed, offset, number⟩ := h.subsequent x hx
      exact ⟨List.mem_cons_of_mem _ listed, offset, number⟩
    · simp only [List.length_cons, kept] at noRoom ⊢
      omega
    · simp only [List.length_cons, full, kept, bump] at noRoom ⊢
      omega

theorem tripTarget_stays (st : StationState) (standstill : Bool) : (tripTarget st standstill).canTrip = false
    ∧ (tripTarget st standstill).isTripped = true ∧ tripTarget st standstill ≠ .clearing := by
  unfold tripTarget
  split <;> exact ⟨rfl, rfl, by decide⟩

/-- A further TRIP-action rise of a station that has tripped, R111, R122. -/
theorem join_trip_later (blocks : JoinBlocks j cs t) (clamps : JoinClamps j cs t) (trips : JoinTrips j cs t)
    (fresh : c ∉ cs) (own : c ∉ Cause.ofStates) (apart : ∀ d ∈ cs, d ∉ Cause.ofStates) (action : j.actionOf c = .trip)
    (past : j.st = .tripped ∨ j.tripCauses cs ≠ []) (clearing : t.st ≠ .clearing) :
    let u := (t.risen c).subsequentCause c none
    JoinBlocks j (c :: cs) u ∧ JoinClamps j (c :: cs) u ∧ JoinTrips j (c :: cs) u := by
  have sameClamps : j.clampCauses (c :: cs) = j.clampCauses cs := by
    rw [clampCauses_cons, if_neg (by rw [action]; decide)]
  have more : j.tripCauses (c :: cs) = c :: j.tripCauses cs := by rw [tripCauses_cons, if_pos action]
  dsimp only
  rw [subsequentCause_eq (t.risen c) c none clearing]
  obtain ⟨risen, others⟩ := blocks.fields (u := (t.risen c).onRecords fun r =>
      if t.cause.context.isSome then r.onCurrent (TripRecord.addSubsequent t.clock.timeMark c none) else r)
    fresh own (fun _ => ⟨rfl, rfl⟩) (fun _ _ => rfl) apart
  refine ⟨⟨blocks.entries, blocks.speed, blocks.outer, blocks.lines, blocks.timers, blocks.actions, blocks.link, risen,
    others⟩, ⟨?_, ?_⟩, ⟨fun empty => ?_, fun already => ?_, fun can first rest list => ?_⟩⟩
  · rw [sameClamps]
    exact clamps.loud
  · rw [sameClamps]
    exact clamps.mute
  · rw [more] at empty
    cases empty
  · obtain ⟨st, g, context, slot, store⟩ := trips.already already
    refine ⟨st, g, context, slot, fun noContext => ?_⟩
    show (if t.cause.context.isSome then
        t.records.onCurrent (TripRecord.addSubsequent t.clock.timeMark c Option.none) else t.records) = j.records
    rw [context, noContext, store noContext]
    rfl
  · rw [more] at list
    have before : j.tripCauses cs ≠ [] := past.resolve_left fun already => by
      rw [already] at can
      cases can
    obtain ⟨older, oldest, split⟩ : ∃ older oldest, j.tripCauses cs = older ++ [oldest] :=
      ⟨_, _, (List.dropLast_append_getLast before).symm⟩
    rw [split, ← List.cons_append] at list
    obtain ⟨rfl, ends⟩ := List.append_inj' list rfl
    obtain rfl : oldest = first := (List.cons.inj ends).1
    have trip := trips.made can oldest older split
    refine ⟨trip.st, trip.stopped, trip.loopWait, trip.g, trip.context, trip.tripSlot, fun ok => ?_⟩
    obtain ⟨i, r, current, slot, record⟩ := trip.record ok
    have written : (if t.cause.context.isSome then
        t.records.onCurrent (TripRecord.addSubsequent t.clock.timeMark c none) else t.records)
        = { t.records with slots := t.records.slots.set i (some (r.addSubsequent t.clock.timeMark c none)) } := by
      rw [trip.context]
      exact onCurrent_some _ current slot
    refine ⟨i, r.addSubsequent t.clock.timeMark c none, ?_, ?_, record.more c (congrArg Clock.timeMark blocks.outer.1)⟩
    · show (if t.cause.context.isSome then
        t.records.onCurrent (TripRecord.addSubsequent t.clock.timeMark c Option.none) else t.records).current = some i
      rw [written]
      exact current
    · show (if t.cause.context.isSome then
        t.records.onCurrent (TripRecord.addSubsequent t.clock.timeMark c Option.none) else t.records).slots.get i = _
      rw [written]
      exact Eight.get_set_self _ _ _

/-- One more rise at the end of joining, whatever its action. -/
theorem join_rise (kind : j.st = .tripped ∨ j.st.canTrip = true) (blocks : JoinBlocks j cs t) (clamps : JoinClamps j cs t)
    (trips : JoinTrips j cs t) (fresh : c ∉ cs) (own : c ∉ Cause.ofStates) (apart : ∀ d ∈ cs, d ∉ Cause.ofStates) :
    let u := t.rise c (t.detailOf c)
    JoinBlocks j (c :: cs) u ∧ JoinClamps j (c :: cs) u ∧ JoinTrips j (c :: cs) u := by
  have action := blocks.actionOf c
  have risenAction : (t.risen c).actionOf c = t.actionOf c := rfl
  have risenSt : (t.risen c).st = t.st := rfl
  dsimp only
  rw [rise_eq, State.actOnRise, risenAction, risenSt, action]
  cases acts : j.actionOf c with
  | alert => exact join_alert blocks clamps trips fresh own apart acts
  | clamp => exact join_clamp blocks clamps trips fresh own apart acts
  | trip =>
    dsimp only
    by_cases untripped : j.st.canTrip = true ∧ j.tripCauses cs = []
    · obtain ⟨can, none⟩ := untripped
      have st := (trips.none none).1
      rw [if_pos (by rwa [st])]
      exact join_trip_first blocks clamps trips fresh own apart acts can none
    · have rows : (j.st = .tripped ∨ j.tripCauses cs ≠ []) ∧ t.st.canTrip = false ∧ t.st.isTripped = true
          ∧ t.st ≠ .clearing := by
        rcases kind with already | can
        · rw [(trips.already already).1]
          exact ⟨.inl already, rfl, rfl, by decide⟩
        · have before : j.tripCauses cs ≠ [] := fun none => untripped ⟨can, none⟩
          have trip := trips.made can _ _ (List.dropLast_append_getLast before).symm
          rw [trip.st]
          exact ⟨.inr before, tripTarget_stays _ _⟩
      obtain ⟨past, cannot, tripped, clearing⟩ := rows
      rw [cannot, tripped, if_neg (by simp), if_pos rfl]
      exact join_trip_later blocks clamps trips fresh own apart acts past clearing

end Steps

end Sys2Proof.Machine
end

section
/-!
PROOFS. AGING_EXPIRY in JOINING (R13, R15, R109): the state in which JOINING ends, and what the causes presented there
make of it.
-/

namespace Sys2Proof.Machine

section Presented

variable {j t : State} {cs : List Cause} {c : Cause}

/-- Whether a cause rises when every condition is presented. -/
def State.risesNow (s : State) (c : Cause) : Bool :=
  s.conditionNow c && !(s.causeField c).present

theorem risesNow_iff (s : State) (c : Cause) :
    s.risesNow c = true ↔ s.conditionNow c = true ∧ (s.causeField c).present = false := by
  simp [State.risesNow]

theorem conditionNow_own {s : State} (h : s.conditionNow c = true) : c ∉ Cause.ofStates := by
  intro own
  simp only [Cause.ofStates, List.mem_cons, List.not_mem_nil, or_false] at own
  rcases own with rfl | rfl | rfl | rfl | rfl <;> cases h

theorem joined_of_trips (kind : j.st = .tripped ∨ j.st.canTrip = true) (trips : JoinTrips j cs t) : t.st.joined = true := by
  rcases kind with already | can
  · rw [(trips.already already).1]
    rfl
  · by_cases none : j.tripCauses cs = []
    · rw [(trips.none none).1]
      revert can
      cases j.st <;> simp [StationState.canTrip, StationState.joined]
    · have trip := trips.made can _ _ (List.dropLast_append_getLast none).symm
      rw [trip.st]
      unfold tripTarget
      split <;> rfl

theorem join_nothing (lines : j.lines = j.st.lines) :
    JoinBlocks j [] j ∧ JoinClamps j [] j ∧ JoinTrips j [] j := by
  refine ⟨⟨rfl, rfl, ⟨rfl, rfl, rfl, rfl, rfl⟩, lines, ⟨rfl, rfl⟩, rfl, rfl, fun c h => (by cases h),
    fun c _ => ⟨rfl, rfl, fun _ => rfl⟩⟩, ⟨fun _ => ⟨rfl, fun _ => rfl, fun c rest h => (by cases h)⟩,
    fun _ => ⟨rfl, fun _ => rfl, fun c h => (by cases h)⟩⟩, ⟨fun _ => ⟨rfl, rfl, rfl, rfl, rfl, rfl, rfl⟩,
    fun already => ⟨already, rfl, rfl, rfl, fun _ => rfl⟩, fun _ first rest h => ?_⟩⟩
  simp [State.tripCauses] at h

/-- What the free counter has come to does not matter. -/
theorem join_free (n : Nat) (h : JoinBlocks j cs t ∧ JoinClamps j cs t ∧ JoinTrips j cs t) :
    JoinBlocks j cs { t with free := n } ∧ JoinClamps j cs { t with free := n }
      ∧ JoinTrips j cs { t with free := n } := by
  obtain ⟨blocks, clamps, trips⟩ := h
  refine ⟨⟨blocks.entries, blocks.speed, blocks.outer, blocks.lines, blocks.timers, blocks.actions, blocks.link,
    blocks.risen, blocks.others⟩, ⟨clamps.loud, clamps.mute⟩, ⟨trips.none, trips.already, fun can first rest h => ?_⟩⟩
  exact (trips.made can first rest h).of_stays (stays_free t n) rfl rfl

theorem causes_nodup : Cause.all.Nodup := by decide

/-- Every condition presented: the causes that rise, in the order in which they were taken, the newest first, R109, R111. -/
theorem presentAll_join (kind : j.st = .tripped ∨ j.st.canTrip = true) (lines : j.lines = j.st.lines) :
    ∃ cs, cs.Nodup ∧ (∀ c, c ∈ cs ↔ j.risesNow c = true) ∧ JoinBlocks j cs j.presentAll
      ∧ JoinClamps j cs j.presentAll ∧ JoinTrips j cs j.presentAll := by
  have fresh : (Cause.all.filter j.conditionNow ++ []).Nodup := by
    rw [List.append_nil]
    exact causes_nodup.filter _
  obtain ⟨all, perm, -, result⟩ := inFreeOrder_perm (Cause.all.filter j.conditionNow) (s := j)
    (f := fun c s => s.present c true (s.detailOf c))
    (P := fun done t => (∀ d ∈ done, j.conditionNow d = true) ∧ JoinBlocks j (done.filter j.risesNow) t
      ∧ JoinClamps j (done.filter j.risesNow) t ∧ JoinTrips j (done.filter j.risesNow) t) [] fresh
    (fun c stands done u notTaken ⟨taken, blocks, clamps, trips⟩ => by
      have stands : j.conditionNow c = true := (List.mem_filter.mp stands).2
      have own := conditionNow_own stands
      have out : c ∉ done.filter j.risesNow := fun inside => notTaken (List.mem_filter.mp inside).1
      have field : u.causeField c = j.causeField c := (blocks.others c out).2.2 own
      refine ⟨fun d hd => (List.mem_cons.mp hd).elim (fun same => same ▸ stands) (taken d), ?_⟩
      by_cases rises : j.risesNow c = true
      · have absent := ((risesNow_iff j c).mp rises).2
        rw [List.filter_cons_of_pos rises, present_rises u _ (joined_of_trips kind trips) rfl (field ▸ absent)]
        exact join_rise kind blocks clamps trips out own fun d hd =>
          conditionNow_own (taken d (List.mem_filter.mp hd).1)
      · have already : (u.causeField c).present = true := by
          rw [risesNow_iff, not_and, Bool.not_eq_false] at rises
          rw [field]
          exact rises stands
        rw [List.filter_cons_of_neg rises, present_present u _ rfl already]
        exact ⟨blocks, clamps, trips⟩)
    (fun done u n ⟨taken, result⟩ => ⟨taken, join_free n result⟩)
    ⟨fun d hd => (by cases hd), join_nothing lines⟩
  rw [List.append_nil] at perm
  refine ⟨all.filter j.risesNow, (perm.nodup_iff.mpr (causes_nodup.filter _)).filter _, fun c => ?_, result⟩
  rw [List.mem_filter, perm.mem_iff, List.mem_filter, risesNow_iff]
  exact ⟨fun h => h.2, fun h => ⟨⟨mem_causes c, h.1⟩, h⟩⟩

end Presented

section Kept

variable {s t u : State} {c : Cause}

/-- What an aging expiry of JOINING leaves until the causes are presented: the blocks that conditions, trips and CLAMPs
read, and the causes but for those that belong to states. -/
structure JoinKeeps (s t : State) : Prop where
  speed : t.speed = s.speed
  outer : t.clock = s.clock ∧ t.loader = s.loader ∧ t.monitor = s.monitor ∧ t.inputs = s.inputs ∧ t.pending = s.pending
  limiter : t.limiter.clamp = s.limiter.clamp ∧ t.limiter.limit = s.limiter.limit
  records : t.records = s.records
  cause : t.cause.g = s.cause.g ∧ t.cause.context = s.cause.context ∧ t.cause.actions = s.cause.actions
  reg : t.reg.feedback = s.reg.feedback ∧ t.reg.sample = s.reg.sample ∧ t.reg.overCurrent = s.reg.overCurrent
    ∧ t.reg.missCount = s.reg.missCount
  lstop : t.seq.lstop = s.seq.lstop
  link : t.link
    = { s.link with rollSlot := t.link.rollSlot, shareSlot := t.link.shareSlot, counters := t.link.counters }
  foreign : ∀ n, (t.entry n).foreign = (s.entry n).foreign
  latched : ∀ c, (t.causeField c).latched = (s.causeField c).latched ∧ (t.causeField c).count = (s.causeField c).count
  others : ∀ c, c ∉ Cause.ofStates → t.causeField c = s.causeField c

namespace JoinKeeps

theorem trans (h : JoinKeeps s t) (k : JoinKeeps t u) : JoinKeeps s u where
  speed := k.speed.trans h.speed
  outer := by
    obtain ⟨clock, loader, monitor, inputs, pending⟩ := h.outer
    obtain ⟨clock', loader', monitor', inputs', pending'⟩ := k.outer
    exact ⟨clock'.trans clock, loader'.trans loader, monitor'.trans monitor, inputs'.trans inputs, pending'.trans pending⟩
  limiter := ⟨k.limiter.1.trans h.limiter.1, k.limiter.2.trans h.limiter.2⟩
  records := k.records.trans h.records
  cause := by
    obtain ⟨g, context, actions⟩ := h.cause
    obtain ⟨g', context', actions'⟩ := k.cause
    exact ⟨g'.trans g, context'.trans context, actions'.trans actions⟩
  reg := by
    obtain ⟨feedback, sample, current, missed⟩ := h.reg
    obtain ⟨feedback', sample', current', missed'⟩ := k.reg
    exact ⟨feedback'.trans feedback, sample'.trans sample, current'.trans current, missed'.trans missed⟩
  lstop := k.lstop.trans h.lstop
  link := by rw [k.link, h.link]
  foreign n := (k.foreign n).trans (h.foreign n)
  latched c := ⟨(k.latched c).1.trans (h.latched c).1, (k.latched c).2.trans (h.latched c).2⟩
  others c own := (k.others c own).trans (h.others c own)

theorem cfg (h : JoinKeeps s t) : t.cfg = s.cfg := by
  unfold State.cfg
  rw [h.outer.2.1]

theorem actionOf (h : JoinKeeps s t) (c : Cause) : t.actionOf c = s.actionOf c := by
  unfold State.actionOf
  rw [h.cause.2.2]

theorem mute (h : JoinKeeps s t) : t.link.mute = s.link.mute := by rw [h.link]

theorem clampOf (h : JoinKeeps s t) (c : Cause) : t.clampOf c = s.clampOf c := by
  unfold State.clampOf
  rw [h.cause.2.2, h.cfg]

theorem ignores (h : JoinKeeps s t) (p : ClampPayload) : t.IgnoresOwnClamp p ↔ s.IgnoresOwnClamp p := by
  unfold State.IgnoresOwnClamp
  rw [h.foreign, h.outer.2.1, h.limiter.1]

theorem ownClamp (h : JoinKeeps s t) (p : ClampPayload) : t.ownClamp p = s.ownClamp p := by
  unfold State.ownClamp
  rw [h.outer.2.1]

theorem standingDetail (h : JoinKeeps s t) (c : Cause) : t.standingDetail c = s.standingDetail c := by
  unfold State.standingDetail
  rw [h.reg.2.1, h.link, h.outer.2.1, h.cfg]

/-- A condition reads nothing that the end of joining alters but the entries' own figures. -/
theorem conditionNow (h : JoinKeeps s t) (tally : ∀ n, (t.entry n).tally = (s.entry n).tally) (c : Cause) :
    t.conditionNow c = s.conditionNow c := by
  have figures (n : Station) : (t.entry n).kind = (s.entry n).kind ∧ (t.entry n).entry = (s.entry n).entry := by
    have same := tally n
    simp only [PeerEntry.tally, Prod.mk.injEq] at same
    exact ⟨same.1, same.2.1⟩
  have kind (n : Station) := (figures n).1
  have entry (n : Station) := (figures n).2
  unfold State.conditionNow
  rw [peerSilentNow_eq, peerSilentNow_eq, peerLostNow_eq, peerLostNow_eq, foreignNow_eq, foreignNow_eq]
  simp only [kind, entry, h.foreign, h.cfg, h.speed, h.limiter, h.reg, h.lstop, h.outer]
  rw [h.link]

end JoinKeeps

/-- The list re-evaluated in JOINING, R109. -/
theorem keeps_relisted (s : State) : JoinKeeps s (s.refreshMembers.ceaseAll [.groupShort, .outOfStep]) := by
  refine ⟨rfl, ⟨rfl, rfl, rfl, rfl, rfl⟩, ⟨rfl, rfl⟩, rfl, ⟨rfl, rfl, rfl⟩, ⟨rfl, rfl, rfl, rfl⟩, rfl, rfl,
    fun _ => rfl, fun c => ?_, fun c own => ?_⟩
  · rw [ceaseAll_causeField]
    exact ⟨rfl, rfl⟩
  · have apart : c ∉ [Cause.groupShort, .outOfStep] := by
      intro short
      simp only [List.mem_cons, List.not_mem_nil, or_false] at short
      rcases short with rfl | rfl <;> exact own (by decide)
    rw [ceaseAll_causeField]
    simp only [apart, decide_false, Bool.not_false, Bool.and_true]
    rfl

theorem keeps_ageEntries (s : State) : JoinKeeps s s.ageEntries := by
  refine ⟨rfl, ⟨rfl, rfl, rfl, rfl, rfl⟩, ⟨rfl, rfl⟩, rfl, ⟨rfl, rfl, rfl⟩, ⟨rfl, rfl, rfl, rfl⟩, rfl, rfl,
    fun n => ?_, fun _ => ⟨rfl, rfl⟩, fun _ _ => rfl⟩
  rw [ageEntries_entry]
  split
  · rfl
  · exact (aged_figures _).2.1

/-- One aging in JOINING. -/
theorem age_joining (h : s.st = .joining) :
    s.age = s.ageEntries ∨ s.age = s.ageEntries.refreshMembers.ceaseAll [.groupShort, .outOfStep] := by
  by_cases differs : ∃ n, (s.ageEntries.entry n).entry ≠ (s.entry n).entry
  · rw [age_differing differs]
    exact .inr (joining_quiet s.ageEntries h)
  · simp only [not_exists, not_not] at differs
    exact .inl (age_same differs)

theorem keeps_age (h : s.st = .joining) : JoinKeeps s s.age := by
  rcases age_joining h with same | listed
  · rw [same]
    exact keeps_ageEntries s
  · rw [listed]
    exact (keeps_ageEntries s).trans (keeps_relisted s.ageEntries)

/-- Every block but the ones named is as it was, R7, R109. -/
theorem age_joining_blocks (h : s.st = .joining) : s.age = { s with
    peers := { s.age.peers with joinExpiries := s.peers.joinExpiries }
    reg := { s.reg with trim := s.age.reg.trim }
    cause := { s.cause with causes := s.age.cause.causes } } := by
  rcases age_joining h with same | listed
  · rw [same]
    rfl
  · rw [listed]
    rfl

end Kept

end Sys2Proof.Machine
end

section
/-!
PROOFS. The two outcomes of an aging expiry in JOINING: the next ROLL (R13), or the end of joining with its first SHARE
and the causes as they stand (R15, R109, R155).
-/

namespace Sys2Proof.Machine

section Waits

variable {s : State}

theorem joinStep_waits (h : s.st = .joining) (few : s.peers.joinExpiries < 3) :
    s.joinStep = (s.onPeers fun p => { p with joinExpiries := p.joinExpiries + 1 }).composeRoll := by
  have room : s.peers.joinExpiries + 1 < 4 := by omega
  exact (if_neg (not_not.mpr h)).trans (if_pos room)

theorem joinStep_ends (h : s.st = .joining) (last : s.peers.joinExpiries = 3) :
    s.joinStep = (s.onPeers fun p => { p with joinExpiries := p.joinExpiries + 1 }).joinEnd := by
  have full : ¬s.peers.joinExpiries + 1 < 4 := by omega
  exact (if_neg (not_not.mpr h)).trans (if_neg full)

/-- The expiries before the last compose a ROLL, R13. -/
theorem joining_waits (aging : s.timers.aging.isSome = true) (st : s.st = .joining) (few : s.peers.joinExpiries < 3) :
    ∃ t, exec .agingExpiry s = .next t ∧ t.peers.joinExpiries = s.peers.joinExpiries + 1 ∧ t = { s with
      timers := { s.timers with aging := some (s.cfg.sharePeriod * 1000) }
      peers := t.peers
      reg := { s.reg with trim := t.reg.trim }
      cause := { s.cause with causes := t.cause.causes }
      link := { s.link with
        rollSlot := if s.link.mute then s.link.rollSlot
          else some { signature := s.cfg.signature, g := s.cause.g, state := 1,
                      resetCause := BitVec.ofNat 2 s.loader.resetCause.code, haltMark := s.loader.haltMark } } } := by
  have blocks := age_joining_blocks (s := s.agingRestarted) st
  generalize hv : s.agingRestarted.age = v at blocks
  have joining : v.st = .joining := by
    rw [blocks]
    exact st
  have expiries : v.peers.joinExpiries = s.peers.joinExpiries := by
    rw [blocks]
    rfl
  refine ⟨_, exec_agingExpiry aging, ?_⟩
  rw [hv, joinStep_waits joining (by omega)]
  refine ⟨congrArg (· + 1) expiries, ?_⟩
  have code : BitVec.ofNat 4 v.st.code = 1 := by rw [joining]; rfl
  unfold State.composeRoll
  dsimp only [onPeers_st, onPeers_cfg, onPeers_cause, onPeers_loader]
  rw [code, blocks]
  rfl

end Waits

section Ends

variable {s : State}

theorem readings_onMove (r : Regulator) (old new : StationState) (speed a : Nat) :
    let t := r.onMove old new speed a
    t.sample = r.sample ∧ t.overCurrent = r.overCurrent ∧ t.missCount = r.missCount := by
  unfold Regulator.onMove
  split <;> split <;> exact ⟨rfl, rfl, rfl⟩

/-- What stands before the move at the end of joining. -/
def State.joinReady (s : State) : State :=
  (s.onLink fun l => { l with rollSlot := none }).onSeq fun q => { q with selftestTag := 0 }

theorem joinMoved_eq (s : State) : s.joinMoved = (s.joinReady.moveTo s.joinEndState).onTimers fun t =>
    { t with share := some s.cfg.sharePeriodUs, history := some s.cfg.sharePeriodUs } := rfl

theorem joinReady_leaves (h : s.st = .joining) : s.joinReady.st ≠ s.joinEndState := fun same =>
  joinEndState_notJoining s (same ▸ h)

theorem keeps_joinMoved (h : s.st = .joining) : JoinKeeps s s.joinMoved := by
  have leaves := joinReady_leaves h
  have calm : s.joinEndState ≠ .breakaway := by
    rcases joinEndState_cases s with h | h | h <;> rw [h] <;> decide
  rw [joinMoved_eq]
  refine ⟨?_, ⟨?_, ?_, ?_, ?_, ?_⟩, ⟨?_, ?_⟩, ?_, ⟨?_, ?_, ?_⟩, ⟨?_, ?_⟩, ?_, ?_, fun n => ?_, fun c => ?_,
    fun c own => ?_⟩
  · rw [onTimers_speed, moveTo_speed leaves, if_neg calm]
    rfl
  · rw [onTimers_clock, moveTo_clock]
    rfl
  · rw [onTimers_loader, moveTo_loader]
    rfl
  · rw [onTimers_monitor, moveTo_monitor]
    rfl
  · rw [onTimers_inputs, moveTo_inputs]
    rfl
  · rw [onTimers_pending, moveTo_pending]
    rfl
  · rw [onTimers_limiter, moveTo_clamp]
    rfl
  · rw [onTimers_limiter, moveTo_limiter leaves]
    rfl
  · rw [onTimers_records, moveTo_records]
    rfl
  · rw [onTimers_cause, moveTo_g]
    rfl
  · rw [onTimers_cause, moveTo_context]
    rfl
  · rw [onTimers_cause, moveTo_actions]
    rfl
  · rw [onTimers_reg, moveTo_feedback leaves]
    rfl
  · rw [onTimers_reg, moveTo_reg leaves]
    exact readings_onMove _ _ _ _ _
  · rw [onTimers_seq, moveTo_seq leaves]
    rfl
  · rw [onTimers_link, moveTo_link]
    rfl
  · exact congrArg PeerEntry.foreign (joinMoved_entry h n)
  · exact moveTo_latched s.joinReady s.joinEndState c
  · exact moveTo_causeField_other s.joinReady s.joinEndState own

/-- The state entered, R13, R15, R129, R155. -/
theorem joinMoved_entered (h : s.st = .joining) : s.joinMoved.st = s.joinEndState
    ∧ s.joinMoved.lines = s.joinMoved.st.lines ∧ s.joinMoved.link.rollSlot = none
    ∧ s.joinMoved.timers.share = some (s.cfg.sharePeriod * 1000)
    ∧ s.joinMoved.timers.history = some (s.cfg.sharePeriod * 1000) := by
  have leaves := joinReady_leaves h
  have st : (s.joinReady.moveTo s.joinEndState).st = s.joinEndState := st_moveTo _ _
  rw [joinMoved_eq]
  refine ⟨st, ?_, ?_, rfl, rfl⟩
  · rw [onTimers_lines, moveTo_lines leaves]
    exact congrArg StationState.lines st.symm
  · rw [onTimers_link, moveTo_link]
    rfl

theorem composeShare_link (s : State) : s.composeShare.link = { s.link with
    shareSlot := s.composeShare.link.shareSlot, counters := s.composeShare.link.counters } := by
  cases mute : s.link.mute with
  | true =>
    rw [composeShare_mute s mute]
    rfl
  | false =>
    rw [composeShare_sent s mute]
    rfl

theorem keeps_composeShare (s : State) : JoinKeeps s s.composeShare := by
  refine ⟨rfl, ⟨rfl, rfl, rfl, rfl, rfl⟩, ⟨rfl, rfl⟩, rfl, ⟨rfl, rfl, rfl⟩, ⟨rfl, rfl, rfl, rfl⟩, rfl, ?_,
    fun n => ?_, fun _ => ⟨rfl, rfl⟩, fun _ _ => rfl⟩
  · rw [composeShare_link]
  · have tally := composeShare_tally s n
    simp only [PeerEntry.tally, Prod.mk.injEq] at tally
    exact tally.2.2.1

/-- The SHARE composed, R2, R155. -/
theorem composeShare_placed (h : s.link.mute = false) : ∃ p, s.composeShare.link.shareSlot = some p
    ∧ (s.composeShare.entry s.loader.station).share = some p ∧ p.state = BitVec.ofNat 4 s.st.code := by
  refine ⟨s.recomputeTrim.sharePayload, ?_, ?_, rfl⟩ <;> rw [composeShare_sent s h]
  · rfl
  · rw [onLink_entry, entry_onEntry_self]

/-- The end of joining up to the causes, after the aging: `j` from the state `s` of the expiry and the aged state `u`. -/
structure JoinFirst (s u j : State) : Prop where
  keeps : JoinKeeps s j
  st : j.st = u.joinEndState
  lines : j.lines = j.st.lines
  rollSlot : j.link.rollSlot = none
  timers : j.timers.share = some (s.cfg.sharePeriod * 1000) ∧ j.timers.history = some (s.cfg.sharePeriod * 1000)
  share : s.link.mute = false → ∃ p, j.link.shareSlot = some p ∧ (j.entry s.loader.station).share = some p
    ∧ p.state = BitVec.ofNat 4 j.st.code
  condition : ∀ c, j.conditionNow c = u.conditionNow c

/-- The last expiry of JOINING up to the causes. -/
theorem joining_ends (aging : s.timers.aging.isSome = true) (st : s.st = .joining) (last : s.peers.joinExpiries = 3) :
    ∃ j, exec .agingExpiry s = .next j.presentAll ∧ JoinFirst s s.agingRestarted.age j := by
  have joining : s.agingRestarted.age.st = .joining := (follows_age s.agingRestarted).joining.mpr st
  have expiries : s.agingRestarted.age.peers.joinExpiries = 3 := by
    rw [age_joining_blocks (s := s.agingRestarted) st]
    exact last
  have restarted : JoinKeeps s s.agingRestarted := ⟨rfl, ⟨rfl, rfl, rfl, rfl, rfl⟩, ⟨rfl, rfl⟩, rfl, ⟨rfl, rfl, rfl⟩,
    ⟨rfl, rfl, rfl, rfl⟩, rfl, rfl, fun _ => rfl, fun _ => ⟨rfl, rfl⟩, fun _ _ => rfl⟩
  have aged := restarted.trans (keeps_age (s := s.agingRestarted) st)
  rw [exec_agingExpiry aging, joinStep_ends joining expiries, joinEnd_eq]
  generalize s.agingRestarted.age = u at *
  generalize hc : (u.onPeers fun p => { p with joinExpiries := p.joinExpiries + 1 }) = v
  have counted : JoinKeeps u v := by
    rw [← hc]
    exact ⟨rfl, ⟨rfl, rfl, rfl, rfl, rfl⟩, ⟨rfl, rfl⟩, rfl, ⟨rfl, rfl, rfl⟩, ⟨rfl, rfl, rfl, rfl⟩, rfl, rfl,
      fun _ => rfl, fun _ => ⟨rfl, rfl⟩, fun _ _ => rfl⟩
  have joiningV : v.st = .joining := by
    rw [← hc]
    exact joining
  have target : v.joinEndState = u.joinEndState := by
    rw [← hc]
    rfl
  have tally (n : Station) : (v.joinMoved.composeShare.entry n).tally = (u.entry n).tally := by
    rw [composeShare_tally, joinMoved_entry joiningV, ← hc]
    rfl
  have before := aged.trans counted
  have moved := before.trans (keeps_joinMoved joiningV)
  have settled := (counted.trans (keeps_joinMoved joiningV)).trans (keeps_composeShare v.joinMoved)
  obtain ⟨entered, lines, rollSlot, share, history⟩ := joinMoved_entered joiningV
  rw [before.cfg] at share history
  refine ⟨_, rfl, moved.trans (keeps_composeShare v.joinMoved), entered.trans target, lines, ?_, ⟨share, history⟩, fun loud => ?_,
    settled.conditionNow tally⟩
  · rw [composeShare_link]
    exact rollSlot
  · obtain ⟨p, slot, own, state⟩ := composeShare_placed (s := v.joinMoved) (moved.mute.trans loud)
    rw [moved.outer.2.1] at own
    exact ⟨p, slot, own, state⟩

end Ends

end Sys2Proof.Machine
end

section
/-!
PROOFS. An aging expiry in JOINING (R13, R15, R109): the statement read off the causes that have risen.
-/

namespace Sys2Proof.Machine

section Result

variable {s u j t : State} {cs : List Cause} {rises : Cause → Bool}

/-- The state in which JOINING ends, in the terms of the table of R15. -/
theorem joinEndState_eq (u : State) : u.joinEndState =
    (if u.loopSensed = true ∨ (∃ n, n ≠ u.loader.station ∧ (u.entry n).kind = .drive ∧ (u.entry n).foreign = false
        ∧ ((u.entry n).entry = .present ∨ (u.entry n).entry = .silent)
        ∧ (u.entry n).shows (fun st => st == .tripDecel || st == .tripped) = true) then .tripped
     else if u.someOtherShows StationState.startingOrRunning = true then .standby else .selftest) := by
  unfold State.joinEndState
  refine if_congr ?_ rfl rfl
  simp only [State.someDriveTripped, State.groupDrive, Bool.or_eq_true, List.any_eq_true, mem_eightNumbers, true_and,
    Bool.and_eq_true, beq_iff_eq, decide_eq_true_eq, Bool.not_eq_true', and_assoc]

theorem mem_tripCauses (c : Cause) : c ∈ j.tripCauses cs ↔ c ∈ cs ∧ j.actionOf c = .trip := by
  simp [State.tripCauses]

theorem mem_clampCauses (c : Cause) : c ∈ j.clampCauses cs ↔ c ∈ cs ∧ j.actionOf c = .clamp := by
  simp [State.clampCauses]

/-- The causes that rise are those that rose in the order taken. -/
theorem JoinFirst.rises_iff (first : JoinFirst s u j) (c : Cause) :
    j.risesNow c = true ↔ u.Stands c ∧ (s.causeField c).present = false := by
  rw [risesNow_iff, stands_iff, first.condition]
  refine and_congr_right fun stands => ?_
  rw [first.keeps.others c (conditionNow_own stands)]

/-- The rises that trip are as many as were taken. -/
theorem trips_counted (keeps : JoinKeeps s j) (nodup : cs.Nodup) (listed : ∀ c, c ∈ cs ↔ rises c = true) :
    (Cause.all.filter fun c => rises c && s.actionOf c == .trip).length = (j.tripCauses cs).length := by
  refine List.Perm.length_eq ((List.perm_ext_iff_of_nodup (causes_nodup.filter _) (nodup.filter _)).mpr fun c => ?_)
  have taken : c ∈ j.tripCauses cs ↔ rises c = true ∧ s.actionOf c = .trip := by
    rw [mem_tripCauses, listed, keeps.actionOf]
  refine Iff.trans ?_ taken.symm
  simp [mem_causes]

theorem causes_length (l : List Cause) (nodup : l.Nodup) : l.length ≤ 24 :=
  (List.subperm_of_subset nodup fun c _ => mem_causes c).length_le

/-- The trip by one of the causes that rise, R111, R114, R122. -/
theorem joining_trip (first : JoinFirst s u j) (nodup : cs.Nodup) (listed : ∀ c, c ∈ cs ↔ rises c = true)
    (stands : ∀ c, rises c = true → j.Stands c) (trips : JoinTrips j cs t) (can : j.st.canTrip = true) (some_trip : ∃ c, rises c = true ∧ s.actionOf c = .trip) :
    t.st = tripTarget j.st s.speed.standstill ∧ t.Stopped ∧ t.timers.loopWait = none
      ∧ t.cause.g = successor s.cause.g
      ∧ t.cause.context = some { number := some (successor s.cause.g), origin := some s.loader.station,
                                 confirmed := false, ownPart := .origin, coOrigins := [], stateAtTrip := j.st }
      ∧ ∃ first, rises first = true ∧ s.actionOf first = .trip
          ∧ t.link.tripSlot = (if s.link.mute then s.link.tripSlot
              else some { number := successor s.cause.g, causeCode := BitVec.ofNat 8 first.code,
                          stateAtTrip := BitVec.ofNat 4 j.st.code,
                          feedback := BitVec.ofInt 16 s.reg.feedback, speed := BitVec.ofNat 16 s.speed.speed })
          ∧ (s.RecordsOk → ∃ i r, t.records.current = some i ∧ t.records.slots.get i = some r
              ∧ r.firstCause = first ∧ r.detail = s.standingDetail first ∧ r.closed = false
              ∧ r.number = some (successor s.cause.g) ∧ r.origin = some s.loader.station
              ∧ r.confirmed = false ∧ r.ownPart = .origin ∧ r.stateAtTrip = j.st
              ∧ r.timeMark = s.clock.timeMark ∧ r.history = s.records.ring
              ∧ (∀ x ∈ r.subsequent, rises x.cause = true ∧ s.actionOf x.cause = .trip ∧ x.cause ≠ first
                  ∧ x.offset = 0 ∧ x.number = none)
              ∧ (Cause.all.filter fun c => rises c && s.actionOf c == .trip).length
                  = 1 + r.subsequent.length + r.overflow) := by
  have keeps := first.keeps
  obtain ⟨g, -, -⟩ := keeps.cause
  obtain ⟨clock, loader, -, -, -⟩ := keeps.outer
  have member (c : Cause) : c ∈ j.tripCauses cs ↔ rises c = true ∧ s.actionOf c = .trip := by
    rw [mem_tripCauses, listed, keeps.actionOf]
  have nonempty : j.tripCauses cs ≠ [] := by
    obtain ⟨c, rise, action⟩ := some_trip
    exact List.ne_nil_of_mem ((member c).mpr ⟨rise, action⟩)
  obtain ⟨rest, oldest, list⟩ : ∃ rest oldest, j.tripCauses cs = rest ++ [oldest] :=
    ⟨_, _, (List.dropLast_append_getLast nonempty).symm⟩
  have trip := trips.made can oldest rest list
  have distinct : (rest ++ [oldest]).Nodup := list ▸ nodup.filter _
  obtain ⟨rise, action⟩ := (member oldest).mp (list ▸ List.mem_append_right rest List.mem_cons_self)
  refine ⟨trip.st.trans (by rw [keeps.speed]), trip.stopped, trip.loopWait, trip.g.trans (by rw [g]), ?_, oldest, rise,
    action, ?_, fun ok => ?_⟩
  · rw [trip.context, State.tripContext, g, loader]
  · rw [trip.tripSlot, State.tripFrameOf, keeps.mute, keeps.link, g, keeps.reg.1, keeps.speed]
  · obtain ⟨i, r, current, slot, record⟩ := trip.record (keeps.records ▸ ok.1)
    obtain ⟨cause, detail⟩ := record.cause
    obtain ⟨number, origin, confirmed, part⟩ := record.number
    obtain ⟨state, mark, history⟩ := record.held
    obtain ⟨kept, overflow⟩ := record.counted
    have notOverload : oldest ≠ .overload := by
      rintro rfl
      have alert : s.actionOf .overload = .alert := rfl
      rw [alert] at action
      cases action
    refine ⟨i, r, current, slot, cause, ?_, record.kept, ?_, ?_, confirmed, part, state, ?_, ?_, fun x hx => ?_, ?_⟩
    · rw [detail, detailOf_standing j (stands oldest rise) notOverload, keeps.standingDetail]
    · rw [number, g]
    · rw [origin, loader]
    · rw [mark, clock]
    · rw [history, keeps.records]
    · obtain ⟨taken, offset, unnumbered⟩ := record.subsequent x hx
      obtain ⟨rise, action⟩ := (member x.cause).mp (list ▸ List.mem_append_left _ taken)
      refine ⟨rise, action, fun same => ?_, offset, unnumbered⟩
      exact (List.nodup_append.mp distinct).2.2 x.cause taken oldest List.mem_cons_self same
    · have few := causes_length _ distinct
      rw [trips_counted keeps nodup listed, list, kept, overflow]
      simp only [List.length_append, List.length_singleton] at few ⊢
      omega

/-- The CLAMPs of the causes that rise, R86, R112. -/
theorem joining_clamps (keeps : JoinKeeps s j) (nodup : cs.Nodup) (listed : ∀ c, c ∈ cs ↔ rises c = true)
    (clamps : JoinClamps j cs t) :
    (s.link.mute = false → t.limiter.clamp = s.limiter.clamp
        ∧ ((∀ c, rises c = true → s.actionOf c ≠ .clamp) → t.link.clampSlot = s.link.clampSlot)
        ∧ ((∃ c, rises c = true ∧ s.actionOf c = .clamp) →
            ∃ c, rises c = true ∧ s.actionOf c = .clamp ∧ t.link.clampSlot = some (s.clampOf c)))
    ∧ (s.link.mute = true → t.link.clampSlot = s.link.clampSlot
        ∧ ((∀ c, rises c = true → s.actionOf c ≠ .clamp) → t.limiter.clamp = s.limiter.clamp)
        ∧ (∀ c, rises c = true → s.actionOf c = .clamp →
            (∀ d, rises d = true → s.actionOf d = .clamp → d = c) →
            (s.IgnoresOwnClamp (s.clampOf c) → t.limiter.clamp = s.limiter.clamp)
            ∧ (¬s.IgnoresOwnClamp (s.clampOf c) → t.limiter.clamp = s.ownClamp (s.clampOf c)))) := by
  have member (c : Cause) : c ∈ j.clampCauses cs ↔ rises c = true ∧ s.actionOf c = .clamp := by
    rw [mem_clampCauses, listed, keeps.actionOf]
  have none (h : ∀ c, rises c = true → s.actionOf c ≠ .clamp) : j.clampCauses cs = [] := by
    refine List.eq_nil_iff_forall_not_mem.mpr fun c inside => ?_
    obtain ⟨rise, action⟩ := (member c).mp inside
    exact h c rise action
  have slot : j.link.clampSlot = s.link.clampSlot := by rw [keeps.link]
  have held := keeps.limiter.1
  refine ⟨fun loud => ?_, fun mute => ?_⟩
  · obtain ⟨clamp, empty, newest⟩ := clamps.loud (keeps.mute.trans loud)
    refine ⟨clamp.trans held, fun h => (empty (none h)).trans slot, fun ⟨c, rise, action⟩ => ?_⟩
    obtain ⟨d, rest, list⟩ := List.exists_cons_of_ne_nil (List.ne_nil_of_mem ((member c).mpr ⟨rise, action⟩))
    obtain ⟨rise, action⟩ := (member d).mp (list ▸ List.mem_cons_self)
    exact ⟨d, rise, action, by rw [newest d rest list, keeps.clampOf]⟩
  · obtain ⟨clampSlot, empty, one⟩ := clamps.mute (keeps.mute.trans mute)
    refine ⟨clampSlot.trans slot, fun h => (empty (none h)).trans held, fun c rise action only => ?_⟩
    have list : j.clampCauses cs = [c] := by
      refine List.perm_singleton.mp ((List.perm_ext_iff_of_nodup (nodup.filter _) (List.nodup_singleton c)).mpr fun d => ?_)
      refine Iff.trans (member d) ?_
      rw [List.mem_singleton]
      refine ⟨fun h => only d h.1 h.2, fun same => ?_⟩
      rw [same]
      exact ⟨rise, action⟩
    have result := one c list
    rw [keeps.clampOf, keeps.ignores, keeps.ownClamp, held] at result
    exact result

/-- Settles O27: `JoinBlocks`, `JoinClamps` and `JoinTrips` hold of the causes taken so far, whatever order is chosen. -/
theorem joiningEnds : Obligations.JoiningEnds := by
  unfold Obligations.JoiningEnds
  refine ⟨fun s => joining_waits, fun s u target rises aging st last aged rows stands => ?_⟩
  obtain ⟨j, run, first⟩ := joining_ends aging st last
  have same : s.agingRestarted.age = u := aged.symm
  have station : u.loader.station = s.loader.station := by
    rw [← same, (keeps_age (s := s.agingRestarted) st).outer.2.1]
    rfl
  have entered : j.st = target := by rw [first.st, same, joinEndState_eq, station, rows]
  rw [same] at first
  have kind : j.st = .tripped ∨ j.st.canTrip = true := by
    rw [first.st]
    rcases joinEndState_cases u with end_ | end_ | end_ <;> rw [end_]
    · exact .inl rfl
    · exact .inr rfl
    · exact .inr rfl
  obtain ⟨cs, nodup, member, blocks, clamps, trips⟩ := presentAll_join kind first.lines
  have listed (c : Cause) : c ∈ cs ↔ rises c = true := by rw [member, first.rises_iff, stands]
  have keeps := first.keeps
  have met (c : Cause) (rise : rises c = true) : j.Stands c := by
    rw [stands_iff, first.condition, ← stands_iff]
    exact ((stands c).mp rise).1
  obtain ⟨g, context, -⟩ := keeps.cause
  obtain ⟨loud, mute⟩ := joining_clamps keeps nodup listed clamps
  obtain ⟨clock, loader, monitor, inputs, pending⟩ := blocks.outer
  obtain ⟨clock', loader', monitor', inputs', pending'⟩ := keeps.outer
  obtain ⟨share, history⟩ := blocks.timers
  obtain ⟨share', history'⟩ := first.timers
  have tripSlot : j.link.tripSlot = s.link.tripSlot := by rw [keeps.link]
  subst entered
  refine ⟨_, run, blocks.lines, ?_, share.trans share', history.trans history', fun sends => ?_, fun c rise => ?_,
    fun c calm => ?_, fun noTrip => ?_, fun tripped => ?_, fun open_ someTrip => ?_, loud, mute, ?_⟩
  · rw [blocks.link]
    exact first.rollSlot
  · obtain ⟨p, slot, own, state⟩ := first.share sends
    refine ⟨p, ?_, ?_, state⟩
    · rw [blocks.link]
      exact slot
    · rw [State.entry, blocks.entries]
      exact own
  · rw [blocks.risen c ((listed c).mpr rise), (keeps.latched c).2]
  · obtain ⟨latched, count, field⟩ := blocks.others c fun inside => by
      rw [(listed c).mp inside] at calm
      cases calm
    exact ⟨latched.trans (keeps.latched c).1, count.trans (keeps.latched c).2,
      fun own => (field own).trans (keeps.others c own)⟩
  · have none : j.tripCauses cs = [] := by
      refine List.eq_nil_iff_forall_not_mem.mpr fun c inside => ?_
      obtain ⟨taken, action⟩ := (mem_tripCauses c).mp inside
      exact noTrip c ((listed c).mp taken) (keeps.actionOf c ▸ action)
    obtain ⟨st', g', context', records, slot, -, -⟩ := trips.none none
    exact ⟨st', g'.trans g, context'.trans context, records.trans keeps.records, slot.trans tripSlot⟩
  · obtain ⟨st', g', context', slot, records⟩ := trips.already tripped
    exact ⟨st', g'.trans g, context'.trans context, slot.trans tripSlot,
      fun noContext => (records (context.trans noContext)).trans keeps.records⟩
  · exact joining_trip first nodup listed met trips (kind.resolve_left open_) someTrip
  · rw [← keeps.speed, ← clock', ← loader', ← monitor', ← inputs', ← pending', ← blocks.speed, ← clock, ← loader,
      ← monitor, ← inputs, ← pending]

end Result

end Sys2Proof.Machine
end

section
/-!
PROOFS. The output lines (R20, R53, R62) and the part held in reset (R167). Every command but those that reset or start
the block lands (`answers_ordinary`); while the part is held these commands move the input levels alone.
-/

namespace Sys2Proof.Machine

section Ordinary

/-- The commands that neither reset nor start the block and that let no time pass. -/
def ordinary : Instr → Bool
  | .tachEdge _ _ | .orderRestart _ _ | .settleTimeExpiry _ | .parameterReadComplete _ | .resetLinePulse _ | .brownOut
  | .brownOutEnd _ | .clockLoss | .clockReturn => false
  | _ => true

variable (s : State)

theorem answers_ordinary {c : Instr} (h : ordinary c = true) : Answers (exec c s) s := by
  cases c with
  | currentSampleArrival x => exact answers_currentSampleArrival s x
  | conductionPeriodStart => exact answers_conductionPeriodStart s
  | conductionOnEnd => exact answers_conductionOnEnd s
  | standstill => exact answers_standstill s
  | vibSampleArrival x stop => exact answers_vibSampleArrival s x stop
  | vibSilenceExpiry => exact answers_vibSilenceExpiry s
  | patternSample figures => exact answers_patternSample s figures
  | loopSenseChange x => exact answers_loopSenseChange s x
  | loopWaitExpiry => exact answers_loopWaitExpiry s
  | clearWindowExpiry => exact answers_clearWindowExpiry s
  | agingExpiry => exact answers_agingExpiry s
  | shareTimerExpiry => exact answers_shareTimerExpiry s
  | historyTimerExpiry => exact answers_historyTimerExpiry s
  | demandTimerExpiry => exact answers_demandTimerExpiry s
  | startWindowExpiry => exact answers_startWindowExpiry s
  | stageTimerExpiry => exact answers_stageTimerExpiry s
  | jamTimerExpiry => exact answers_jamTimerExpiry s
  | surgeTimerExpiry => exact answers_surgeTimerExpiry s
  | clampHoldExpiry => exact answers_clampHoldExpiry s
  | lockoutTimerExpiry => exact answers_lockoutTimerExpiry s
  | localInputEdge i level => exact answers_localInputEdge s i level
  | localInputFiltered i => exact answers_localInputFiltered s i
  | demandFrame o p => exact answers_demandFrame s o p
  | orderSelftest o p => exact answers_orderSelftest s o p
  | clearTrip o p => exact answers_clearTrip s o p
  | keepRecord o p => exact answers_keepRecord s o p
  | releaseRecord o p => exact answers_releaseRecord s o p
  | discardRecords o p => exact answers_discardRecords s o p
  | orderUndefinedKind o kind p => exact answers_orderUndefinedKind s o kind p
  | tripFrame o p => exact answers_tripFrame s o p
  | clampFrame o p => exact answers_clampFrame s o p
  | shareFrame o p => exact answers_shareFrame s o p
  | rollFrame o p => exact answers_rollFrame s o p
  | replyFrame o words => exact answers_replyFrame s o words
  | queryStatus o q => exact answers_query s o 1 q (answerStatus q)
  | queryCause o q => exact answers_query s o 2 q (answerCause q)
  | queryPeer o q => exact answers_query s o 3 q (answerPeer q)
  | queryAllowance o q => exact answers_query s o 4 q (answerAllowance q)
  | queryCounters o q => exact answers_query s o 5 q (answerCounters q)
  | queryRecordHead o q => exact answers_query s o 6 q (answerRecordHead q)
  | queryRecordSnap o q => exact answers_query s o 7 q (answerRecordSnap q)
  | queryRecordList o q => exact answers_query s o 8 q (answerRecordList q)
  | queryRecordEntry o q => exact answers_query s o 9 q (answerRecordEntry q)
  | queryHistory o q => exact answers_query s o 10 q (answerHistory q)
  | queryNoSuchItem o item q => exact answers_query s o item q fun _ => .noSuchItem
  | frameDiscard bits => exact answers_frameDiscard s bits
  | transmitStart start => exact answers_transmitStart s start
  | arbitrationLoss => exact answers_arbitrationLoss s
  | echoFault => exact answers_echoFault s
  | transmitSuccess => exact answers_transmitSuccess s
  | guardTimerExpiry => exact answers_guardTimerExpiry s
  | settingsUpset i v => exact answers_settingsUpset s i v
  | supplyLevelCrossing n => exact answers_supplyLevelCrossing s n
  | _ => cases h

end Ordinary

section HeldInReset

variable {s : State}

/-- A change of the input levels and of the count of free choices alone. -/
def Idles (s t : State) : Prop := ∃ i n, t = { s with inputs := i, free := n }

theorem Idles.refl (s : State) : Idles s s := ⟨s.inputs, s.free, rfl⟩

theorem Idles.trans {s t u : State} (h : Idles s t) (k : Idles t u) : Idles s u := by
  obtain ⟨i, n, rfl⟩ := h
  obtain ⟨j, m, rfl⟩ := k
  exact ⟨j, m, rfl⟩

theorem Idles.inReset {t : State} (h : Idles s t) : t.inReset = s.inReset := by
  obtain ⟨i, n, rfl⟩ := h
  rfl

theorem Idles.held {t : State} (h : Idles s t) (held : s.Held) : t.Held := by
  obtain ⟨i, n, rfl⟩ := h
  exact held

theorem Idles.outputsOk {t : State} (h : Idles s t) (ok : s.OutputsOk) : t.OutputsOk := by
  obtain ⟨i, n, rfl⟩ := h
  exact ok

/-- A frame is not heard by the link of a part held in reset, R167. -/
theorem idles_frame {c : Instr} {f : Frame} (held : s.Held) (frame : frameOfCommand c = some f) :
    exec c s = .next s := by
  obtain ⟨-, link, -⟩ := held
  obtain ⟨handle, hears, -⟩ := exec_hears frame
  rw [hears s, hears_inactive f handle (by rw [link]; rfl)]
  refine congrArg Host.Outcome.next (onLink_same s (f := Link.unread) ?_)
  rw [link]
  rfl

/-- While the part is held in reset its commands move the input levels alone, R167: no timer runs, no settings are read,
the link is silent and the blocks stand. -/
theorem idles_ordinary {c : Instr} (held : s.Held) (reset : s.inReset = true) (h : ordinary c = true) :
    Idles s (landed s (exec c s)) := by
  have same {x : State} (h : x = s) : Idles s x := h ▸ Idles.refl s
  cases frame : frameOfCommand c with
  | some f =>
    rw [idles_frame held frame]
    exact Idles.refl s
  | none =>
  obtain ⟨loading, link, timers, step, settings, clamp, -⟩ := held
  have quiet : s.st.blocksRun = false := by rw [loading]; rfl
  cases c with
  | currentSampleArrival x => exact same (if_neg (by simp [quiet]))
  | conductionPeriodStart => exact same (if_pos (by simp [quiet]))
  | conductionOnEnd => exact same (if_neg (by simp [quiet]))
  | standstill => exact same (if_pos (by simp [quiet]))
  | vibSampleArrival x stop => exact same (if_neg (by simp [quiet]))
  | patternSample figures => exact same (if_pos (.inl (by simp [loading])))
  | vibSilenceExpiry | loopWaitExpiry | clearWindowExpiry | agingExpiry | shareTimerExpiry | historyTimerExpiry
  | demandTimerExpiry | startWindowExpiry | stageTimerExpiry | jamTimerExpiry | surgeTimerExpiry | lockoutTimerExpiry
  | guardTimerExpiry => exact same (if_pos (by rw [timers]; rfl))
  | localInputFiltered i => exact same (if_pos (by cases i <;> simp [State.filter, timers, Timers.stopped]))
  | clampHoldExpiry => exact same (if_pos (by rw [clamp]; rfl))
  | loopSenseChange x =>
    refine ⟨{ s.inputs with loopOthers := x }, s.free, ?_⟩
    simp [exec, execLoopSenseChange, landed, State.loopCheck, loading, StationState.canTrip]
    rfl
  | localInputEdge i level =>
    refine ⟨if s.pin i = level then s.inputs else Inputs.setPin i level s.inputs, s.free, ?_⟩
    simp only [exec, execLocalInputEdge, landed, onInputs_loader, settings]
    split <;> rfl
  | frameDiscard bits =>
    refine same ((if_pos (by rw [link]; rfl)).trans (onLink_same s ?_))
    rw [link]
    rfl
  | transmitStart start =>
    cases start with
    | own => exact same (if_neg (by rw [link]; decide))
    | another => exact same (if_pos reset)
  | arbitrationLoss => exact same (if_pos (by rw [link]; rfl))
  | echoFault => exact same (by simp only [exec, execEchoFault, landed, link, Link.reset])
  | transmitSuccess => exact same (by simp only [exec, execTransmitSuccess, landed, link, Link.reset])
  | settingsUpset i v =>
    refine same ?_
    simp only [exec, execSettingsUpset, landed, State.onLoader, settings, Option.map_none]
    rw [← settings]
  | supplyLevelCrossing n =>
    refine ⟨{ s.inputs with supplyMillivolts := n }, s.free, ?_⟩
    exact if_pos (by rw [onInputs_loader, settings]; rfl)
  | tachEdge | orderRestart | settleTimeExpiry | parameterReadComplete | resetLinePulse | brownOut | brownOutEnd
  | clockLoss | clockReturn => cases h
  | _ => cases frame

/-- Start-up stands while the part is held in reset, R167. -/
theorem settle_held (held : s.Held) (straps : BitVec 3) : exec (.settleTimeExpiry straps) s = .next s := by
  obtain ⟨-, -, timers, -⟩ := held
  exact congrArg Host.Outcome.next (if_pos (.inl (by rw [timers]; rfl)))

theorem read_held (held : s.Held) (bytes : List Byte) : exec (.parameterReadComplete bytes) s = .next s := by
  obtain ⟨-, -, -, settling, -⟩ := held
  exact congrArg Host.Outcome.next (if_pos (.inr (.inl (by rw [settling]; decide))))

/-- An own event but the end of the settle time is an ordinary command. -/
theorem takeOwn_cases (s : State) (c : Instr) : s.takeOwn c = s ∨ (ordinary c = true ∧ s.takeOwn c = landed s (exec c s))
    ∨ ∃ straps, c = .settleTimeExpiry straps := by
  unfold State.takeOwn
  split
  all_goals first
    | exact .inr (.inl ⟨rfl, rfl⟩)
    | exact .inr (.inr ⟨_, rfl⟩)
    | exact .inl rfl

theorem idles_takeOwn (held : s.Held) (reset : s.inReset = true) (c : Instr) : Idles s (s.takeOwn c) := by
  rcases takeOwn_cases s c with same | ⟨plain, taken⟩ | ⟨straps, rfl⟩
  · exact same.symm ▸ Idles.refl s
  · rw [taken]
    exact idles_ordinary held reset plain
  · have stands : s.takeOwn (.settleTimeExpiry straps) = landed s (exec (.settleTimeExpiry straps) s) := rfl
    rw [stands, settle_held held]
    exact Idles.refl s

theorem idles_nextDue {t : State} {c : Instr} (due : s.nextDue = some (c, t)) : Idles s t := by
  unfold State.nextDue at due
  split at due
  · cases due
  · cases due
    exact Idles.refl s
  · cases due
    exact ⟨s.inputs, s.free + 1, rfl⟩

theorem idles_takeDue (n : Nat) (s : State) (held : s.Held) (reset : s.inReset = true) : Idles s (s.takeDue n) := by
  induction n generalizing s with
  | zero => exact Idles.refl s
  | succ n ih =>
    unfold State.takeDue
    split
    · exact Idles.refl s
    · next c t due =>
      have chosen := idles_nextDue due
      have taken := idles_takeOwn (chosen.held held) (chosen.inReset.trans reset) c
      have reached := chosen.trans taken
      exact reached.trans (ih _ (reached.held held) (reached.inReset.trans reset))

theorem elapse_held (n : Nat) (reset : s.inReset = true) : s.elapse n = s := if_pos reset

/-- Time does not pass for a part held in reset, R167. -/
theorem idles_pass (n : Nat) (s : State) (held : s.Held) (reset : s.inReset = true) : Idles s (s.pass n) := by
  induction n generalizing s with
  | zero => exact Idles.refl s
  | succ n ih =>
    have due := idles_takeDue ownKinds s held reset
    unfold State.pass
    rw [elapse_held 1 (due.inReset.trans reset)]
    exact due.trans (ih _ (due.held held) (due.inReset.trans reset))

theorem idles_tachEdge (held : s.Held) (reset : s.inReset = true) (edge : Edge) (n : Nat) :
    Idles s (landed s (exec (.tachEdge edge n) s)) := by
  have passed := idles_pass n s held reset
  obtain ⟨loading, -⟩ := passed.held held
  have stands : (s.pass n).tachEdge edge = s.pass n :=
    if_pos (by simp [show (s.pass n).st.blocksRun = false by rw [loading]; rfl])
  have answer : landed s (exec (.tachEdge edge n) s) = (s.pass n).tachEdge edge := rfl
  rw [answer, stands]
  exact passed

end HeldInReset

section Outputs

variable {s t : State}

/-- Outside reset the lines are those of R20 and the converter is blocked while CONV_EN is inactive. -/
theorem outputsOk_free (free : s.inReset = false) : s.OutputsOk ↔ s.LinesOk := by
  unfold State.OutputsOk State.LinesOk
  simp [free]

theorem lands_outputsOk (h : Lands s t) (free : s.inReset = false) (ok : s.OutputsOk) :
    t.inReset = false ∧ t.OutputsOk := by
  have still : t.inReset = false := (chain_inReset h.loose).trans free
  exact ⟨still, (outputsOk_free still).mpr
    (Chain.keeps (fun _ _ => change_lines) h.loose ((outputsOk_free free).mp ok))⟩

/-- The end of the settle time moves no output. -/
theorem settle_outputsOk (straps : BitVec 3) (h : s.inReset = false ∧ s.OutputsOk) :
    (landed s (execSettleTimeExpiry straps s)).inReset = false
      ∧ (landed s (execSettleTimeExpiry straps s)).OutputsOk :=
  landed_settle (P := fun t => t.inReset = false ∧ t.OutputsOk) straps s h fun _ => ⟨h.1, h.2.1, fun reset =>
    absurd (h.1.symm.trans reset) (by decide), h.2.2.2⟩

theorem moveTo_inReset (s : State) (new : StationState) : (s.moveTo new).inReset = s.inReset := by
  unfold State.inReset
  rw [moveTo_monitor]

/-- The end of start-up: FAULT_HALT or JOINING, with the generator started at rest, R51, R164. -/
theorem read_outputsOk (bytes : List Byte) (free : s.inReset = false) (ok : s.OutputsOk) :
    (landed s (execParameterReadComplete bytes s)).OutputsOk := by
  have lines := (outputsOk_free free).mp ok
  refine landed_read bytes s ok (fun _ => ?_) (fun _ w => ?_)
  · have halted : s.haltFromLoading.LinesOk := move_lines _ .faultHalt lines
    have still : s.haltFromLoading.inReset = false := (moveTo_inReset _ _).trans free
    exact (outputsOk_free still).mpr halted
  · have started : ((s.takeSettings w).onEntry s.loader.station PeerEntry.own).LinesOk :=
      ⟨lines.1, fun disabled => ⟨(lines.2 disabled).1, rfl, (lines.2 disabled).2.2⟩⟩
    have entered := move_lines _ .joining started
    have composed := chain_composeRoll (b := true) (((s.takeSettings w).onEntry s.loader.station PeerEntry.own).moveTo .joining)
    exact (outputsOk_free ((chain_inReset composed).trans ((moveTo_inReset _ _).trans free))).mpr
      (Chain.keeps (fun _ _ => change_lines) composed entered)

theorem beginReset_held (s : State) (kind : ResetKind) : (s.beginReset kind).Held := by
  refine ⟨rfl, rfl, rfl, rfl, rfl, ?_, rfl⟩
  rw [beginReset_limiter]
  rfl

/-- A reset that has begun, and ended where nothing holds the part, R166, R167. -/
theorem endReset_outputsOk (held : s.inReset = true → s.Held) (loading : s.st = .loading)
    (blocked : s.reg.isBlocked ∧ s.gen.isBlocked) : s.endReset.OutputsOk := by
  cases reset : s.inReset with
  | true =>
    rw [endReset_held s reset]
    exact ⟨fun free => absurd (reset.symm.trans free) (by decide), held, fun _ => blocked⟩
  | false =>
    rw [endReset_free s reset]
    refine ⟨fun _ => ?_, fun held => absurd (reset.symm.trans held) (by decide), fun _ => blocked⟩
    show Lines.released = s.st.lines
    rw [loading]
    rfl

theorem reset_blocked (s : State) (kind : ResetKind) :
    (s.beginReset kind).reg.isBlocked ∧ (s.beginReset kind).gen.isBlocked :=
  ⟨⟨rfl, rfl, rfl, rfl, rfl, rfl⟩, rfl, rfl⟩

theorem reset_outputsOk (s : State) (kind : ResetKind) : (s.beginReset kind).endReset.OutputsOk :=
  endReset_outputsOk (fun _ => beginReset_held s kind) rfl (reset_blocked s kind)

theorem beginReset_outputsOk (kind : ResetKind) (reset : s.inReset = true) : (s.beginReset kind).OutputsOk := by
  have ended := reset_outputsOk s kind
  rwa [endReset_held (s.beginReset kind) reset] at ended

/-- One of the two holds of a reset let go, R167: what still holds the part drives the loop as it did. -/
theorem release_outputsOk (ok : s.OutputsOk) (reset : s.inReset = true) (monitor : Monitor) (inputs : Inputs) (lines : Lines)
    (driven : (monitor.supplyHeld || monitor.clockLost) = true →
      lines = { Lines.released with loopDrive := monitor.clockLost && !monitor.supplyHeld }) :
    (State.endReset { s with monitor := monitor, inputs := inputs, lines := lines }).OutputsOk := by
  obtain ⟨loading, link, timers, step, settings, clamp, disabled⟩ := ok.2.1 reset
  refine endReset_outputsOk (fun still => ⟨loading, link, timers, step, settings, clamp, driven still⟩) loading
    (ok.2.2 ?_)
  rw [disabled]
  rfl

theorem exec_outputsOk (c : Instr) (ok : s.OutputsOk) : (landed s (exec c s)).OutputsOk := by
  by_cases plain : ordinary c = true
  · cases reset : s.inReset with
    | true => exact (idles_ordinary (ok.2.1 reset) reset plain).outputsOk ok
    | false => exact (lands_outputsOk (answers_ordinary s plain).landed reset ok).2
  cases c with
  | tachEdge edge n =>
    cases reset : s.inReset with
    | true => exact (idles_tachEdge (ok.2.1 reset) reset edge n).outputsOk ok
    | false =>
      obtain ⟨free, passed⟩ := pass_keeps (P := fun t => t.inReset = false ∧ t.OutputsOk)
        (fun _ _ lands h => lands_outputsOk lands h.1 h.2) (fun straps _ h => settle_outputsOk straps h) n s ⟨reset, ok⟩
      exact (lands_outputsOk (.chain (chain_tachEdge _ edge)) free passed).2
  | orderRestart o p =>
    cases reset : s.inReset with
    | true =>
      rw [idles_frame (ok.2.1 reset) (c := .orderRestart o p) rfl]
      exact ok
    | false =>
      have answer : exec (.orderRestart o p) s = execOrderRestart o p s := rfl
      obtain ⟨u, lands, stays | ⟨-, resets⟩⟩ := answers_orderRestart s o p
      · rw [answer, stays]
        exact (lands_outputsOk lands reset ok).2
      · rw [answer, resets]
        exact reset_outputsOk u .restart
  | settleTimeExpiry straps =>
    cases reset : s.inReset with
    | true =>
      rw [settle_held (ok.2.1 reset)]
      exact ok
    | false => exact (settle_outputsOk straps ⟨reset, ok⟩).2
  | parameterReadComplete bytes =>
    cases reset : s.inReset with
    | true =>
      rw [read_held (ok.2.1 reset)]
      exact ok
    | false => exact read_outputsOk bytes reset ok
  | resetLinePulse us =>
    by_cases short : us < 500
    · rw [resetLinePulse_short s us short]
      exact ok
    · by_cases long : 2000 ≤ us
      · rw [resetLinePulse_long s us long]
        exact reset_outputsOk s .resetLine
      · rcases resetLinePulse_between s us ⟨by omega, by omega⟩ with ignored | taken
        · rw [ignored]
          exact ok
        · rw [taken]
          exact reset_outputsOk _ .resetLine
  | brownOut =>
    have answer : landed s (exec .brownOut s) = if s.monitor.supplyHeld = true then s
        else (s.onMonitor fun m => { m with supplyHeld := true }).beginReset .powerOn := rfl
    rw [answer]
    split
    · exact ok
    · exact beginReset_outputsOk .powerOn rfl
  | clockLoss =>
    have answer : landed s (exec .clockLoss s) = if s.monitor.clockLost = true then s
        else (s.onMonitor fun m => { m with clockLost := true }).beginReset .clockLoss := rfl
    rw [answer]
    split
    · exact ok
    · exact beginReset_outputsOk .clockLoss (Bool.or_true _)
  | brownOutEnd mv =>
    by_cases taken : s.monitor.supplyHeld = true ∧ 2700 < mv
    · obtain ⟨supply, above⟩ := taken
      rw [brownOutEnd_taken s mv supply above]
      exact release_outputsOk ok (by simp [State.inReset, supply]) { s.monitor with supplyHeld := false }
        { s.inputs with supplyMillivolts := mv } _ (fun _ => by simp)
    · have stays : exec (.brownOutEnd mv) s = .next s := by
        refine congrArg Host.Outcome.next (if_pos ?_)
        rw [not_and, Nat.not_lt] at taken
        cases supply : s.monitor.supplyHeld with
        | false => rfl
        | true => simpa using taken supply
      rw [stays]
      exact ok
  | clockReturn =>
    cases lost : s.monitor.clockLost with
    | true =>
      have reset : s.inReset = true := by simp [State.inReset, lost]
      have lines : s.lines = { Lines.released with loopDrive := s.monitor.clockLost && !s.monitor.supplyHeld } := by
        obtain ⟨-, -, -, -, -, -, lines⟩ := ok.2.1 reset
        exact lines
      rw [clockReturn_taken s lost]
      refine release_outputsOk ok reset { s.monitor with clockLost := false } s.inputs s.lines fun still => ?_
      have supply : s.monitor.supplyHeld = true := by simpa using still
      rw [lines, supply]
      simp
    | false =>
      have stays : exec .clockReturn s = .next s := congrArg Host.Outcome.next (if_pos (by rw [lost]; rfl))
      rw [stays]
      exact ok
  | _ => exact absurd rfl plain

theorem elapse_outputsOk (n : Nat) (ok : s.OutputsOk) : (s.elapse n).OutputsOk := by
  cases reset : s.inReset with
  | true =>
    rw [elapse_held n reset]
    exact ok
  | false => exact (lands_outputsOk (.chain (.one (.elapse s n))) reset ok).2

end Outputs

/-- Settles O6: outside reset every landing keeps the lines, and a part held in reset stands still. -/
theorem stepKeepsOutputs : Obligations.StepKeepsOutputs := by
  unfold Obligations.StepKeepsOutputs
  intro s t ok ran
  have command (c : Instr) (u : State) (hu : u.OutputsOk) (answer : exec c u = .next t) : t.OutputsOk := by
    have kept := exec_outputsOk c hu
    rwa [answer] at kept
  unfold step at ran
  split at ran
  · next c rest _ => exact command c { s with pending := rest } ok ran
  · split at ran
    · next c u due => exact command c u ((idles_nextDue due).outputsOk ok) ran
    · cases ran
      exact elapse_outputsOk 1 ok

/-- Settles O5: after power-on the blocks stand, the table is empty and nothing is recorded. -/
theorem invariantsHoldAtPowerOn : Obligations.InvariantsHoldAtPowerOn := by
  unfold Obligations.InvariantsHoldAtPowerOn
  have entries (n : Station) : State.reset.entry n = .empty := emptyEntries_get n
  have slots (i : Fin 8) : State.reset.records.slots.get i = none := emptySlots_get i
  refine ⟨⟨fun _ => rfl, fun held => absurd held (by decide), fun _ => reset_blocked .reset .powerOn⟩, ⟨rfl, rfl⟩, rfl,
    peersOk_of_idle rfl fun n => ?_, ⟨⟨by decide, by decide, fun i x full => ?_, fun i x full => ?_,
      fun i current => (by cases current), by decide⟩, fun ctx context => (by cases context)⟩, ?_⟩
  · rw [entries]
    trivial
  · rw [slots] at full
    cases full
  · rw [slots] at full
    cases full
  · exact ⟨by decide, by decide, by decide, fun evaluating => (by cases evaluating), fun selftest => (by cases selftest),
      fun _ _ => ⟨rfl, rfl, rfl⟩, fun _ => rfl⟩

end Sys2Proof.Machine
end

section
/-!
PROOFS. The passing of time (R143, R147, R162): which own events are due, which of them a step on an empty queue takes,
what each block makes of `n` µs, and that amounts of time add up.
-/

namespace Sys2Proof.Machine

section Due

variable (s : State)

theorem mem_dueIf (cond : Bool) (c x : Instr) : x ∈ dueIf cond c ↔ x = c ∧ cond = true := by
  cases cond <;> simp [dueIf]

theorem dueIf_sublist (cond : Bool) (c : Instr) : (dueIf cond c).Sublist [c] := by
  cases cond <;> simp [dueIf]

/-- The start bit of a frame of this station is due, R147. -/
theorem startable_iff (l : Link) : l.startable = true ∧ l.pending = true ↔ l.active = true ∧ l.mute = false
    ∧ l.transmitter = none ∧ l.idle = 10 ∧ l.bitMicros = 0
    ∧ (l.tripSlot ≠ none ∨ l.clampSlot ≠ none ∨ l.shareSlot ≠ none ∨ l.queue ≠ [] ∨ l.rollSlot ≠ none) := by
  simp [Link.startable, Link.pending, and_assoc, or_assoc, Option.isSome_iff_ne_none]

/-- Every kind of own event, in the order of the table. -/
def ownEvents (straps : BitVec 3) : List Instr :=
  [.conductionPeriodStart, .conductionOnEnd, .standstill, .vibSilenceExpiry, .patternSample none, .loopWaitExpiry,
    .clearWindowExpiry, .agingExpiry, .shareTimerExpiry, .historyTimerExpiry, .demandTimerExpiry, .startWindowExpiry,
    .stageTimerExpiry, .jamTimerExpiry, .surgeTimerExpiry, .clampHoldExpiry, .lockoutTimerExpiry,
    .localInputFiltered .lstop, .localInputFiltered .maint, .transmitStart .own, .settleTimeExpiry straps,
    .guardTimerExpiry]

/-- A number for each kind of own event, of its own. -/
def Instr.rank : Instr → Nat
  | .localInputFiltered .lstop => 1000
  | c => c.ctorIdx

theorem ownEvents_rank (straps : BitVec 3) : (ownEvents straps).map Instr.rank = (ownEvents 0).map Instr.rank := by
  simp only [ownEvents, List.map]
  rfl

theorem ownEvents_nodup (straps : BitVec 3) : (ownEvents straps).Nodup := by
  have ranks : ((ownEvents 0).map Instr.rank).Nodup := by decide
  rw [← ownEvents_rank straps] at ranks
  exact ranks.of_map _

theorem dueEvents_sublist : s.dueEvents.Sublist (ownEvents s.inputs.straps) := by
  unfold State.dueEvents ownEvents
  simp only [List.append_assoc]
  iterate 21 refine (dueIf_sublist _ _).append ?_
  exact dueIf_sublist _ _

theorem dueEvents_nodup : s.dueEvents.Nodup :=
  (dueEvents_sublist s).nodup (ownEvents_nodup s.inputs.straps)

/-- A step on an empty queue takes an own event that is due, log 2, log 5. -/
theorem step_due (empty : s.pending = []) (several : 2 ≤ s.dueEvents.length) :
    ∃ c ∈ s.dueEvents, step s = exec c { s with free := s.free + 1 } := by
  have taken : s.nextDue = some (s.dueEvents.getD (Config.freeChoice s.free % s.dueEvents.length) .standstill,
      { s with free := s.free + 1 }) := by
    unfold State.nextDue
    split
    · next none =>
      rw [none] at several
      cases several
    · next one =>
      rw [one] at several
      simp at several
    · next c rest _ more =>
      have inside : Config.freeChoice s.free % (c :: rest).length < (c :: rest).length := Nat.mod_lt _ (by simp)
      rw [List.getD_eq_getElem _ _ inside, more, List.getD_eq_getElem _ _ inside]
  have inside : Config.freeChoice s.free % s.dueEvents.length < s.dueEvents.length := Nat.mod_lt _ (by omega)
  refine ⟨s.dueEvents.getD (Config.freeChoice s.free % s.dueEvents.length) .standstill, ?_, ?_⟩
  · rw [List.getD_eq_getElem _ _ inside]
    exact List.getElem_mem inside
  · simp only [step, empty, taken]

end Due

section Elapsing

variable (m n : Nat)

theorem elapse_add_clock (c : Clock) : (c.elapse m).elapse n = c.elapse (m + n) := by
  have whole : (c.micros + (m + n)) / 1000 = (c.micros + m) / 1000 + ((c.micros + m) % 1000 + n) / 1000 := by omega
  have part : ((c.micros + m) % 1000 + n) % 1000 = (c.micros + (m + n)) % 1000 := by omega
  simp only [Clock.elapse, whole, part, BitVec.ofNat_add, BitVec.add_assoc]

theorem elapse_add_runDown (t : Option Nat) : runDown n (runDown m t) = runDown (m + n) t := by
  cases t <;> simp [runDown, Nat.sub_sub]

theorem elapse_add_timers (t : Timers) : (t.elapse m).elapse n = t.elapse (m + n) := by
  have jam : (t.jam.map (· + m)).map (· + n) = t.jam.map (· + (m + n)) := by
    cases t.jam <;> simp [Nat.add_assoc]
  simp only [Timers.elapse, elapse_add_runDown, jam]

theorem elapse_add_clamp (c : ClampRecord) : (c.elapse m).elapse n = c.elapse (m + n) := by
  cases active : c.active with
  | false => simp [ClampRecord.elapse, active]
  | true =>
    have whole : (c.remainingUs + (m + n)) / 1000
        = (c.remainingUs + m) / 1000 + ((c.remainingUs + m) % 1000 + n) / 1000 := by omega
    have part : ((c.remainingUs + m) % 1000 + n) % 1000 = (c.remainingUs + (m + n)) % 1000 := by omega
    simp only [ClampRecord.elapse, active, if_true, whole, part, Nat.sub_sub]

/-- The bits that pass in two amounts of time are those that pass in both together, a bit time of 0 included (log 9). -/
theorem bits_add (bitTime micros : Nat) : (micros + (m + n)) / bitTime
    = (micros + m) / bitTime + ((micros + m) % bitTime + n) / bitTime := by
  rcases Nat.eq_zero_or_pos bitTime with rfl | positive
  · simp
  · have split : micros + (m + n) = (micros + m) % bitTime + n + bitTime * ((micros + m) / bitTime) := by
      have := Nat.mod_add_div (micros + m) bitTime
      omega
    rw [split, Nat.add_mul_div_left _ _ positive, Nat.add_comm]

theorem bitMicros_add (bitTime micros : Nat) :
    ((micros + m) % bitTime + n) % bitTime = (micros + (m + n)) % bitTime := by
  rw [Nat.mod_add_mod, Nat.add_assoc]

theorem elapse_add_link (bitTime : Nat) (l : Link) :
    (l.elapse bitTime m).elapse bitTime n = l.elapse bitTime (m + n) := by
  by_cases busy : (l.transmitter.isSome || l.lineBusy) = true
  · simp only [Link.elapse, busy, if_true]
  · simp only [Link.elapse, busy, Bool.false_eq_true, if_false, bits_add, bitMicros_add]
    generalize (l.bitMicros + m) / bitTime = first
    generalize ((l.bitMicros + m) % bitTime + n) / bitTime = second
    have idle : min 10 (min 10 (l.idle + (first - l.abortBits)) + (second - (l.abortBits - first)))
        = min 10 (l.idle + (first + second - l.abortBits)) := by omega
    have listening : (l.listening || min 10 (l.idle + (first - l.abortBits)) == 10
          || min 10 (l.idle + (first + second - l.abortBits)) == 10)
        = (l.listening || min 10 (l.idle + (first + second - l.abortBits)) == 10) := by
      have reached : min 10 (l.idle + (first - l.abortBits)) = 10 → min 10 (l.idle + (first + second - l.abortBits)) = 10 := by
        omega
      rw [Bool.eq_iff_iff]
      simp only [Bool.or_eq_true, beq_iff_eq]
      tauto
    rw [idle, listening, Nat.sub_sub]

end Elapsing

section Passing

variable (s : State) (m n : Nat)

theorem elapse_free (free : s.inReset = false) : s.elapse n = { s with
    clock := s.clock.elapse n, timers := s.timers.elapse n
    speed := { s.speed with
      capture := if s.st.blocksRun then min 16777215 (s.speed.capture + n) else s.speed.capture }
    gen := { s.gen with position := if s.st.blocksRun then s.gen.position + n else s.gen.position }
    limiter := { s.limiter with clamp := s.limiter.clamp.elapse n }
    link := if s.link.active then s.link.elapse s.cfg.bitTime n else s.link } := by
  unfold State.elapse
  rw [if_neg (by simp [free])]
  cases s.st.blocksRun <;> rfl

theorem elapse_link_active (l : Link) (bitTime : Nat) : (l.elapse bitTime n).active = l.active := by
  unfold Link.elapse
  split <;> rfl

/-- The bits of the line that pass, R143, R147, R149. -/
theorem elapse_link_spelled (l : Link) (bitTime n : Nat) : (if l.active then l.elapse bitTime n else l)
    = if l.active = true ∧ l.transmitter = none ∧ l.lineBusy = false then
        { l with
          bitMicros := (l.bitMicros + n) % bitTime
          abortBits := l.abortBits - (l.bitMicros + n) / bitTime
          idle := min 10 (l.idle + ((l.bitMicros + n) / bitTime - l.abortBits))
          listening := l.listening || decide (10 ≤ l.idle + ((l.bitMicros + n) / bitTime - l.abortBits)) }
      else l := by
  have full (idle : Nat) : (min 10 idle == 10) = decide (10 ≤ idle) := by
    rw [Bool.eq_iff_iff, beq_iff_eq, decide_eq_true_eq]
    omega
  cases active : l.active with
  | false => simp
  | true =>
    cases transmitter : l.transmitter <;> cases busy : l.lineBusy <;>
      simp [Link.elapse, active, transmitter, busy, full]

/-- Time passes in amounts that add up. -/
theorem elapse_add : (s.elapse m).elapse n = s.elapse (m + n) := by
  cases reset : s.inReset with
  | true => rw [elapse_held m reset, elapse_held n reset, elapse_held (m + n) reset]
  | false =>
    have still : (s.elapse m).inReset = false := by
      rw [elapse_free s m reset]
      exact reset
    rw [elapse_free _ n still, elapse_free s m reset, elapse_free s (m + n) reset]
    have cfg : ({ s with clock := s.clock.elapse m } : State).cfg = s.cfg := rfl
    rw [State.mk.injEq]
    refine ⟨rfl, rfl, ?_, ?_, rfl, ?_, rfl, rfl, rfl, ?_, rfl, rfl, elapse_add_timers m n _, elapse_add_clock m n _, rfl,
      rfl, rfl, rfl⟩
    · show SpeedUnit.mk (if s.st.blocksRun then _ else _) _ _ _ = SpeedUnit.mk (if s.st.blocksRun then _ else _) _ _ _
      cases s.st.blocksRun
      · rfl
      · have capture : min 16777215 (min 16777215 (s.speed.capture + m) + n)
            = min 16777215 (s.speed.capture + (m + n)) := by omega
        simp only [if_true, capture]
    · show Generator.mk _ _ _ _ _ _ (if s.st.blocksRun then _ else _) _
        = Generator.mk _ _ _ _ _ _ (if s.st.blocksRun then _ else _) _
      cases s.st.blocksRun
      · rfl
      · simp only [if_true, Nat.add_assoc]
    · simp only [elapse_add_clamp]
    · cases active : s.link.active with
      | false => simp only [active, Bool.false_eq_true, if_false]
      | true =>
        simp only [if_true, elapse_link_active, active]
        exact elapse_add_link m n _ _

end Passing

/-- Settles O2. -/
theorem idleStepLetsTimePass : Obligations.IdleStepLetsTimePass := by
  unfold Obligations.IdleStepLetsTimePass
  refine ⟨fun s empty => ⟨fun none => ?_, fun c one => ?_, step_due s empty⟩, fun s => ⟨dueEvents_nodup s, fun c => ?_⟩,
    fun n s => ⟨fun reset => if_pos reset, fun free => ?_, fun code => ?_, fun code => ?_, fun code => ?_,
      fun m => elapse_add s m n⟩⟩
  · simp only [step, empty, State.nextDue, none]
  · simp only [step, empty, State.nextDue, one]
  · unfold State.dueEvents
    simp only [List.mem_append, mem_dueIf, startable_iff, or_assoc, and_assoc, Bool.and_eq_true, beq_iff_eq,
      decide_eq_true_eq, Option.any_eq_true, Bool.not_eq_true']
    rfl
  · rw [elapse_free s n free, State.mk.injEq]
    refine ⟨rfl, rfl, rfl, rfl, rfl, rfl, rfl, rfl, rfl, ?_, rfl, rfl, rfl, rfl, rfl, rfl, rfl, rfl⟩
    exact elapse_link_spelled s.link s.cfg.bitTime n
  · simp [Settings.bitTime, code]
  · simp [Settings.bitTime, code]
  · simp [Settings.bitTime, code]

end Sys2Proof.Machine
end

section
/-!
PROOFS. What the rise of a cause and a change of the station state keep (R109 to R115): the measured quantities and the
surroundings (`Readings`), the causes that belong to no state (`Carries`), and, but for a trip, the station state and the
regulator (`Undisturbed`).
-/

namespace Sys2Proof.Machine

section Carries

/-- What a station measures and counts, with its settings and surroundings: no rise of a cause alters it, nor a change of
state other than the entry to BREAKAWAY. -/
structure Readings where
  speed : SpeedUnit
  clock : Clock
  loader : Loader
  monitor : Monitor
  inputs : Inputs
  free : Nat
  pending : List Instr
  actions : ActionTable
  feedback : Int
  sample : Word
  overCurrent : Bool
  missCount : Nat
  gen : Generator
  band : Fin 4
  account : Nat
  limit : Bool
  surgeReference : Int

/-- The readings of a state; of the generator all but the phase and the demand in hand. -/
def State.readings (s : State) : Readings :=
  { speed := s.speed, clock := s.clock, loader := s.loader, monitor := s.monitor, inputs := s.inputs, free := s.free
    pending := s.pending, actions := s.cause.actions, feedback := s.reg.feedback, sample := s.reg.sample
    overCurrent := s.reg.overCurrent, missCount := s.reg.missCount, gen := s.gen.blocked, band := s.limiter.band
    account := s.limiter.account, limit := s.limiter.limit, surgeReference := s.limiter.surgeReference }

/-- From `s` to `t` the readings stand, and of the causes outside `cs` none is latched or counted; one that belongs to no
state stands as it was. -/
structure Carries (cs : List Cause) (s t : State) : Prop where
  readings : t.readings = s.readings
  latched : ∀ c, c ∉ cs → (t.causeField c).latched = (s.causeField c).latched
    ∧ (t.causeField c).count = (s.causeField c).count
  field : ∀ c, c ∉ cs → c ∉ Cause.ofStates → t.causeField c = s.causeField c

namespace Carries

variable {cs ds : List Cause} {s t u : State}

theorem refl (cs : List Cause) (s : State) : Carries cs s s := ⟨rfl, fun _ _ => ⟨rfl, rfl⟩, fun _ _ _ => rfl⟩

theorem trans (h : Carries cs s t) (k : Carries cs t u) : Carries cs s u where
  readings := k.readings.trans h.readings
  latched := fun c hc => ⟨(k.latched c hc).1.trans (h.latched c hc).1, (k.latched c hc).2.trans (h.latched c hc).2⟩
  field := fun c hc own => (k.field c hc own).trans (h.field c hc own)

theorem weaken (h : Carries cs s t) (sub : cs ⊆ ds) : Carries ds s t :=
  ⟨h.readings, fun c hc => h.latched c (mt (@sub c) hc), fun c hc => h.field c (mt (@sub c) hc)⟩

/-- What leaves the cause unit alone carries the causes. -/
theorem of_readings (readings : t.readings = s.readings) (causes : t.cause.causes = s.cause.causes) : Carries cs s t := by
  have same (c : Cause) : t.causeField c = s.causeField c := congrArg (CauseSet.get · c) causes
  exact ⟨readings, fun c _ => by rw [same]; exact ⟨rfl, rfl⟩, fun c _ _ => same c⟩

theorem of_stays (h : Stays s t) (readings : t.readings = s.readings) : Carries cs s t where
  readings := readings
  latched := fun c _ => h.latched c
  field := fun c _ own => h.causeField c (by rintro rfl; exact own (by decide))

theorem of_only (h : CausesOnly cs s t) : Carries cs s t where
  readings := by
    rw [h.rest]
    rfl
  latched := fun c hc => by
    rw [h.field c hc]
    exact ⟨rfl, rfl⟩
  field := fun c hc _ => h.field c hc

variable (h : Carries cs s t)
include h

theorem speed : t.speed = s.speed := congrArg Readings.speed h.readings
theorem loader : t.loader = s.loader := congrArg Readings.loader h.readings
theorem actions : t.cause.actions = s.cause.actions := congrArg Readings.actions h.readings
theorem feedback : t.reg.feedback = s.reg.feedback := congrArg Readings.feedback h.readings
theorem sample : t.reg.sample = s.reg.sample := congrArg Readings.sample h.readings
theorem overCurrent : t.reg.overCurrent = s.reg.overCurrent := congrArg Readings.overCurrent h.readings
theorem missCount : t.reg.missCount = s.reg.missCount := congrArg Readings.missCount h.readings
theorem band : t.limiter.band = s.limiter.band := congrArg Readings.band h.readings
theorem account : t.limiter.account = s.limiter.account := congrArg Readings.account h.readings
theorem limit : t.limiter.limit = s.limiter.limit := congrArg Readings.limit h.readings
theorem surgeReference : t.limiter.surgeReference = s.limiter.surgeReference :=
  congrArg Readings.surgeReference h.readings

theorem cfg : t.cfg = s.cfg := by
  unfold State.cfg
  rw [h.loader]

theorem actionOf (c : Cause) : t.actionOf c = s.actionOf c := by
  unfold State.actionOf
  rw [h.actions]

/-- The generator but for its phase and the demand in hand. -/
theorem gen : t.gen.period = s.gen.period ∧ t.gen.onCount = s.gen.onCount ∧ t.gen.offCount = s.gen.offCount
    ∧ t.gen.answered = s.gen.answered ∧ t.gen.position = s.gen.position ∧ t.gen.strobes = s.gen.strobes := by
  have blocked : t.gen.blocked = s.gen.blocked := congrArg Readings.gen h.readings
  simp only [Generator.blocked, Generator.mk.injEq] at blocked
  obtain ⟨period, onCount, offCount, -, -, answered, position, strobes⟩ := blocked
  exact ⟨period, onCount, offCount, answered, position, strobes⟩

/-- The parts that no command of the converter or of the speed unit alters. -/
theorem outer : t = { t with clock := s.clock, loader := s.loader, monitor := s.monitor, inputs := s.inputs
                             free := s.free, pending := s.pending } := by
  rw [State.mk.injEq]
  exact ⟨rfl, rfl, rfl, rfl, rfl, rfl, rfl, rfl, rfl, rfl, h.loader, congrArg Readings.monitor h.readings, rfl,
    congrArg Readings.clock h.readings, rfl, congrArg Readings.inputs h.readings, congrArg Readings.free h.readings,
    congrArg Readings.pending h.readings⟩

end Carries

variable (s : State)

theorem readings_moveTo {new : StationState} (h : new ≠ .breakaway) : (s.moveTo new).readings = s.readings := by
  by_cases same : s.st = new
  · rw [moveTo_eq s same]
  · obtain ⟨sample, overCurrent, missCount⟩ :=
      readings_onMove s.reg s.st new s.speed.speed (s.moveTo new).limiter.allowance
    have gen : (s.moveTo new).gen.blocked = s.gen.blocked := by
      rw [moveTo_gen same]
      split <;> rfl
    have limiter := moveTo_limiter same
    unfold State.readings
    rw [moveTo_speed same, if_neg h, moveTo_feedback same, gen, limiter, moveTo_reg same, sample, overCurrent, missCount,
      moveTo_clock, moveTo_loader, moveTo_monitor, moveTo_inputs, moveTo_free, moveTo_pending, moveTo_actions]
    rfl

theorem carries_moveTo {cs : List Cause} {new : StationState} (h : new ≠ .breakaway) : Carries cs s (s.moveTo new) where
  readings := readings_moveTo s h
  latched := fun c _ => moveTo_latched s new c
  field := fun _ _ own => moveTo_causeField_other s new own

theorem carries_originTrip (cs : List Cause) (c detail) : Carries cs s (s.originTrip c detail) := by
  have readings : (s.originBegun c detail).readings = s.readings := by
    simp [State.readings, State.originBegun, State.setG, State.beginTrip, State.openRecord, State.composeTrip]
  have begun : Carries cs s (s.originBegun c detail) := .of_readings readings (originBegun_causes s c detail)
  rw [originTrip_eq]
  refine tripMove_keeps (P := Carries cs s) _ (fun h => h.trans (.of_readings rfl rfl))
    (fun u new trips h => h.trans (carries_moveTo u ?_)) begun
  rcases trips with rfl | rfl <;> decide

theorem carries_subsequentCause (cs : List Cause) (c carried) : Carries cs s (s.subsequentCause c carried) := by
  refine subsequentCause_cases s (P := Carries cs s) c carried fun u recorded => ?_
  have kept : Carries cs s u := by
    rcases recorded with rfl | rfl
    · exact .refl cs _
    · exact .of_readings rfl rfl
  exact ⟨kept, fun _ => kept.trans (carries_moveTo u (by decide))⟩

theorem recompute_readings : s.recompute.readings = s.readings := rfl

theorem installClamp_readings (o p) : (s.installClamp o p).readings = s.readings := by
  unfold State.installClamp
  split
  · rfl
  · split
    · exact recompute_readings _
    · rfl

theorem composeClamp_readings (c) : (s.composeClamp c).readings = s.readings := by
  unfold State.composeClamp
  dsimp only
  split
  · exact installClamp_readings s _ _
  · rfl

theorem carries_risen (c : Cause) : Carries [c] s (s.risen c) where
  readings := rfl
  latched := fun d hd => by
    rw [risen_causeField_ne s (by simpa using hd)]
    exact ⟨rfl, rfl⟩
  field := fun d hd _ => risen_causeField_ne s (by simpa using hd)

/-- What acts on a rise leaves the readings, and every cause but the state's own. -/
theorem carries_actOnRise (cs : List Cause) (c detail) : Carries cs s (s.actOnRise c detail) := by
  unfold State.actOnRise
  split
  · split
    · exact carries_originTrip s cs c detail
    · split
      · exact carries_subsequentCause s cs c none
      · exact .refl cs s
  · exact .of_stays (stays_composeClamp s c) (composeClamp_readings s c)
  · exact .refl cs s

theorem carries_rise (c detail) : Carries [c] s (s.rise c detail) :=
  (carries_risen s c).trans (carries_actOnRise _ [c] c detail)

theorem ceases_only (c : Cause) : CausesOnly [c] s (s.cease c) :=
  ⟨rfl, fun _ hd => CauseSet.get_set_ne _ _ (by simpa using hd)⟩

/-- What presenting a cause comes to, R109, R111. -/
theorem present_cases {P : State → Prop} (c : Cause) (cond detail) (same : P s)
    (ceases : s.st.joined = true → cond = false → P (s.cease c))
    (rises : s.st.joined = true → cond = true → (s.causeField c).present = false → P (s.rise c detail)) :
    P (s.present c cond detail) := by
  cases joined : s.st.joined with
  | false => rwa [present_unjoined s c cond detail joined]
  | true =>
    cases met : cond with
    | false =>
      rw [present_ceases s detail joined rfl]
      exact ceases joined met
    | true =>
      cases absent : (s.causeField c).present with
      | true => rwa [present_present s detail rfl absent]
      | false =>
        rw [present_rises s detail joined rfl absent]
        exact rises joined met absent

theorem carries_present (c cond detail) : Carries [c] s (s.present c cond detail) :=
  present_cases s (P := Carries [c] s) c cond detail (.refl _ s) (fun _ _ => .of_only (ceases_only s c))
    fun _ _ _ => carries_rise s c detail

theorem rise_field {c : Cause} (detail) (own : c ∉ Cause.ofStates) : (s.rise c detail).causeField c
    = { present := true, latched := true, count := min 255 ((s.causeField c).count + 1) } := by
  rw [← risen_causeField]
  exact (carries_actOnRise (s.risen c) [] c detail).field c (by simp) own

/-- From the end of joining a cause that belongs to no state is present as its condition stands, R109, R111. -/
theorem present_field {c : Cause} (cond detail) (joined : s.st.joined = true) (own : c ∉ Cause.ofStates) :
    ((s.present c cond detail).causeField c).present = cond := by
  cases met : cond with
  | false =>
    rw [present_ceases s detail joined rfl]
    exact congrArg CauseField.present (CauseSet.get_cease _ c)
  | true =>
    cases absent : (s.causeField c).present with
    | true => rwa [present_present s detail rfl absent]
    | false => rw [present_rises s detail joined rfl absent, rise_field s detail own]

end Carries

section Undisturbed

/-- From `s` to `t` the station state, the regulator and the output lines stand. -/
structure Undisturbed (s t : State) : Prop where
  seq : t.seq = s.seq
  reg : t.reg = s.reg
  lines : t.lines = s.lines

/-- From `s` the station came to `t` by a move to another of the states of a trip, R115, R122. -/
def Trips (s t : State) : Prop :=
  ∃ (u : State) (new : StationState), (new = .tripDecel ∨ new = .tripped) ∧ s.st ≠ new ∧ u.st ≠ new ∧ t = u.moveTo new

variable {s t : State}

theorem Undisturbed.st (h : Undisturbed s t) : t.st = s.st := congrArg Sequencer.station h.seq

theorem Undisturbed.refl (s : State) : Undisturbed s s := ⟨rfl, rfl, rfl⟩

theorem Undisturbed.trans {u : State} (h : Undisturbed s t) (k : Undisturbed t u) : Undisturbed s u :=
  ⟨k.seq.trans h.seq, k.reg.trans h.reg, k.lines.trans h.lines⟩

theorem Undisturbed.of_stays (h : Stays s t) : Undisturbed s t := ⟨h.seq, h.reg, h.lines⟩

/-- A state of a trip: the converter disabled, and neither jam nor surge watched. -/
theorem Trips.effects (h : Trips s t) : (t.st = .tripDecel ∨ t.st = .tripped) ∧ t.st ≠ s.st ∧ t.lines.convEn = false
    ∧ t.timers.jam = none ∧ (t.causeField .jam).present = false ∧ (t.causeField .surge).present = false := by
  obtain ⟨u, new, trips, left, ne, rfl⟩ := h
  have quiet : new.cruising = false ∧ new.lines.convEn = false := by rcases trips with rfl | rfl <;> decide
  rw [st_moveTo, moveTo_lines ne, moveTo_jam ne]
  refine ⟨trips, Ne.symm left, quiet.2, ?_, moveTo_ended ne ?_, moveTo_ended ne ?_⟩
  · simp [State.jamHolds, quiet.1]
  · simp [StationState.endedCauses, quiet.1]
  · simp [StationState.endedCauses, quiet.1]

theorem Trips.not_cruising (h : Trips s t) : t.st.cruising = false := by
  obtain ⟨trips, -⟩ := h.effects
  rcases trips with st | st <;> rw [st] <;> rfl

theorem trips_originTrip (c detail) (can : s.st.canTrip = true) : Trips s (s.originTrip c detail) := by
  have can' : (s.originBegun c detail).st.canTrip = true := by rwa [originBegun_st]
  obtain ⟨u, ne, last⟩ := tripMove_last _ can'
  refine ⟨u, _, ?_, fun same => ?_, ne, last⟩
  · unfold tripTarget
    split <;> simp
  · rw [originBegun_st] at same
    rw [same] at can
    unfold tripTarget at can
    split at can <;> cases can

/-- A rise disturbs the station by a trip alone, or by the return from CLEARING to TRIPPED, R111, R122. -/
theorem rise_outcome (s : State) (c detail) : Undisturbed s (s.rise c detail) ∨ Trips s (s.rise c detail) := by
  have risen : Undisturbed s (s.risen c) := ⟨rfl, rfl, rfl⟩
  by_cases moves : s.actionOf c = .trip ∧ (s.st.canTrip = true ∨ s.st = .clearing)
  · obtain ⟨action, -⟩ := moves
    refine rise_trip_cases s (P := fun t => Undisturbed s t ∨ Trips s t) detail action (fun can => .inr ?_) ?_ (.inl risen)
    · exact trips_originTrip (s := s.risen c) c detail can
    · refine subsequentCause_cases _ (P := fun t => Undisturbed s t ∨ Trips s t) c none fun u recorded => ?_
      have kept : Undisturbed s u := by
        rcases recorded with rfl | rfl
        · exact risen
        · exact ⟨rfl, rfl, rfl⟩
      refine ⟨.inl kept, fun clearing => .inr ⟨u, .tripped, .inr rfl, ?_, ?_, rfl⟩⟩
      · rw [show s.st = .clearing from clearing]
        decide
      · rw [kept.st, show s.st = .clearing from clearing]
        decide
  · exact .inl (risen.trans (.of_stays (stays_rise s detail moves)))

theorem present_outcome (s : State) (c cond detail) :
    Undisturbed s (s.present c cond detail) ∨ Trips s (s.present c cond detail) :=
  present_cases s (P := fun t => Undisturbed s t ∨ Trips s t) c cond detail (.inl (.refl s))
    (fun _ _ => .inl ⟨rfl, rfl, rfl⟩) fun _ _ _ => rise_outcome s c detail

end Undisturbed

end Sys2Proof.Machine
end

section
/-!
PROOFS. The speed unit at a tach edge (R46, R47, R50, R70): the own events that fall due before the edge, the edge itself,
and what a change of speed leads to.
-/

namespace Sys2Proof.Machine

section Due

variable (s : State)

/-- Of several own events due at one instant the free choice names one, log 5. -/
theorem nextDue_several (several : 2 ≤ s.dueEvents.length) :
    ∃ c ∈ s.dueEvents, s.nextDue = some (c, { s with free := s.free + 1 }) := by
  unfold State.nextDue
  split
  · next none => simp [none] at several
  · next one => simp [one] at several
  · next c rest _ due =>
    have inside : Config.freeChoice s.free % (c :: rest).length < (c :: rest).length := Nat.mod_lt _ (by simp)
    refine ⟨_, ?_, rfl⟩
    rw [due, List.getD_eq_getElem _ _ inside]
    exact List.getElem_mem inside

/-- An own event that is due is taken as its command says. -/
theorem takeOwn_due {c : Instr} (t : State) (due : c ∈ s.dueEvents) : t.takeOwn c = landed t (exec c t) := by
  have own := (dueEvents_sublist s).subset due
  simp only [ownEvents, List.mem_cons, List.not_mem_nil, or_false] at own
  rcases own with rfl | rfl | rfl | rfl | rfl | rfl | rfl | rfl | rfl | rfl | rfl | rfl | rfl | rfl | rfl | rfl | rfl
    | rfl | rfl | rfl | rfl | rfl <;> rfl

theorem takeDue_none (n : Nat) (h : s.dueEvents = []) : s.takeDue (n + 1) = s := by
  simp only [State.takeDue, State.nextDue, h]

theorem takeDue_one (n : Nat) {c : Instr} {t : State} (one : s.dueEvents = [c]) (taken : exec c s = .next t) :
    s.takeDue (n + 1) = t.takeDue n := by
  have due : c ∈ s.dueEvents := by simp [one]
  simp only [State.takeDue, State.nextDue, one, takeOwn_due s s due, taken, landed]

theorem takeDue_several (n : Nat) (several : 2 ≤ s.dueEvents.length) : ∃ c ∈ s.dueEvents, ∀ t,
    exec c { s with free := s.free + 1 } = .next t → s.takeDue (n + 1) = t.takeDue n := by
  obtain ⟨c, due, next⟩ := nextDue_several s several
  refine ⟨c, due, fun t taken => ?_⟩
  simp only [State.takeDue, next, takeOwn_due s _ due, taken, landed]

end Due

section Edge

theorem edgeQualifies_rising {w : Settings} (edge : Edge) (h : w.edgeSelect = 0) :
    w.edgeQualifies edge = true ↔ edge = .rising := by
  simp [Settings.edgeQualifies, h]

theorem edgeQualifies_falling {w : Settings} (edge : Edge) (h : w.edgeSelect = 1) :
    w.edgeQualifies edge = true ↔ edge = .falling := by
  simp [Settings.edgeQualifies, h]

theorem edgeQualifies_both {w : Settings} (edge : Edge) (h : w.edgeSelect = 2) : w.edgeQualifies edge = true := by
  simp [Settings.edgeQualifies, h]

variable (u : State) (edge : Edge)

/-- The speed unit after an accepted edge, R47. -/
def State.edgeAccepted (u : State) : State :=
  u.onSpeed (SpeedUnit.accept u.cfg.tachConstant)

theorem tachEdge_accepted (runs : u.st.blocksRun = true) (kind : u.cfg.edgeQualifies edge = true)
    (apart : 50 ≤ u.speed.capture) : u.tachEdge edge = u.edgeAccepted.speedChanged.checkRotation := by
  refine if_neg ?_
  simp [runs, kind, apart]

theorem tachEdge_ignored (h : u.st.blocksRun = false ∨ u.cfg.edgeQualifies edge = false ∨ u.speed.capture < 50) :
    u.tachEdge edge = u := by
  refine if_pos ?_
  rcases h with h | h | h <;> simp [h]

end Edge

section SpeedChanged

variable (s : State)

/-- The state with the speed band of its speed in hand, before the allowance follows, R70. -/
def State.banded (s : State) : State :=
  s.onLimiter fun l => { l with band := s.cfg.bandOf s.speed.speed }

/-- Where the jam conditions do not hold the timer stops and JAM ends, R80, R81. -/
theorem judgeJam_idle (h : s.jamHolds = false) : s.judgeJam
    = (s.onTimers fun t => { t with jam := none }).onCauses fun t => t.cease .jam := by
  unfold State.jamHolds at h
  simp only [State.judgeJam, h]
  rfl

theorem carries_recompute (cs : List Cause) : Carries cs s s.recompute :=
  .of_stays (stays_recompute s) (recompute_readings s)

theorem carries_judgeJam (cs : List Cause) : Carries cs s s.judgeJam :=
  .of_stays (stays_judgeJam s) rfl

/-- The band is reselected at a change of speed and the allowance recomputed, R70. -/
theorem carries_reselectBand (cs : List Cause) : Carries cs s.banded s.reselectBand := by
  unfold State.reselectBand
  split
  · next same =>
    refine .of_readings ?_ rfl
    unfold State.banded State.readings
    rw [onLimiter_limiter, same]
    rfl
  · refine Carries.trans ?_ (carries_recompute _ cs)
    exact .of_readings rfl rfl

/-- The end of breakaway by rotation, with GROUP_SHORT evaluated, R32, R35. -/
theorem carries_checkRotation : Carries [.groupShort] s s.checkRotation := by
  unfold State.checkRotation
  split
  · exact (carries_moveTo s (mode_ne_breakaway _)).trans (carries_present _ _ _ _)
  · exact .refl _ s

/-- A change of speed, up to the reselected band. -/
def State.overspeedJudged (s : State) : State :=
  (s.present .overspeed (decide (s.cfg.overspeedLimit < s.speed.speed)) 0).banded

theorem carries_rotation : Carries [.groupShort] s.overspeedJudged s.speedChanged.checkRotation :=
  ((carries_reselectBand _ _).trans (carries_judgeJam _ _)).trans (carries_checkRotation _)

/-- What a change of speed, with the rotation it completes, leaves: the speed unit and the surroundings as they were,
OVERSPEED and the band as the speed gives them (R50, R70). -/
theorem speedChanged_effects : let t := s.speedChanged.checkRotation
    t.speed = s.speed
      ∧ (s.st.joined = true → (t.causeField .overspeed).present = decide (s.cfg.overspeedLimit < s.speed.speed))
      ∧ t.limiter.band = s.cfg.bandOf s.speed.speed
      ∧ t = { t with clock := s.clock, loader := s.loader, monitor := s.monitor, inputs := s.inputs, free := s.free
                     pending := s.pending } := by
  have judged := carries_present s .overspeed (decide (s.cfg.overspeedLimit < s.speed.speed)) 0
  have turned := carries_rotation s
  have outer : s.overspeedJudged.clock = s.clock ∧ s.overspeedJudged.loader = s.loader
      ∧ s.overspeedJudged.monitor = s.monitor ∧ s.overspeedJudged.inputs = s.inputs
      ∧ s.overspeedJudged.free = s.free ∧ s.overspeedJudged.pending = s.pending :=
    ⟨congrArg Readings.clock judged.readings, judged.loader, congrArg Readings.monitor judged.readings,
      congrArg Readings.inputs judged.readings, congrArg Readings.free judged.readings,
      congrArg Readings.pending judged.readings⟩
  obtain ⟨clock, loader, monitor, inputs, free, pending⟩ := outer
  dsimp only
  refine ⟨turned.speed.trans judged.speed, fun joined => ?_, ?_, ?_⟩
  · rw [turned.field .overspeed (by decide) (by decide)]
    exact present_field s _ 0 joined (by decide)
  · rw [turned.band]
    show Settings.bandOf (State.cfg (s.present _ _ _)) (State.speed (s.present _ _ _)).speed = _
    rw [judged.cfg, judged.speed]
  · rw [← clock, ← loader, ← monitor, ← inputs, ← free, ← pending]
    exact turned.outer

/-- Outside BREAKAWAY, RUN and CREEP a speed within the limit and of the same band ends OVERSPEED and is no jam. -/
theorem speedChanged_calm (joined : s.st.joined = true) (notBreakaway : s.st ≠ .breakaway) (still : s.st.cruising = false)
    (within : s.speed.speed ≤ s.cfg.overspeedLimit) (band : s.limiter.band = s.cfg.bandOf s.speed.speed) :
    s.speedChanged.checkRotation = { s with
      timers := { s.timers with jam := none }
      cause := { s.cause with causes := (s.cause.causes.cease .overspeed).cease .jam } } := by
  have ceased : s.present .overspeed (decide (s.cfg.overspeedLimit < s.speed.speed)) 0 = s.cease .overspeed :=
    present_ceases s 0 joined (by simpa using within)
  have reselected : (s.cease .overspeed).reselectBand = s.cease .overspeed := if_pos band.symm
  have noJam : (s.cease .overspeed).jamHolds = false := by
    show (s.st.cruising && _) = false
    rw [still]
    rfl
  have judged : s.speedChanged = { s with
      timers := { s.timers with jam := none }
      cause := { s.cause with causes := (s.cause.causes.cease .overspeed).cease .jam } } := by
    unfold State.speedChanged
    rw [ceased, reselected, judgeJam_idle _ noJam]
    rfl
  rw [judged]
  exact if_neg fun turns => notBreakaway turns.1

end SpeedChanged

theorem joined_blocksRun {st : StationState} (h : st.joined = true) : st.blocksRun = true := by
  cases st <;> simp [StationState.joined] at h <;> rfl

/-- Settles O14. -/
theorem tachEdgeMeasuresSpeed : Obligations.TachEdgeMeasuresSpeed := by
  unfold Obligations.TachEdgeMeasuresSpeed
  refine ⟨⟨fun edge w => ⟨edgeQualifies_rising edge, edgeQualifies_falling edge, edgeQualifies_both edge⟩,
    fun n s => ⟨rfl, rfl, rfl, takeDue_none s n, fun c t => takeDue_one s n, takeDue_several s n⟩, ?_⟩, ?_, ?_⟩
  · rintro edge elapsed s u rfl runs kind apart
    obtain ⟨speed, overspeed, band, outer⟩ := speedChanged_effects (s.pass elapsed).edgeAccepted
    refine ⟨_, congrArg Host.Outcome.next (tachEdge_accepted _ edge runs kind apart), speed, ?_, ?_, outer⟩
    · rw [speed]
      exact overspeed
    · rw [speed]
      exact band
  · rintro edge elapsed v s u rfl joined kind apart notBreakaway still rfl within band
    refine congrArg Host.Outcome.next ((tachEdge_accepted _ edge (joined_blocksRun joined) kind apart).trans ?_)
    exact speedChanged_calm (s.pass elapsed).edgeAccepted joined notBreakaway still within band
  · rintro edge elapsed s u rfl h
    exact congrArg Host.Outcome.next (tachEdge_ignored _ edge h)

end Sys2Proof.Machine
end

section
/-!
PROOFS. The carrier period (R52, R66) and the balance trim (R63, R64): the latch with its miss test, the end of the
on-count, and the trim that a point of SHARE composition leaves.
-/

namespace Sys2Proof.Machine

section Carrier

variable (s : State)

/-- The miss count after the miss test of a period start, R66. -/
def State.missesNow (s : State) : Nat :=
  missCountAfter s.lines.convEn s.gen.answered s.reg.missCount

/-- The counts latched and the strobe issued at a period start, with the miss test made, R52, R66. -/
def State.periodStarted (s : State) : State :=
  (s.onGen (Generator.latch s.lines.convEn)).onReg fun r => { r with missCount := s.missesNow }

theorem missesNow_eq : s.missesNow
    = if s.lines.convEn = true ∧ s.gen.answered = false then min 3 (s.reg.missCount + 1) else 0 := by
  simp [State.missesNow, missCountAfter, bump]

theorem latch_eq (enabled : Bool) (g : Generator) {h : Nat}
    (count : h = if enabled then g.demand * g.period.getD 0 / 1000 else 0) : g.latch enabled = { g with
      onCount := h, offCount := g.period.getD 0 - h, phase := if h = 0 then .off else .on, position := 0
      strobes := g.strobes + 1, answered := false } := by
  subst count
  rfl

theorem exec_periodStart (runs : s.st.blocksRun = true) : exec .conductionPeriodStart s
    = .next (if s.missesNow = 3 then s.periodStarted.present .sampleLoss true 0 else s.periodStarted) := by
  refine congrArg Host.Outcome.next (if_neg ?_)
  simp [runs]

theorem exec_onEnd_counting (runs : s.st.blocksRun = true) (off : 0 < s.gen.offCount) :
    exec .conductionOnEnd s = .next (s.onGen fun g => { g with phase := .off }) :=
  congrArg Host.Outcome.next (if_pos (by simp [runs, off]))

theorem exec_onEnd_full (off : s.gen.offCount = 0) : exec .conductionOnEnd s = .next s :=
  congrArg Host.Outcome.next (if_neg (by simp [off]))

end Carrier

/-- Settles O20: a SAMPLE_LOSS that trips the station leaves the latched counts. -/
theorem carrierPeriod : Obligations.CarrierPeriod := by
  unfold Obligations.CarrierPeriod
  refine ⟨fun s h missed runs count tested => ?_, fun s runs => ⟨exec_onEnd_counting s runs, exec_onEnd_full s⟩⟩
  rw [← missesNow_eq] at tested
  subst tested
  have latched := latch_eq s.lines.convEn s.gen count
  rw [exec_periodStart s runs]
  refine ⟨fun fewer => ?_, fun third => ?_⟩
  · rw [if_neg fewer, State.periodStarted, State.onGen, State.onReg, latched]
  · have carried := carries_present s.periodStarted .sampleLoss true 0
    obtain ⟨-, onCount, offCount, answered, position, strobes⟩ := carried.gen
    have started : s.periodStarted.gen = s.gen.latch s.lines.convEn := rfl
    rw [started, latched] at onCount offCount answered position strobes
    rw [if_pos third]
    exact ⟨_, rfl, onCount, offCount, position, strobes, answered, carried.missCount.trans third,
      fun joined => present_field s.periodStarted true 0 joined (by decide)⟩

section Trim

variable (s : State)

theorem sum_memberAllowance (members : List Station) : (((members.map s.memberAllowance).sum : Nat) : Int)
    = (members.map fun n => (s.memberAllowance n : Int)).sum := by
  rw [Nat.cast_list_sum, List.map_map]
  rfl

/-- A member's allowance as an integer, R64. -/
theorem memberAllowance_cast (n : Station) : (s.memberAllowance n : Int)
    = if n = s.loader.station then (s.limiter.allowance : Int)
      else match (s.entry n).share with | some p => (p.allowance.toNat : Int) | none => 0 := by
  unfold State.memberAllowance
  split
  · rfl
  · cases (s.entry n).share <;> rfl

/-- The trim over the balancing set, with the members' allowances as integers, R64: 0 for a lone member and for a sum of
allowances of 0. -/
theorem trimNow_eq {allowanceOf : Station → Int} (same : ∀ n, allowanceOf n = s.memberAllowance n) :
    let sum := (s.balancingSet.map allowanceOf).sum
    (s.balancingSet.length ≤ 1 ∨ sum = 0 → s.trimNow = 0)
      ∧ (2 ≤ s.balancingSet.length → sum ≠ 0 → s.trimNow
          = max (-(s.cfg.trimLimit : Int)) (min s.cfg.trimLimit (Int.tdiv (s.cfg.kb * (Int.fdiv
              ((s.balancingSet.map s.memberFeedback).sum * s.limiter.allowance) sum - s.reg.feedback)) 1024))) := by
  obtain rfl : allowanceOf = fun n => (s.memberAllowance n : Int) := funext same
  dsimp only
  rw [← sum_memberAllowance]
  refine ⟨fun none => if_pos ?_, fun several allowed => if_neg ?_⟩ <;> omega

theorem exec_shareTimerExpiry (runs : s.timers.share.isSome = true) : exec .shareTimerExpiry s
    = .next (s.onTimers fun t => { t with share := some s.cfg.sharePeriodUs }).composeShare := by
  refine congrArg Host.Outcome.next (if_neg ?_)
  simp [Option.isNone_iff_eq_none, ← Option.isSome_iff_ne_none, runs]

/-- A station in the balancing set recomputes its trim at a point of SHARE composition, R63. -/
theorem composeShare_trim (member : s.inBalance s.loader.station = true) : s.composeShare.reg.trim = s.trimNow :=
  if_pos member

end Trim

/-- Settles O29. -/
theorem balanceTrim : Obligations.BalanceTrim := by
  unfold Obligations.BalanceTrim
  intro s runs member
  have recomputed :=
    composeShare_trim (s.onTimers fun t => { t with share := some s.cfg.sharePeriodUs }) member
  refine ⟨_, exec_shareTimerExpiry s runs, ?_, fun n => ?_⟩
  · rw [recomputed]
    obtain ⟨none, some⟩ := trimNow_eq s fun n => (memberAllowance_cast s n).symm
    refine ⟨fun h => none (h.imp_left fun alone => ?_), some⟩
    rw [alone]
    exact Nat.le_refl 1
  · rw [mem_balancingSet, State.inBalance, Bool.and_eq_true, List.contains_iff_mem]
    split <;> rfl

end Sys2Proof.Machine
end

section
/-!
PROOFS. The control step (R54, R56 to R62, R66, R71 to R73, R80, R83): stages 1 and 2 with the causes that they present,
and the speed and current loops of stages 3 to 7.
-/

namespace Sys2Proof.Machine

section Stages

variable (s : State) (sample : Word)

/-- The sample taken: the period answered and F read, before OVERCURRENT is presented (R54, R57, R66). -/
def State.sampled (s : State) (sample : Word) : State :=
  s.answerPeriod.onReg (Regulator.takeSample s.cfg sample)

/-- Stage 1 as a whole, R57. -/
def State.sensed (s : State) (sample : Word) : State :=
  (s.sampled sample).present .overcurrent (s.sampled sample).reg.overCurrent sample.toInt

/-- The overload account and the limit moved by one step, R72, R73. -/
def State.heated (s : State) : State :=
  s.onLimiter (Limiter.heat s.cfg s.reg.feedback s.periodUs)

/-- The account moved and OVERLOAD presented, R73. -/
def State.loaded (s : State) : State :=
  s.heated.present .overload s.heated.limiter.limit s.reg.feedback

/-- Where the jam conditions hold the timer starts from 0 or runs on, R80. -/
theorem judgeJam_running (h : s.jamHolds = true) : s.judgeJam = { s with timers := { s.timers with
    jam := if s.timers.jam.isNone && !(s.causeField .jam).present then some 0 else s.timers.jam } } := by
  unfold State.jamHolds at h
  simp only [State.judgeJam, h]
  rfl

/-- The jam conditions judged once are judged. -/
theorem judgeJam_twice : s.judgeJam.judgeJam = s.judgeJam := by
  have same : s.judgeJam.jamHolds = s.jamHolds := rfl
  cases holds : s.jamHolds with
  | false =>
    rw [judgeJam_idle _ (same.trans holds), judgeJam_idle s holds]
    rfl
  | true =>
    have started : ¬(s.judgeJam.timers.jam.isNone && !(s.judgeJam.causeField .jam).present) = true := by
      rw [judgeJam_running s holds]
      show ¬(Option.isNone (if _ then some 0 else s.timers.jam) && !(s.causeField .jam).present) = true
      split
      · simp
      · next running => exact running
    rw [judgeJam_running _ (same.trans holds), if_neg started]

theorem stageTwo_eq : s.stageTwo = s.loaded.recompute.checkSurge := by
  show (s.loaded.recompute.judgeJam).checkSurge = _
  rw [recompute_eq, judgeJam_twice]

/-- Stages 3 to 7, R58 to R62. -/
def State.finished (s : State) : State :=
  s.regulate.handOver

/-- The state after stages 1 and 2. -/
def State.limited (s : State) (sample : Word) : State :=
  (s.sensed sample).loaded.recompute.checkSurge

theorem exec_sample (runs : s.st.blocksRun = true) :
    exec (.currentSampleArrival sample) s = .next (s.limited sample).finished := by
  rw [State.limited, ← stageTwo_eq]
  exact congrArg Host.Outcome.next (if_pos runs)

theorem loaded_only : CausesOnly [.overload] s.heated s.loaded :=
  presented_only s.heated .overload _ _ fun _ _ => .inl rfl

end Stages

section Surge

variable (s : State)

/-- F above the surge reference, R83. -/
def State.surgeExcess (s : State) : Int :=
  s.reg.feedback - s.limiter.surgeReference

/-- SURGE rises: watched, not present, and F above the reference by more than the threshold, R83. -/
def State.surges (s : State) : Prop :=
  s.st.cruising = true ∧ (s.causeField .surge).present = false ∧ (s.cfg.surgeThreshold : Int) < s.surgeExcess

theorem cruising_rows {st : StationState} (h : st.cruising = true) : st.joined = true ∧ st.canTrip = true := by
  cases st <;> simp [StationState.cruising] at h <;> exact ⟨rfl, rfl⟩

theorem checkSurge_eq : s.checkSurge = if s.st.cruising && decide ((s.cfg.surgeThreshold : Int) < s.surgeExcess)
    then s.present .surge true s.surgeExcess else s := rfl

theorem checkSurge_rises (h : s.surges) : s.checkSurge = s.rise .surge s.surgeExcess := by
  obtain ⟨cruising, absent, above⟩ := h
  rw [checkSurge_eq, if_pos (by simp [cruising, above])]
  exact present_rises s _ (cruising_rows cruising).1 rfl absent

theorem checkSurge_calm (h : ¬s.surges) : s.checkSurge = s := by
  rw [checkSurge_eq]
  split
  · next watched =>
    rw [Bool.and_eq_true, decide_eq_true_eq] at watched
    refine present_present s _ rfl ?_
    by_contra absent
    exact h ⟨watched.1, by simpa using absent, watched.2⟩
  · rfl

theorem checkSurge_unwatched (h : s.st.cruising = false) : s.checkSurge = s :=
  checkSurge_calm s fun surges => by simp [surges.1] at h

theorem carries_checkSurge : Carries [.surge] s s.checkSurge := by
  by_cases h : s.surges
  · rw [checkSurge_rises s h]
    exact carries_rise s _ _
  · rw [checkSurge_calm s h]
    exact .refl _ s

theorem checkSurge_outcome : Undisturbed s s.checkSurge ∨ Trips s s.checkSurge := by
  by_cases h : s.surges
  · rw [checkSurge_rises s h]
    exact rise_outcome s _ _
  · rw [checkSurge_calm s h]
    exact .inl (.refl s)

/-- A SURGE that clamps or alerts leaves the station as it is, R112. -/
theorem rise_quiet {c : Cause} (detail) (notJam : c ≠ .jam) (action : s.actionOf c ≠ .trip) :
    (s.rise c detail).st = s.st ∧ ((s.rise c detail).causeField c).present = true := by
  have stays := stays_rise s detail fun trips => action trips.1
  refine ⟨stays.st, ?_⟩
  rw [stays.causeField _ notJam, risen_causeField]

/-- While not MUTE, a rise of CLAMP action puts its CLAMP into the slot and does nothing else, R86, R112. -/
theorem rise_clamp {c : Cause} (detail) (action : s.actionOf c = .clamp) (loud : s.link.mute = false) :
    s.rise c detail = (s.risen c).onLink fun l => { l with clampSlot := some (s.clampOf c) } := by
  have action : (s.risen c).actionOf c = .clamp := action
  rw [rise_eq, State.actOnRise, action]
  exact composeClamp_loud _ _ loud

/-- While not MUTE, a rise that does not trip leaves everything but its cause and the link. -/
theorem rise_loud {c : Cause} (detail) (action : s.actionOf c ≠ .trip) (loud : s.link.mute = false) :
    CausesOnly [c] (s.onLink fun _ => (s.rise c detail).link) (s.rise c detail) := by
  have risen : ∀ d, d ∉ [c] → (s.risen c).causeField d = s.causeField d := fun d hd =>
    risen_causeField_ne s (by simpa using hd)
  cases row : s.actionOf c with
  | trip => exact absurd row action
  | clamp =>
    rw [rise_clamp s detail row loud]
    exact ⟨rfl, risen⟩
  | alert =>
    rw [rise_alert s detail row]
    exact ⟨rfl, risen⟩

end Surge

section Loops

variable (u : State)

theorem toNat_held (m : Nat) (x : Int) : ((held 0 m x).toNat : Int) = max 0 (min (m : Int) x) := by
  unfold held
  omega

theorem held_le (m : Nat) (x : Int) : (held 0 m x).toNat ≤ m := by
  unfold held
  omega

theorem slew_bounds (limit target a reference : Nat) : slew limit target a reference ≤ a
    ∧ slew limit target a reference ≤ reference + limit
    ∧ min a (reference - limit) ≤ slew limit target a reference := by
  unfold slew
  split <;> omega

theorem slew_allowance (limit a reference : Nat) : slew limit a a reference = min a (reference + limit) := by
  unfold slew
  split <;> omega

theorem slew_cast (limit target a reference : Nat) : (slew limit target a reference : Int)
    = min (a : Int) (if (reference : Int) ≤ target then min (target : Int) (reference + limit)
        else max (target : Int) (reference - limit)) := by
  unfold slew
  split_ifs <;> omega

theorem ramp_eq (rise fall target setpoint : Nat) : ramp rise fall target setpoint
    = if setpoint ≤ target then min target (setpoint + rise) else max target (setpoint - fall) := by
  unfold ramp
  split_ifs <;> omega

/-- What stages 3 to 7 alter. -/
theorem finished_eq : u.finished = { u with
    reg := u.finished.reg, gen := { u.gen with demand := u.finished.reg.conduction } } := by
  unfold State.finished State.handOver State.regulate
  dsimp only
  split
  · rfl
  · split <;> rfl

theorem finished_limiter : u.finished.limiter = u.limiter := by rw [finished_eq]
theorem finished_cause : u.finished.cause = u.cause := by rw [finished_eq]
theorem finished_timers : u.finished.timers = u.timers := by rw [finished_eq]
theorem finished_link : u.finished.link = u.link := by rw [finished_eq]
theorem finished_seq : u.finished.seq = u.seq := by rw [finished_eq]
theorem finished_st : u.finished.st = u.st := congrArg Sequencer.station (finished_seq u)

theorem finished_causeField (c : Cause) : u.finished.causeField c = u.causeField c := by
  unfold State.causeField
  rw [finished_cause]

/-- Stages 3 to 7 leave the readings and the trim, and keep the allowance of the step, R55, R61. -/
theorem finished_kept : u.finished.reg.feedback = u.reg.feedback ∧ u.finished.reg.sample = u.reg.sample
    ∧ u.finished.reg.overCurrent = u.reg.overCurrent ∧ u.finished.reg.missCount = u.reg.missCount
    ∧ u.finished.reg.trim = u.reg.trim ∧ u.finished.reg.prevAllowance = u.limiter.allowance := by
  unfold State.finished State.handOver State.regulate
  dsimp only
  split
  · exact ⟨rfl, rfl, rfl, rfl, rfl, rfl⟩
  · split <;> exact ⟨rfl, rfl, rfl, rfl, rfl, rfl⟩

/-- With the converter disabled the regulator is blocked, R62. -/
theorem finished_blocked (h : u.lines.convEn = false) :
    u.finished.reg = { u.reg.blocked with prevAllowance := u.limiter.allowance } := by
  simp [State.finished, State.handOver, State.regulate, h]

/-- Stages 5 and 6 in BREAKAWAY, R60, R61. -/
theorem finished_breakaway (enabled : u.lines.convEn = true) (st : u.st = .breakaway) : u.finished.reg
    = { ({ u.reg with reference := slew u.cfg.slewLimit u.limiter.allowance u.limiter.allowance u.reg.reference }
        : Regulator).currentLoop u.cfg with prevAllowance := u.limiter.allowance } := by
  simp [State.finished, State.handOver, State.regulate, enabled, st]

/-- The regulator after stages 3 to 6 in RUN, CREEP and DECEL, R58 to R61: `target` of the speed, `a` the allowance. -/
def Regulator.looped (w : Settings) (period target speed a : Nat) (r : Regulator) : Regulator :=
  let l := r.speedLoop w period target speed a
  ({ l with reference := slew w.slewLimit (l.balancedTarget a) a r.reference } : Regulator).currentLoop w

/-- Stages 3 to 6 outside BREAKAWAY, R58 to R61. -/
theorem finished_enabled (enabled : u.lines.convEn = true) (st : u.st ≠ .breakaway) : u.finished.reg
    = { u.reg.looped u.cfg u.periodUs u.stateTarget u.speed.speed u.limiter.allowance with
        prevAllowance := u.limiter.allowance } := by
  simp only [State.finished, State.handOver, State.regulate, enabled, Bool.not_true, Bool.false_eq_true, if_false,
    if_neg st]
  rfl

/-- The current loop's figures, R61, as integers. -/
theorem currentLoop_eq (w : Settings) (r : Regulator) : let t := r.currentLoop w
    let ec : Int := r.reference - r.feedback
    (t.currentIntegral : Int) = max 0 (min (w.maxConduction : Int) (r.currentIntegral + Int.tdiv (w.kic * ec) 1024))
      ∧ (t.conduction : Int)
        = max 0 (min (w.maxConduction : Int) (Int.tdiv (w.kpc * ec) 1024 + t.currentIntegral)) :=
  ⟨toNat_held _ _, toNat_held _ _⟩

/-- The figures of stages 3 to 6, R58 to R61, R65, as integers; `thousandths` is the speed target in thousandths of ‰. -/
theorem looped_eq (w : Settings) (period speed a : Nat) (r : Regulator) {target thousandths : Nat}
    (same : thousandths = target * 1000) :
    let t := r.looped w period target speed a
    let e : Int := ((t.setpoint / 1000 : Nat) : Int) - speed
    let inc := Int.tdiv (w.ki * e) 1024
    let aim : Int := max 0 (min (a : Int) (t.demand + r.trim))
    let ec : Int := t.reference - t.feedback
    t.setpoint = (if r.setpoint ≤ thousandths then min thousandths (r.setpoint + w.accelRate * period / 1000)
        else max thousandths (r.setpoint - w.decelRate * period / 1000))
      ∧ (t.integral : Int) = max 0 (min (a : Int) (if 0 < inc ∧ r.demand = r.prevAllowance then (r.integral : Int)
          else r.integral + inc))
      ∧ (t.demand : Int) = max 0 (min (a : Int) (Int.tdiv (w.kp * e) 1024 + t.integral))
      ∧ (t.reference : Int) = min (a : Int) (if (r.reference : Int) ≤ aim then min aim (r.reference + w.slewLimit)
          else max aim (r.reference - w.slewLimit))
      ∧ (t.currentIntegral : Int)
        = max 0 (min (w.maxConduction : Int) (r.currentIntegral + Int.tdiv (w.kic * ec) 1024))
      ∧ (t.conduction : Int)
        = max 0 (min (w.maxConduction : Int) (Int.tdiv (w.kpc * ec) 1024 + t.currentIntegral))
      ∧ t.trim = r.trim := by
  subst same
  let l := r.speedLoop w period target speed a
  have aim : ((l.balancedTarget a : Nat) : Int) = max 0 (min (a : Int) (l.demand + l.trim)) := toNat_held _ _
  have reference := slew_cast w.slewLimit (l.balancedTarget a) a r.reference
  rw [aim] at reference
  obtain ⟨integral, conduction⟩ :=
    currentLoop_eq w { l with reference := slew w.slewLimit (l.balancedTarget a) a r.reference }
  exact ⟨ramp_eq _ _ _ _, toNat_held _ _, toNat_held _ _, reference, integral, conduction, rfl⟩

/-- Stages 5 to 7 keep the bounds of R60 to R62. -/
theorem finished_bounds : let t := u.finished
    t.reg.reference ≤ u.limiter.allowance ∧ t.reg.reference ≤ u.reg.reference + u.cfg.slewLimit
      ∧ (u.lines.convEn = true → min u.limiter.allowance (u.reg.reference - u.cfg.slewLimit) ≤ t.reg.reference)
      ∧ t.reg.conduction ≤ u.cfg.maxConduction ∧ t.reg.currentIntegral ≤ u.cfg.maxConduction
      ∧ (u.lines.convEn = false → t.reg.isBlocked ∧ t.gen.demand = 0) := by
  dsimp only
  rw [finished_eq]
  dsimp only
  cases enabled : u.lines.convEn with
  | false =>
    rw [finished_blocked u enabled]
    refine ⟨Nat.zero_le _, Nat.zero_le _, fun yes => (by cases yes), Nat.zero_le _, Nat.zero_le _, fun _ => ⟨?_, rfl⟩⟩
    exact blocked_isBlocked u.reg
  | true =>
    by_cases st : u.st = .breakaway
    · obtain ⟨within, rise, fall⟩ :=
        slew_bounds u.cfg.slewLimit u.limiter.allowance u.limiter.allowance u.reg.reference
      rw [finished_breakaway u enabled st]
      exact ⟨within, rise, fun _ => fall, held_le _ _, held_le _ _, fun no => (by cases no)⟩
    · obtain ⟨within, rise, fall⟩ :=
        slew_bounds u.cfg.slewLimit ((u.reg.speedLoop u.cfg u.periodUs u.stateTarget u.speed.speed
          u.limiter.allowance).balancedTarget u.limiter.allowance) u.limiter.allowance u.reg.reference
      rw [finished_enabled u enabled st]
      exact ⟨within, rise, fun _ => fall, held_le _ _, held_le _ _, fun no => (by cases no)⟩

end Loops

section Outcome

variable (s : State) (sample : Word)

theorem undisturbed_recompute : Undisturbed s.heated s.loaded.recompute := by
  have loaded : Undisturbed s.heated s.loaded := by
    rw [(loaded_only s).rest]
    exact ⟨rfl, rfl, rfl⟩
  exact loaded.trans (.of_stays (stays_recompute _))

/-- Stages 1 and 2 leave the station as it was, or trip it. -/
theorem limited_outcome : Undisturbed (s.sampled sample) (s.limited sample)
    ∨ (((s.limited sample).st = .tripDecel ∨ (s.limited sample).st = .tripped) ∧ (s.limited sample).st ≠ s.st
      ∧ (s.limited sample).lines.convEn = false) := by
  have loaded : Undisturbed (s.sensed sample) (s.sensed sample).loaded.recompute :=
    Undisturbed.trans (t := (s.sensed sample).heated) ⟨rfl, rfl, rfl⟩ (undisturbed_recompute _)
  unfold State.limited
  rcases present_outcome (s.sampled sample) .overcurrent (s.sampled sample).reg.overCurrent sample.toInt with calm | trips
  · have calm := Undisturbed.trans calm loaded
    rcases checkSurge_outcome (s.sensed sample).loaded.recompute with calm' | trips
    · exact .inl (calm.trans calm')
    · obtain ⟨state, left, disabled, -⟩ := trips.effects
      rw [calm.st] at left
      exact .inr ⟨state, left, disabled⟩
  · have unwatched : ((s.sensed sample).loaded.recompute).st.cruising = false := by
      rw [loaded.st]
      exact trips.not_cruising
    obtain ⟨state, left, disabled, -⟩ := trips.effects
    rw [checkSurge_unwatched _ unwatched, loaded.st, loaded.lines]
    exact .inr ⟨state, left, disabled⟩

/-- What stages 1 and 2 keep of the readings. -/
theorem sensed_carries : Carries [.overcurrent] (s.sampled sample) (s.sensed sample) :=
  carries_present _ _ _ _

theorem loaded_carries : Carries [.overload, .surge] s.heated s.loaded.recompute.checkSurge :=
  (((Carries.of_only (loaded_only s)).trans (carries_recompute _ _)).weaken (by decide)).trans
    ((carries_checkSurge _).weaken (by decide))

end Outcome

end Sys2Proof.Machine
end

section
/-!
PROOFS. The statements of the control step (R54, R56 to R62, R65, R66, R71 to R73, R80, R83), assembled from its stages.
-/

namespace Sys2Proof.Machine

section Step

variable (s : State) (sample : Word)

/-- The settings, the speed and the carrier period stand through stages 1 and 2. -/
theorem limited_cfg : (s.limited sample).cfg = s.cfg :=
  (loaded_carries (s.sensed sample)).cfg.trans (sensed_carries s sample).cfg

theorem limited_speed : (s.limited sample).speed = s.speed :=
  (loaded_carries (s.sensed sample)).speed.trans (sensed_carries s sample).speed

theorem limited_period : (s.limited sample).periodUs = s.periodUs :=
  congrArg (Option.getD · 0)
    ((loaded_carries (s.sensed sample)).gen.1.trans (sensed_carries s sample).gen.1 : _ = s.gen.period)

theorem regulating_rows {st : StationState} (h : st.regulating = true) : st.blocksRun = true ∧ st ≠ .breakaway := by
  cases st <;> simp [StationState.regulating] at h <;> simp [StationState.blocksRun]

/-- A step that leaves the station in its state leaves the regulator as sampled and the converter as it was. -/
theorem limited_undisturbed (same : (s.limited sample).finished.st = s.st) :
    Undisturbed (s.sampled sample) (s.limited sample) := by
  rw [finished_st] at same
  rcases limited_outcome s sample with calm | ⟨-, left, -⟩
  · exact calm
  · exact absurd same left

/-- The speed target of a station that stays in its state, R58. -/
theorem stateTarget_kept {sample : Word} (calm : Undisturbed (s.sampled sample) (s.limited sample)) :
    (s.limited sample).stateTarget = s.stateTarget := by
  unfold State.stateTarget
  rw [calm.st, calm.reg, limited_cfg]
  rfl

end Step

section Readings

variable (s : State) (sample : Word)

/-- F after the step, R57. -/
theorem limited_feedback : (s.limited sample).reg.feedback
    = if sample = 0x8000 then s.reg.feedback else sample.toInt :=
  (loaded_carries (s.sensed sample)).feedback.trans (sensed_carries s sample).feedback

theorem sampled_overCurrent : (s.sampled sample).reg.overCurrent
    = decide (sample = 0x8000 ∨ (s.cfg.overcurrentLimit : Int) < sample.toInt) := by
  show (sample == 0x8000 || decide _) = _
  rw [Bool.decide_or]
  rfl

theorem limited_overCurrent : (s.limited sample).reg.overCurrent = (s.sampled sample).reg.overCurrent :=
  (loaded_carries (s.sensed sample)).overCurrent.trans (sensed_carries s sample).overCurrent

/-- From the end of joining on OVERCURRENT stands as the sample says, R57. -/
theorem limited_overcurrent (joined : s.st.joined = true) : ((s.limited sample).causeField .overcurrent).present
    = decide (sample = 0x8000 ∨ (s.cfg.overcurrentLimit : Int) < sample.toInt) := by
  rw [State.limited, (loaded_carries (s.sensed sample)).field _ (by decide) (by decide), ← sampled_overCurrent]
  exact present_field (s.sampled sample) _ _ joined (by decide)

/-- A sample ends SAMPLE_LOSS, R66. -/
theorem limited_sampleLoss : ((s.limited sample).causeField .sampleLoss).present = false := by
  rw [State.limited, (loaded_carries (s.sensed sample)).field _ (by decide) (by decide)]
  exact congrArg CauseField.present ((sensed_carries s sample).field .sampleLoss (by decide) (by decide))

/-- The account moved by F over the period, within the capacity, R72. -/
theorem limited_account : ((s.limited sample).limiter.account : Int)
    = max 0 (min ((s.cfg.overloadCapacity * 1000 : Nat) : Int) (s.limiter.account
        + ((s.limited sample).reg.feedback - s.cfg.continuousRating) * s.gen.period.getD 0)) := by
  have sensed := sensed_carries s sample
  have loaded := loaded_carries (s.sensed sample)
  have account : (s.sensed sample).limiter.account = s.limiter.account := sensed.account
  have period : (s.sensed sample).periodUs = s.gen.period.getD 0 := congrArg (Option.getD · 0) sensed.gen.1
  have cfg : (s.sensed sample).cfg = s.cfg := sensed.cfg
  have feedback : (s.limited sample).reg.feedback = (s.sensed sample).reg.feedback := loaded.feedback
  rw [State.limited, loaded.account, ← State.limited, feedback, ← account, ← period, ← cfg]
  exact toNat_held _ _

/-- The limit sets at the capacity and releases below half of it, R73. -/
theorem limited_limit : (s.limited sample).limiter.limit
    = if s.limiter.limit then !decide ((s.limited sample).limiter.account < s.cfg.overloadCapacity * 500)
      else decide ((s.limited sample).limiter.account = s.cfg.overloadCapacity * 1000) := by
  have sensed := sensed_carries s sample
  have loaded := loaded_carries (s.sensed sample)
  have limit : (s.sensed sample).limiter.limit = s.limiter.limit := sensed.limit
  have cfg : (s.sensed sample).cfg = s.cfg := sensed.cfg
  rw [State.limited, loaded.limit, loaded.account, ← limit, ← cfg]
  rfl

theorem joined_of_outcome {s t : State} (joined : s.st.joined = true) (h : Undisturbed s t ∨ Trips s t) :
    t.st.joined = true := by
  rcases h with calm | trips
  · rwa [calm.st]
  · rcases trips.effects.1 with st | st <;> rw [st] <;> rfl

/-- From the end of joining on OVERLOAD stands with the limit, R73. -/
theorem limited_overload (joined : s.st.joined = true) :
    ((s.limited sample).causeField .overload).present = (s.limited sample).limiter.limit := by
  have sensed : (s.sensed sample).st.joined = true :=
    joined_of_outcome (s := s.sampled sample) joined (present_outcome _ _ _ _)
  have after : Carries [.surge] (s.sensed sample).loaded (s.limited sample) :=
    (carries_recompute _ _).trans (carries_checkSurge _)
  rw [after.field _ (by decide) (by decide), State.limited, (loaded_carries (s.sensed sample)).limit]
  exact present_field (s.sensed sample).heated _ _ sensed (by decide)

theorem limited_missCount : (s.limited sample).reg.missCount = 0 ∧ (s.limited sample).reg.sample = sample :=
  ⟨(loaded_carries (s.sensed sample)).missCount.trans (sensed_carries s sample).missCount,
    (loaded_carries (s.sensed sample)).sample.trans (sensed_carries s sample).sample⟩

theorem limited_answered : (s.limited sample).gen.answered = true := by
  obtain ⟨-, -, -, answered, -⟩ := (loaded_carries (s.sensed sample)).gen
  obtain ⟨-, -, -, answered', -⟩ := (sensed_carries s sample).gen
  exact answered.trans answered'

/-- The parts that a control step does not touch. -/
theorem limited_outer : (s.limited sample).finished = { (s.limited sample).finished with
    speed := s.speed, clock := s.clock, loader := s.loader, monitor := s.monitor, inputs := s.inputs, free := s.free
    pending := s.pending } := by
  have sensed := (sensed_carries s sample).readings
  have readings := (loaded_carries (s.sensed sample)).readings
  have kept {α : Type} (f : Readings → α) (h : f (s.sensed sample).heated.readings = f (s.sensed sample).readings) :
      f (s.limited sample).readings = f (s.sampled sample).readings :=
    ((congrArg f readings).trans h).trans (congrArg f sensed)
  rw [finished_eq, State.mk.injEq]
  exact ⟨rfl, rfl, kept Readings.speed rfl, rfl, rfl, rfl, rfl, rfl, rfl, rfl, kept Readings.loader rfl,
    kept Readings.monitor rfl, rfl, kept Readings.clock rfl, rfl, kept Readings.inputs rfl, kept Readings.free rfl,
    kept Readings.pending rfl⟩

end Readings

section Jam

variable (s : State)

/-- The jam conditions of R80 as they stand with the allowance recomputed. -/
theorem weighed_jamHolds (cruising : s.st.cruising = true) : s.weighed.jamHolds = true ↔ s.speed.speed < s.cfg.jamSpeed
    ∧ 0 < s.recompute.limiter.allowance ∧ (s.recompute.limiter.allowance : Int) * 95 ≤ s.reg.feedback * 100 := by
  have cruising : s.weighed.st.cruising = true := cruising
  simp only [State.jamHolds, cruising, State.jamConditions, Bool.true_and, Bool.and_eq_true, decide_eq_true_eq, and_assoc]
  rfl

/-- The jam timer and JAM after the allowance is recomputed, R80, R81. -/
theorem recompute_jam : (s.weighed.jamHolds = false →
      s.recompute.timers.jam = none ∧ (s.recompute.causeField .jam).present = false)
    ∧ (s.weighed.jamHolds = true → s.recompute.causeField .jam = s.causeField .jam
      ∧ s.recompute.timers.jam = if s.timers.jam = none ∧ (s.causeField .jam).present = false then some 0
          else s.timers.jam) := by
  rw [recompute_eq]
  refine ⟨fun no => ?_, fun yes => ?_⟩
  · rw [judgeJam_idle _ no]
    exact ⟨rfl, congrArg CauseField.present (CauseSet.get_cease s.cause.causes .jam)⟩
  · rw [judgeJam_running _ yes]
    refine ⟨rfl, ?_⟩
    have same : s.weighed.causeField .jam = s.causeField .jam := rfl
    have jam : s.weighed.timers.jam = s.timers.jam := rfl
    rw [same, jam]
    simp only [Bool.and_eq_true, Option.isNone_iff_eq_none, Bool.not_eq_true']

theorem weighed_unwatched (h : s.st.cruising = false) : s.weighed.jamHolds = false := by
  have h : s.weighed.st.cruising = false := h
  simp only [State.jamHolds, h, Bool.false_and]

/-- What the recomputed allowance leaves, of the blocks that the surge check reads. -/
theorem recompute_blocks : s.recompute.st = s.st ∧ s.recompute.speed = s.speed ∧ s.recompute.cfg = s.cfg
    ∧ s.recompute.link = s.link ∧ s.recompute.limiter.surgeReference = s.limiter.surgeReference
    ∧ s.recompute.cause.actions = s.cause.actions ∧ s.recompute.cause.g = s.cause.g :=
  ⟨rfl, rfl, rfl, rfl, rfl, rfl, rfl⟩

theorem recompute_unwatched (h : s.recompute.st.cruising = false) :
    s.recompute.timers.jam = none ∧ (s.recompute.causeField .jam).present = false :=
  (recompute_jam s).1 (weighed_unwatched s h)

variable (sample : Word)

/-- Outside RUN and CREEP the jam timer stands still and JAM is not present, R80, R81. -/
theorem limited_unwatched (h : (s.limited sample).st.cruising = false) :
    (s.limited sample).timers.jam = none ∧ ((s.limited sample).causeField .jam).present = false := by
  rcases checkSurge_outcome (s.sensed sample).loaded.recompute with calm | trips
  · have unwatched : (s.sensed sample).loaded.recompute.st.cruising = false := by rwa [← calm.st]
    rw [State.limited, checkSurge_unwatched _ unwatched]
    exact recompute_unwatched _ unwatched
  · obtain ⟨-, -, -, jam, absent, -⟩ := trips.effects
    exact ⟨jam, absent⟩

end Jam

section Calm

variable {s : State} {sample : Word}

/-- Where the sample does not trip, OVERCURRENT alone is presented. -/
theorem sensed_only (h : s.st.canTrip = true) : CausesOnly [.overcurrent] (s.sampled sample) (s.sensed sample)
    ∨ Trips (s.sampled sample) (s.sensed sample) := by
  refine present_cases (s.sampled sample)
    (P := fun t => CausesOnly [.overcurrent] (s.sampled sample) t ∨ Trips (s.sampled sample) t) .overcurrent _ _
    (.inl ⟨rfl, fun _ _ => rfl⟩) (fun _ _ => .inl (ceases_only _ _)) fun _ _ _ => .inr ?_
  rw [rise_trip (s.sampled sample) _ rfl h]
  exact trips_originTrip (s := (s.sampled sample).risen .overcurrent) _ _ h

theorem sensed_within (h : (s.sampled sample).reg.overCurrent = false) (joined : s.st.joined = true) :
    CausesOnly [.overcurrent] (s.sampled sample) (s.sensed sample) := by
  rw [State.sensed, h, present_ceases (s.sampled sample) _ joined rfl]
  exact ceases_only _ _

/-- After a step whose sample does not trip, up to the surge check. -/
theorem calm_loaded (h : CausesOnly [.overcurrent] (s.sampled sample) (s.sensed sample)) :
    CausesOnly [.overcurrent, .overload] (s.sampled sample).heated (s.sensed sample).loaded := by
  have heated : CausesOnly [.overcurrent] (s.sampled sample).heated (s.sensed sample).heated := by
    refine ⟨?_, h.field⟩
    rw [h.rest]
    rfl
  exact heated.trans (loaded_only _)

theorem calm_causeField (h : CausesOnly [.overcurrent] (s.sampled sample) (s.sensed sample)) {c : Cause}
    (hc : c ∉ [Cause.sampleLoss, .overcurrent, .overload]) : (s.sensed sample).loaded.causeField c = s.causeField c := by
  simp only [List.mem_cons, List.not_mem_nil, or_false, not_or] at hc
  obtain ⟨loss, others⟩ := hc
  rw [(calm_loaded h).field c (by simpa using others)]
  exact CauseSet.get_set_ne _ _ loss

/-- What else stands then, with the allowance recomputed. -/
theorem calm_blocks (h : CausesOnly [.overcurrent] (s.sampled sample) (s.sensed sample)) :
    let x := (s.sensed sample).loaded.recompute
    x.st = s.st ∧ x.speed = s.speed ∧ x.cfg = s.cfg ∧ x.link = s.link
      ∧ x.limiter.surgeReference = s.limiter.surgeReference ∧ x.cause.actions = s.cause.actions
      ∧ x.cause.g = s.cause.g := by
  obtain ⟨st, speed, cfg, link, reference, actions, g⟩ := recompute_blocks (s.sensed sample).loaded
  have rest := (calm_loaded h).rest
  dsimp only
  rw [st, speed, cfg, link, reference, actions, g, rest]
  exact ⟨rfl, rfl, rfl, rfl, rfl, rfl, rfl⟩

theorem calm_timers (h : CausesOnly [.overcurrent] (s.sampled sample) (s.sensed sample)) :
    (s.sensed sample).loaded.timers = s.timers := by
  rw [(calm_loaded h).rest]
  rfl

theorem limited_of_trips (trips : Trips (s.sampled sample) (s.sensed sample)) :
    (s.limited sample).st.cruising = false := by
  have unwatched : (s.sensed sample).loaded.recompute.st.cruising = false := by
    rw [(undisturbed_recompute (s.sensed sample)).st]
    exact trips.not_cruising
  rwa [State.limited, checkSurge_unwatched _ unwatched]

/-- A step in RUN or CREEP that leaves the station there has presented no OVERCURRENT that trips. -/
theorem sensed_of_same (cruising : s.st.cruising = true) (same : (s.limited sample).st = s.st) :
    CausesOnly [.overcurrent] (s.sampled sample) (s.sensed sample) := by
  rcases sensed_only (cruising_rows cruising).2 with calm | trips
  · exact calm
  · have unwatched := limited_of_trips trips
    rw [same, cruising] at unwatched
    cases unwatched

/-- While not MUTE, a surge check that does not trip leaves everything but SURGE and the link. -/
theorem checkSurge_loud (s : State) (loud : s.link.mute = false) (same : s.checkSurge.st = s.st) :
    CausesOnly [.surge] (s.onLink fun _ => s.checkSurge.link) s.checkSurge := by
  by_cases surges : s.surges
  · rw [checkSurge_rises s surges] at same ⊢
    refine rise_loud s _ (fun action => ?_) loud
    rw [rise_trip s _ action (cruising_rows surges.1).2] at same
    exact (trips_originTrip (s := s.risen .surge) .surge _ (cruising_rows surges.1).2).effects.2.1 same
  · rw [checkSurge_calm s surges]
    exact ⟨rfl, fun _ _ => rfl⟩

/-- The jam timer and JAM after a step in RUN or CREEP that leaves the station there, R80, R81. -/
theorem limited_jam (cruising : s.st.cruising = true) (loud : s.link.mute = false)
    (same : (s.limited sample).st = s.st) :
    let t := s.limited sample
    let holds := s.speed.speed < s.cfg.jamSpeed ∧ 0 < t.limiter.allowance
      ∧ (t.limiter.allowance : Int) * 95 ≤ t.reg.feedback * 100
    (¬holds → t.timers.jam = none ∧ (t.causeField .jam).present = false)
    ∧ (holds → t.causeField .jam = s.causeField .jam
      ∧ t.timers.jam = if s.timers.jam = none ∧ (s.causeField .jam).present = false then some 0 else s.timers.jam) := by
  have only := sensed_of_same cruising same
  obtain ⟨st, speed, cfg, link, -⟩ := calm_blocks only
  obtain ⟨st', speed', cfg', -⟩ := recompute_blocks (s.sensed sample).loaded
  have timers := calm_timers only
  have jam : (s.sensed sample).loaded.causeField .jam = s.causeField .jam := calm_causeField only (by decide)
  have loud' : (s.sensed sample).loaded.recompute.link.mute = false := by rwa [link]
  have surge : CausesOnly [.surge] ((s.sensed sample).loaded.recompute.onLink fun _ => (s.limited sample).link)
      (s.limited sample) := checkSurge_loud _ loud' (same.trans st.symm)
  have field : (s.limited sample).causeField .jam = (s.sensed sample).loaded.recompute.causeField .jam :=
    surge.field .jam (by decide)
  have timer : (s.limited sample).timers = (s.sensed sample).loaded.recompute.timers := by
    rw [surge.rest]
    rfl
  have allowance : (s.limited sample).limiter = (s.sensed sample).loaded.recompute.limiter := by
    rw [surge.rest]
    rfl
  have feedback : (s.limited sample).reg.feedback = (s.sensed sample).loaded.reg.feedback := by
    rw [surge.rest]
    rfl
  have watched : (s.sensed sample).loaded.st.cruising = true := by rwa [← st', st]
  have holds := weighed_jamHolds _ watched
  rw [← speed', ← cfg', speed, cfg] at holds
  obtain ⟨no, yes⟩ := recompute_jam (s.sensed sample).loaded
  dsimp only
  rw [field, timer, allowance, feedback, ← timers, ← jam, ← holds]
  exact ⟨fun h => no (by simpa using h), yes⟩

/-- Outside RUN and CREEP no SURGE is latched or counted, R83. -/
theorem limited_surge_unwatched (h : s.st.cruising = false) :
    ((s.limited sample).causeField .surge).latched = (s.causeField .surge).latched
      ∧ ((s.limited sample).causeField .surge).count = (s.causeField .surge).count := by
  have st : (s.sensed sample).loaded.recompute.st = (s.sensed sample).st := (undisturbed_recompute _).st
  have unwatched : (s.sensed sample).loaded.recompute.st.cruising = false := by
    rw [st]
    rcases present_outcome (s.sampled sample) .overcurrent (s.sampled sample).reg.overCurrent sample.toInt with
      calm | trips
    · exact (congrArg StationState.cruising calm.st).trans h
    · exact trips.not_cruising
  have loaded : Carries [.overload] (s.sensed sample).heated (s.sensed sample).loaded.recompute :=
    (Carries.of_only (loaded_only _)).trans (carries_recompute _ _)
  obtain ⟨latched, count⟩ := loaded.latched .surge (by decide)
  obtain ⟨latched', count'⟩ := (sensed_carries s sample).latched .surge (by decide)
  rw [State.limited, checkSurge_unwatched _ unwatched]
  exact ⟨latched.trans latched', count.trans count'⟩

/-- SURGE after the surge check in RUN and CREEP, R83, R111, R112. -/
theorem checkSurge_effects (x : State) (cruising : x.st.cruising = true) :
    let t := x.checkSurge
    let rises := (x.causeField .surge).present = false ∧ (x.cfg.surgeThreshold : Int) < x.surgeExcess
    (¬rises → t.causeField .surge = x.causeField .surge ∧ t.st = x.st)
    ∧ (rises → (t.causeField .surge).latched = true
      ∧ (t.causeField .surge).count = min 255 ((x.causeField .surge).count + 1)
      ∧ (x.actionOf .surge = .trip → t.st = tripTarget x.st x.speed.standstill
          ∧ (t.causeField .surge).present = false ∧ t.cause.g = successor x.cause.g)
      ∧ (x.actionOf .surge ≠ .trip → t.st = x.st ∧ (t.causeField .surge).present = true)
      ∧ (x.actionOf .surge = .alert → t.link = x.link)
      ∧ (x.actionOf .surge = .clamp → x.link.mute = false →
          t.link = { x.link with clampSlot := some (x.clampOf .surge) })) := by
  have can : (x.risen .surge).st.canTrip = true := (cruising_rows cruising).2
  refine ⟨fun calm => ?_, fun rises => ?_⟩
  · rw [checkSurge_calm x fun surges => calm surges.2]
    exact ⟨rfl, rfl⟩
  · rw [checkSurge_rises x ⟨cruising, rises⟩]
    obtain ⟨latched, count⟩ := rise_latched_self x .surge x.surgeExcess
    refine ⟨latched, count, fun action => ?_, rise_quiet x _ (by decide), fun action => ?_, fun action loud => ?_⟩
    · have trips := trips_originTrip (s := x.risen .surge) .surge x.surgeExcess can
      rw [rise_trip x _ action can]
      exact ⟨originTrip_st _ _ _ can, trips.effects.2.2.2.2.2, originTrip_g _ _ _⟩
    · rw [rise_alert x _ action]
      rfl
    · rw [rise_clamp x _ action loud]
      rfl

/-- SURGE after a step in RUN or CREEP whose sample does not trip, R83, R111, R112. -/
theorem limited_surge (cruising : s.st.cruising = true) (within : (s.sampled sample).reg.overCurrent = false) :
    let t := s.limited sample
    let excess : Int := t.reg.feedback - s.limiter.surgeReference
    let rises := (s.causeField .surge).present = false ∧ (s.cfg.surgeThreshold : Int) < excess
    (¬rises → t.causeField .surge = s.causeField .surge ∧ t.st = s.st)
    ∧ (rises → (t.causeField .surge).latched = true
      ∧ (t.causeField .surge).count = min 255 ((s.causeField .surge).count + 1)
      ∧ (s.actionOf .surge = .trip → t.st = tripTarget s.st s.speed.standstill
          ∧ (t.causeField .surge).present = false ∧ t.cause.g = successor s.cause.g)
      ∧ (s.actionOf .surge ≠ .trip → t.st = s.st ∧ (t.causeField .surge).present = true)
      ∧ (s.actionOf .surge = .alert → t.link = s.link)
      ∧ (s.actionOf .surge = .clamp → s.link.mute = false →
          t.link = { s.link with clampSlot := some (s.clampOf .surge) })) := by
  have only := sensed_within within (cruising_rows cruising).1
  obtain ⟨st, speed, cfg, link, reference, actions, g⟩ := calm_blocks only
  have effects := checkSurge_effects (s.sensed sample).loaded.recompute (by rwa [st])
  have before : (s.sensed sample).loaded.recompute.causeField .surge = s.causeField .surge :=
    ((stays_recompute _).causeField _ (by decide)).trans (calm_causeField only (by decide))
  have feedback : (s.limited sample).reg.feedback = (s.sensed sample).loaded.recompute.reg.feedback :=
    (carries_checkSurge _).feedback
  have excess : (s.sensed sample).loaded.recompute.surgeExcess
      = (s.limited sample).reg.feedback - s.limiter.surgeReference := by
    rw [State.surgeExcess, feedback, reference]
  have action : (s.sensed sample).loaded.recompute.actionOf .surge = s.actionOf .surge := by
    rw [State.actionOf, actions, State.actionOf]
  have clamp : (s.sensed sample).loaded.recompute.clampOf .surge = s.clampOf .surge := by
    rw [State.clampOf, cfg, actions, State.clampOf]
  have limited : (s.sensed sample).loaded.recompute.checkSurge = s.limited sample := rfl
  rwa [before, excess, action, clamp, st, speed, cfg, link, g, limited] at effects

end Calm

/-- Settles O18. -/
theorem referenceWithinAllowance : Obligations.ReferenceWithinAllowance := by
  unfold Obligations.ReferenceWithinAllowance
  intro sample s runs
  obtain ⟨within, rise, fall, conduction, integral, blocked⟩ := finished_bounds (s.limited sample)
  have enabled : (s.limited sample).finished.lines = (s.limited sample).lines := by rw [finished_eq]
  rw [limited_cfg] at rise fall conduction integral
  refine ⟨_, exec_sample s sample runs, ?_⟩
  rw [enabled, finished_limiter]
  rcases limited_outcome s sample with calm | ⟨-, -, disabled⟩
  · rw [calm.reg] at rise fall
    exact ⟨within, rise, fall, conduction, integral, blocked⟩
  · have zero : (s.limited sample).finished.reg.reference = 0 := by rw [finished_blocked _ disabled]; rfl
    refine ⟨within, by omega, fun yes => ?_, conduction, integral, blocked⟩
    rw [disabled] at yes
    cases yes

/-- Settles O19. -/
theorem speedAndCurrentLoops : Obligations.SpeedAndCurrentLoops := by
  unfold Obligations.SpeedAndCurrentLoops
  refine ⟨fun sample s st enabled => ⟨_, exec_sample s sample (by rw [st]; rfl), fun same => ?_⟩,
    fun sample s regulating enabled => ⟨_, exec_sample s sample (regulating_rows regulating).1, fun same => ?_⟩⟩
  · have calm := limited_undisturbed s sample same
    have on : (s.limited sample).lines.convEn = true := by rwa [calm.lines]
    have breakaway : (s.limited sample).st = .breakaway := calm.st.trans st
    obtain ⟨integral, conduction⟩ := currentLoop_eq s.cfg { (s.sampled sample).reg with
      reference := min (s.limited sample).limiter.allowance (s.reg.reference + s.cfg.slewLimit) }
    have reg := finished_breakaway _ on breakaway
    rw [slew_allowance, limited_cfg, calm.reg] at reg
    rw [reg, finished_limiter]
    exact ⟨rfl, integral, conduction, rfl, rfl, rfl, rfl⟩
  · have calm := limited_undisturbed s sample same
    have on : (s.limited sample).lines.convEn = true := by rwa [calm.lines]
    have notBreakaway : (s.limited sample).st ≠ .breakaway := by
      rw [calm.st]
      exact (regulating_rows regulating).2
    have reg := finished_enabled _ on notBreakaway
    rw [limited_cfg, limited_period, limited_speed, stateTarget_kept s calm, calm.reg] at reg
    rw [reg, finished_limiter]
    exact looped_eq s.cfg s.periodUs s.speed.speed _ (s.sampled sample).reg (Nat.mul_comm _ s.stateTarget)

section Idle

variable {s : State} {sample : Word}

/-- The allowance recomputed after a change of causes alone, where no jam is watched. -/
theorem recompute_idle {h x : State} (only : x = { h with cause := { h.cause with causes := x.cause.causes } })
    (still : x.recompute.st.cruising = false) : let t := x.recompute
    t = { h with
      limiter := { h.limiter with allowance := t.limiter.allowance, limiting := t.limiter.limiting }
      cause := { h.cause with causes := t.cause.causes }
      timers := { h.timers with jam := none } } := by
  have jam : x.recompute.timers.jam = none := (recompute_unwatched x still).1
  have limiter : x.limiter = h.limiter := by rw [only]
  have timers : x.timers = h.timers := by rw [only]
  have cause : x.cause = { h.cause with causes := x.cause.causes } := (congrArg State.cause only :)
  have blocks : x.recompute = { x with
      limiter := { x.limiter with allowance := x.recompute.limiter.allowance, limiting := x.recompute.limiter.limiting }
      cause := { x.cause with causes := x.recompute.cause.causes }
      timers := { x.timers with jam := x.recompute.timers.jam } } := rfl
  dsimp only
  refine blocks.trans ?_
  rw [jam, limiter, timers]
  generalize x.recompute.limiter = l
  generalize x.recompute.cause.causes = causes
  rw [cause, only]

/-- Outside RUN and CREEP a step whose sample does not trip changes nothing up to stage 2 but what is sampled, the
limiter's figures, the causes and the jam timer. -/
theorem limited_idle (joined : s.st.joined = true) (still : s.st.cruising = false)
    (calm : (s.sampled sample).reg.overCurrent = false) : let u := s.limited sample
    u = { (s.sampled sample).heated with
      limiter := { (s.sampled sample).heated.limiter with
        allowance := u.limiter.allowance, limiting := u.limiter.limiting }
      cause := { (s.sampled sample).heated.cause with causes := u.cause.causes }
      timers := { (s.sampled sample).heated.timers with jam := none } } := by
  have only := sensed_within calm joined
  have unwatched : (s.sensed sample).loaded.recompute.st.cruising = false := by rwa [(calm_blocks only).1]
  rw [State.limited, checkSurge_unwatched _ unwatched]
  exact recompute_idle (calm_loaded only).rest unwatched

/-- Stages 3 to 7 after a change of these blocks change no other. -/
theorem finished_rest {s u : State} (rest : u = { s with
      reg := u.reg, gen := u.gen, limiter := u.limiter, cause := u.cause, timers := u.timers }) :
    u.finished = { s with
      reg := u.finished.reg, gen := u.finished.gen, limiter := u.limiter, cause := u.cause, timers := u.timers } := by
  have gen : u.finished.gen = { u.gen with demand := u.finished.reg.conduction } := by rw [finished_eq]
  rw [gen]
  refine (finished_eq u).trans ?_
  rw [State.mk.injEq] at rest ⊢
  simpa using rest

/-- The same step as a whole with the converter disabled: the regulator stays blocked, R62. -/
theorem idle_step (joined : s.st.joined = true) (disabled : s.lines.convEn = false) (still : s.st.cruising = false)
    (calm : (s.sampled sample).reg.overCurrent = false) :
    let t := (s.limited sample).finished
    t.gen = { s.gen with answered := true, demand := 0 }
      ∧ t.reg = { (s.sampled sample).reg.blocked with prevAllowance := t.limiter.allowance }
      ∧ t = { s with
          reg := t.reg
          gen := t.gen
          limiter := { s.limiter with
            account := t.limiter.account, limit := t.limiter.limit, allowance := t.limiter.allowance
            limiting := t.limiter.limiting }
          cause := { s.cause with causes := t.cause.causes }
          timers := { s.timers with jam := none } } := by
  have limited := limited_idle joined still calm
  generalize s.limited sample = u at limited ⊢
  dsimp only at limited ⊢
  have lines : u.lines.convEn = false := by rwa [limited]
  have reg : u.reg = (s.sampled sample).reg := by rw [limited]; rfl
  have gen : u.gen = { s.gen with answered := true } := by rw [limited]; rfl
  have limiter : u.limiter = { s.limiter with
      account := u.limiter.account, limit := u.limiter.limit, allowance := u.limiter.allowance
      limiting := u.limiter.limiting } := by rw [limited]; rfl
  have cause : u.cause = { s.cause with causes := u.cause.causes } := by rw [limited]; rfl
  have timers : u.timers = { s.timers with jam := none } := by rw [limited]; rfl
  have rest : u = { s with
      reg := u.reg, gen := u.gen, limiter := u.limiter, cause := u.cause, timers := u.timers } := by rw [limited]; rfl
  have blocked := finished_blocked u lines
  rw [reg] at blocked
  refine ⟨?_, ?_, ?_⟩
  · rw [finished_eq, blocked, gen]
    rfl
  · rw [finished_limiter]
    exact blocked
  · rw [finished_limiter, finished_cause, ← limiter, ← cause, ← timers]
    exact finished_rest rest

end Idle

/-- Settles O17. -/
theorem controlStepTakesSample : Obligations.ControlStepTakesSample := by
  unfold Obligations.ControlStepTakesSample
  refine ⟨⟨fun sample s stands => ?_, fun sample s runs => ?_⟩, fun sample s joined disabled still valid within => ?_⟩
  · exact congrArg Host.Outcome.next (if_neg (by simp [stands]))
  · obtain ⟨missCount, sampled⟩ := limited_missCount s sample
    obtain ⟨feedback, sample', overCurrent, missCount', -, prevAllowance⟩ := finished_kept (s.limited sample)
    refine ⟨_, exec_sample s sample runs, ?_, missCount'.trans missCount, ?_, sample'.trans sampled, ?_, fun joined => ?_,
      ?_, ?_, fun joined => ?_, ?_, ?_, fun unwatched => ?_, fun same cruising loud => ?_, fun unwatched => ?_,
      fun cruising sound => ?_, limited_outer s sample⟩
    · rw [finished_eq]
      exact limited_answered s sample
    · rw [finished_causeField]
      exact limited_sampleLoss s sample
    · rw [feedback]
      exact limited_feedback s sample
    · rw [finished_causeField]
      exact limited_overcurrent s sample joined
    · rw [feedback, finished_limiter]
      exact limited_account s sample
    · rw [finished_limiter]
      exact limited_limit s sample
    · rw [finished_causeField, finished_limiter]
      exact limited_overload s sample joined
    · rw [finished_limiter]
      exact prevAllowance
    · rw [finished_eq]
    · rw [finished_timers, finished_causeField]
      rw [finished_st] at unwatched
      exact limited_unwatched s sample unwatched
    · rw [finished_timers, finished_causeField, finished_limiter, feedback]
      rw [finished_st] at same
      exact limited_jam cruising loud same
    · rw [finished_causeField]
      exact limited_surge_unwatched unwatched
    · rw [overCurrent, limited_overCurrent] at sound
      rw [finished_causeField, finished_st, finished_cause, finished_link, feedback]
      exact limited_surge cruising sound
  · have calm : (s.sampled sample).reg.overCurrent = false := by
      rw [sampled_overCurrent, decide_eq_false_iff_not]
      rintro (saturated | above)
      · exact valid saturated
      · omega
    obtain ⟨gen, reg, rest⟩ := idle_step joined disabled still calm
    refine ⟨_, exec_sample s sample (joined_blocksRun joined), ?_, gen, rest⟩
    have feedback : (s.sampled sample).reg.feedback = sample.toInt := if_neg valid
    have blocked : (s.sampled sample).reg.blocked = { s.reg with
        sample := sample, overCurrent := (s.sampled sample).reg.overCurrent
        feedback := (s.sampled sample).reg.feedback, missCount := 0
        setpoint := 0, integral := 0, demand := 0, reference := 0, currentIntegral := 0, conduction := 0 } := rfl
    rw [reg, blocked, feedback, calm]

end Sys2Proof.Machine
end

section
/-!
PROOFS. What every step keeps, said of any predicate: one that every landing keeps, that no clock, timer, line, monitor
or input level moves, and that start-up and the beginning of a reset keep. The allowance (R67 to R69) is one: start-up
ends with it recomputed, and a reset leaves every contributor 0.
-/

namespace Sys2Proof.Machine

/-- A predicate on the blocks that every landing keeps, and start-up and the beginning of a reset. -/
structure BlockInvariant (P : State → Prop) : Prop where
  lands : ∀ s t : State, Lands s t → P s → P t
  outer : ∀ (s : State) clock timers lines monitor inputs free pending, P s → P { s with
    clock := clock, timers := timers, lines := lines, monitor := monitor, inputs := inputs, free := free
    pending := pending }
  settle : ∀ straps s, P s → P (landed s (execSettleTimeExpiry straps s))
  read : ∀ bytes s, P s → P (landed s (execParameterReadComplete bytes s))
  reset : ∀ s kind, P s → P (State.beginReset s kind)

namespace BlockInvariant

variable {P : State → Prop} (I : BlockInvariant P) {s : State}
include I

theorem endReset (h : P s) : P s.endReset := by
  unfold State.endReset
  split
  · exact h
  · exact I.outer s _ _ _ _ _ _ _ h

/-- A reset that begins and ends at one event, R166. -/
theorem restart (kind : ResetKind) (h : P s) : P (s.beginReset kind).endReset :=
  I.endReset (I.reset s kind h)

theorem resetLinePulse (us : Nat) (h : P s) : P (landed s (exec (.resetLinePulse us) s)) := by
  by_cases short : us < 500
  · rw [resetLinePulse_short s us short]
    exact h
  · by_cases long : 2000 ≤ us
    · rw [resetLinePulse_long s us long]
      exact I.restart .resetLine h
    · rcases resetLinePulse_between s us ⟨by omega, by omega⟩ with ignored | taken
      · rw [ignored]
        exact I.outer s _ _ _ _ _ _ _ h
      · rw [taken]
        exact I.restart .resetLine (I.outer s _ _ _ _ _ _ _ h)

theorem orderRestart (o p) (h : P s) : P (landed s (exec (.orderRestart o p) s)) := by
  have answer : exec (.orderRestart o p) s = execOrderRestart o p s := rfl
  obtain ⟨u, lands, stays | ⟨-, resets⟩⟩ := answers_orderRestart s o p
  · rw [answer, stays]
    exact I.lands s u lands h
  · rw [answer, resets]
    exact I.restart .restart (I.lands s u lands h)

theorem tachEdge (edge n) (h : P s) : P (landed s (exec (.tachEdge edge n) s)) :=
  I.lands _ _ (.chain (chain_tachEdge _ edge)) (pass_keeps I.lands I.settle n s h)

/-- The part taken into reset, unless it is held already, R167. -/
theorem hold {held : Bool} {monitor : Monitor} (kind : ResetKind) (h : P s) :
    P (if held = true then s else State.beginReset { s with monitor := monitor } kind) := by
  split
  · exact h
  · exact I.reset _ kind (I.outer s _ _ _ _ _ _ _ h)

/-- One hold of a reset let go, where it stands, R167. -/
theorem release {stays : Bool} {monitor : Monitor} {inputs : Inputs} {lines : Lines} (h : P s) :
    P (if stays = true then s
      else State.endReset { s with monitor := monitor, inputs := inputs, lines := lines }) := by
  split
  · exact h
  · exact I.endReset (I.outer s _ _ _ _ _ _ _ h)

theorem exec (c : Instr) (h : P s) : P (landed s (exec c s)) := by
  by_cases plain : ordinary c = true
  · exact I.lands _ _ (answers_ordinary s plain).landed h
  cases c with
  | tachEdge edge n => exact I.tachEdge edge n h
  | orderRestart o p => exact I.orderRestart o p h
  | settleTimeExpiry straps => exact I.settle straps s h
  | parameterReadComplete bytes => exact I.read bytes s h
  | resetLinePulse us => exact I.resetLinePulse us h
  | brownOut => exact I.hold .powerOn h
  | clockLoss => exact I.hold .clockLoss h
  | brownOutEnd mv => exact I.release h
  | clockReturn => exact I.release h
  | _ => exact absurd rfl plain

/-- Every step keeps the predicate: it runs a command, or lets 1 µs pass. -/
theorem step {t : State} (h : P s) (ran : step s = .next t) : P t := by
  have command (c : Instr) (u : State) (hu : P u) (answer : Machine.exec c u = .next t) : P t := by
    have kept := I.exec c hu
    rwa [answer] at kept
  unfold Machine.step at ran
  split at ran
  · next c rest _ => exact command c { s with pending := rest } (I.outer s _ _ _ _ _ _ _ h) ran
  · split at ran
    · next c u due => exact command c u (I.lands s u (lands_nextDue due) h) ran
    · cases ran
      exact I.lands _ _ (.chain (.one (.elapse s 1))) h

end BlockInvariant

section Allowance

/-- Start-up ends in a change of state, which recomputes the allowance (R69). -/
theorem read_allowanceOk (bytes : List Byte) (s : State) (ok : s.AllowanceOk) :
    (landed s (execParameterReadComplete bytes s)).AllowanceOk := by
  refine landed_read bytes s ok (fun loading => moveTo_allowanceOk ?_) (fun loading w =>
    Chain.keeps (fun _ _ => change_allowance) (chain_composeRoll (b := true) _) (moveTo_allowanceOk ?_))
  · show s.st ≠ _
    simp [loading]
  · show s.st ≠ _
    simp [loading]

/-- A torque limiter at its reset values, with the limit of R74 as it was kept. -/
theorem allowanceOk_zero (limit : Bool) :
    State.AllowanceOk { State.reset with limiter := { Limiter.reset with limit := limit } } := by
  cases limit <;> exact ⟨rfl, rfl⟩

theorem beginReset_allowanceOk (s : State) (kind : ResetKind) : (s.beginReset kind).AllowanceOk := by
  have limiter := beginReset_limiter s kind
  refine allowance_congr (fun c => ?_) (fun c => ?_) ?_ ?_ (allowanceOk_zero (s.beginReset kind).limiter.limit)
  · show c.applies .loading (s.beginReset kind).limiter.limit (s.beginReset kind).limiter.clamp.active = _
    rw [limiter]
    rfl
  · cases c with
    | vib => rfl
    | _ => simp only [State.contributorValue, limiter]
  · rw [limiter]
  · rw [limiter]

theorem blockInvariant_allowanceOk : BlockInvariant State.AllowanceOk where
  lands := fun _ _ lands => Chain.keeps (fun _ _ => change_allowance) lands.loose
  outer := fun _ _ _ _ _ _ _ _ ok => ok
  settle := fun straps s ok => landed_settle straps s ok fun _ => ok
  read := read_allowanceOk
  reset := fun s kind _ => beginReset_allowanceOk s kind

end Allowance

/-- Settles O7: every landing keeps the agreement, and start-up and the resets establish it. -/
theorem stepKeepsAllowance : Obligations.StepKeepsAllowance :=
  fun _ _ => blockInvariant_allowanceOk.step

end Sys2Proof.Machine
end

section
/-!
PROOFS. The smallest of several values with the first that gives it (R68, R87), and with it what the allowance is (R67,
R68) and how the ALLOWANCE reply carries it (R159).
-/

namespace Sys2Proof.Machine

section Least

/-- Of the best so far and one more, the one with the smaller value, the earlier where they are equal. -/
def lesser {α : Type} (value : α → Nat) (best x : α) : α :=
  if value x < value best then x else best

/-- Taken over a list in rising rank, the smallest value is found, at the lowest rank that has it. -/
theorem foldl_lesser {α : Type} (value rank : α → Nat) (first : α) (rest : List α)
    (sorted : (first :: rest).Pairwise fun x y => rank x < rank y) :
    let least := rest.foldl (lesser value) first
    least ∈ first :: rest ∧ ∀ x ∈ first :: rest,
      value least < value x ∨ (value least = value x ∧ rank least ≤ rank x) := by
  induction rest generalizing first with
  | nil => simp
  | cons y rest ih =>
    obtain ⟨after, sorted'⟩ := List.pairwise_cons.mp sorted
    have earlier : rank first < rank y := after y (by simp)
    rw [List.foldl_cons]
    by_cases smaller : value y < value first
    · rw [show lesser value first y = y from if_pos smaller]
      obtain ⟨member, least⟩ := ih y sorted'
      refine ⟨List.mem_cons_of_mem _ member, fun x inside => ?_⟩
      rcases List.mem_cons.mp inside with rfl | inside
      · have := least y (by simp)
        omega
      · exact least x inside
    · rw [show lesser value first y = first from if_neg smaller]
      obtain ⟨member, least⟩ := ih first (List.pairwise_cons.mpr
        ⟨fun x inside => after x (List.mem_cons_of_mem _ inside), (List.pairwise_cons.mp sorted').2⟩)
      have own := least first (by simp)
      refine ⟨?_, fun x inside => ?_⟩
      · rcases List.mem_cons.mp member with same | member
        · exact List.mem_cons.mpr (.inl same)
        · exact List.mem_cons_of_mem _ (List.mem_cons_of_mem _ member)
      · rcases List.mem_cons.mp inside with rfl | inside
        · exact own
        · rcases List.mem_cons.mp inside with rfl | inside
          · omega
          · exact least x (List.mem_cons_of_mem _ inside)

end Least

section Limiting

variable {s : State}

theorem mem_contributors (c : Contributor) : c ∈ Contributor.all := by
  cases c <;> decide

/-- The contributors that apply, in the order of R67, are some of them: CEILING is one. -/
theorem applying_cons (s : State) : ∃ first rest, Contributor.all.filter s.applies = first :: rest :=
  List.exists_cons_of_ne_nil (List.ne_nil_of_mem (List.mem_filter.mpr ⟨mem_contributors .ceiling, rfl⟩))

theorem limitingNow_eq {first : Contributor} {rest : List Contributor}
    (applying : Contributor.all.filter s.applies = first :: rest) :
    s.limitingNow = rest.foldl (lesser s.contributorValue) first := by
  unfold State.limitingNow
  rw [applying]
  rfl

/-- The limiting contributor applies and is the first of those with the smallest value, R68. -/
theorem limitingNow_least (s : State) : s.applies s.limitingNow = true ∧ ∀ c, s.applies c = true →
    s.contributorValue s.limitingNow < s.contributorValue c
      ∨ (s.contributorValue s.limitingNow = s.contributorValue c ∧ s.limitingNow.code ≤ c.code) := by
  obtain ⟨first, rest, applying⟩ := applying_cons s
  have sorted : (first :: rest).Pairwise fun x y => x.code < y.code :=
    applying ▸ List.Pairwise.filter s.applies (by decide)
  obtain ⟨member, least⟩ := foldl_lesser s.contributorValue Contributor.code first rest sorted
  rw [← limitingNow_eq applying] at member least
  rw [← applying] at member least
  exact ⟨(List.mem_filter.mp member).2,
    fun c applies => least c (List.mem_filter.mpr ⟨mem_contributors c, applies⟩)⟩

theorem regulating_iff (st : StationState) : st.regulating = true ↔ st = .run ∨ st = .creep ∨ st = .decel := by
  cases st <;> simp [StationState.regulating]

end Limiting

section Reply

theorem toNat_append_add {m n : Nat} (x : BitVec m) (y : BitVec n) :
    (x ++ y).toNat = x.toNat * 2 ^ n + y.toNat := by
  rw [BitVec.toNat_append, ← Nat.shiftLeft_add_eq_or_of_lt y.isLt, Nat.shiftLeft_eq]

/-- The fourth word of part 1 of ALLOWANCE: limiting contributor, band, three bits of 0, applicability. -/
theorem limitingWord_eq {limiting band applies : Nat} (hb : band < 4) (ha : applies < 256) :
    (BitVec.ofNat 3 limiting ++ BitVec.ofNat 2 band ++ 0#3 ++ BitVec.ofNat 8 applies : BitVec 16)
      = BitVec.ofNat 16 (8192 * limiting + 2048 * band + applies) := by
  refine BitVec.eq_of_toNat_eq ?_
  simp only [toNat_append_add, BitVec.toNat_ofNat]
  omega

/-- The sum of the applicability bits, and that it takes eight bits. -/
theorem applyBits_eq (s : State) : ∃ bits, bits < 256
    ∧ (Contributor.all.map fun c => 2 ^ c.code * (s.applies c).toNat).sum = bits
    ∧ s.applyBits = BitVec.ofNat 8 bits := by
  have shown (c : Contributor) : (if s.applies c then 2 ^ c.code else 0) = 2 ^ c.code * (s.applies c).toNat := by
    cases s.applies c <;> simp
  have bit (c : Contributor) : (s.applies c).toNat ≤ 1 := Bool.toNat_le _
  refine ⟨_, ?_, rfl, ?_⟩
  · simp only [Contributor.all, List.map_cons, List.map_nil, List.sum_cons, List.sum_nil, Contributor.code]
    have := bit .rated
    have := bit .stage
    have := bit .band
    have := bit .creep
    have := bit .ceiling
    have := bit .overload
    have := bit .vib
    have := bit .clamp
    omega
  · simp only [State.applyBits, shown]

/-- Part 1 of ALLOWANCE, R159. -/
theorem allowanceWords_one (s : State) : s.allowanceWords 1 = ([s.vib.allowance, s.limiter.clamp.level,
    s.limiter.allowance, 8192 * s.limiter.limiting.code + 2048 * s.limiter.band.val
      + (Contributor.all.map fun c => 2 ^ c.code * (s.applies c).toNat).sum,
    s.overloadPercent]).map (BitVec.ofNat 16) := by
  obtain ⟨bits, small, sum, applyBits⟩ := applyBits_eq s
  rw [sum]
  simp only [List.map_cons, List.map_nil, ← limitingWord_eq s.limiter.band.isLt small, ← applyBits]
  rfl

end Reply

/-- Settles O30. -/
theorem allowanceIsSmallest : Obligations.AllowanceIsSmallest := by
  unfold Obligations.AllowanceIsSmallest
  rintro s ⟨limiting, allowance⟩
  obtain ⟨applies, least⟩ := limitingNow_least s
  rw [allowance, limiting]
  refine ⟨fun c applies => ?_, applies, rfl, fun c applies earlier => ?_, rfl, bne_iff_ne, bne_iff_ne, beq_iff_eq,
    regulating_iff s.st, beq_iff_eq, Iff.rfl, Iff.rfl, fun c => by cases c <;> rfl, ?_, fun q index sub => ?_⟩
  · have := least c applies
    omega
  · have := least c applies
    omega
  · show BitVec.ofNat 16 s.limiter.allowance = _
    rw [allowance]
  · have words := allowanceWords_one s
    rw [allowance, limiting] at words
    have inside : q.sub.toNat = 0 := by rw [sub]; rfl
    have answer : answerOf 4 q s = answerAllowance q s := rfl
    rw [answer, answerAllowance, ranged, if_pos (by omega), index, words]

end Sys2Proof.Machine
end

section
/-!
PROOFS. The expiries of the torque limiter: the breakaway stage (R75, R77), the surge reference (R82) and the clamp hold
with the CLAMP composed again (R84, R86, R87).
-/

namespace Sys2Proof.Machine

/-- A timer that runs is not stopped. -/
theorem running_not_isNone {t : Option Nat} (runs : t.isSome = true) : ¬t.isNone = true := by
  cases t <;> simp at runs ⊢

section CauseSets

theorem CauseSet.set_set (t : CauseSet) (c : Cause) (v w : CauseField) : (t.set c v).set c w = t.set c w := by
  cases c <;> rfl

theorem CauseSet.set_get (t : CauseSet) (c : Cause) : t.set c (t.get c) = t := by
  cases c <;> rfl

/-- A code names its cause. -/
theorem causeOfCode_code (c : Cause) : causeOfCode c.code = c := by
  cases c <;> rfl

variable (s : State)

/-- The cause unit at a rise, R111. -/
theorem risen_record (c : Cause) : s.risen c = { s with cause := { s.cause with
    causes := s.cause.causes.set c
      { present := true, latched := true, count := min 255 ((s.causeField c).count + 1) } } } := by
  refine onCauses_congr s (f := fun t => (t.set c { s.causeField c with present := true }).latchCount c)
    (g := fun t => t.set c { present := true, latched := true, count := min 255 ((s.causeField c).count + 1) }) ?_
  simp only [CauseSet.latchCount, CauseSet.get_set_self, CauseSet.set_set]
  rfl

/-- A trip ends in a state to which none of the five causes of `endedCauses` belongs. -/
theorem tripTarget_ended {c : Cause} (own : c ∈ Cause.ofStates) (st : StationState) (standstill : Bool) :
    c ∈ (tripTarget st standstill).endedCauses := by
  have both : c ∈ StationState.tripDecel.endedCauses ∧ c ∈ StationState.tripped.endedCauses := by
    cases c <;> simp [Cause.ofStates] at own <;> decide
  unfold tripTarget
  split
  · exact both.2
  · exact both.1

/-- What an origin trip leaves of the causes that belong to a state: they end, latch and count staying. -/
theorem originTrip_ended (c detail) (h : s.st.canTrip = true) {e : Cause} (own : e ∈ Cause.ofStates) :
    (s.originTrip c detail).causeField e = { s.causeField e with present := false } := by
  have can : (s.originBegun c detail).st.canTrip = true := by rwa [originBegun_st]
  have latched := tripMove_latched (s.originBegun c detail) e
  have begun : (s.originBegun c detail).causeField e = s.causeField e :=
    congrArg (CauseSet.get · e) (originBegun_causes s c detail)
  obtain ⟨u, ne, last⟩ := tripMove_last _ can
  have ended : ((s.originBegun c detail).tripMove.causeField e).present = false := by
    rw [last]
    exact moveTo_ended ne (tripTarget_ended own _ _)
  rw [begun] at latched
  rw [originTrip_eq, CauseField.mk.injEq]
  exact ⟨ended, latched⟩

end CauseSets

section Stage

variable {s : State}

theorem exec_stageTimer (runs : s.timers.stage.isSome = true) : exec .stageTimerExpiry s = .next
    (if s.st ≠ .breakaway then s.onTimers fun t => { t with stage := none }
      else if s.limiter.stage < 3 then s.setStage (s.limiter.stage + 1)
      else (s.onTimers fun t => { t with stage := none }).present .noBreakaway true s.speed.stageEdges) :=
  congrArg Host.Outcome.next (if_neg (running_not_isNone runs))

/-- In BREAKAWAY no jam is watched: the allowance recomputed stops the jam timer and ends JAM. -/
theorem setStage_breakaway (st : s.st = .breakaway) (stage : Nat) : s.setStage stage = { s with
    limiter := { s.limiter with
      stage := stage, stageValue := s.cfg.stageLevel stage
      allowance := (s.setStage stage).limiter.allowance, limiting := (s.setStage stage).limiter.limiting }
    timers := { s.timers with stage := some (s.cfg.stageTime * 1000), jam := none }
    speed := { s.speed with stageEdges := 0 }
    cause := { s.cause with causes := s.cause.causes.cease .jam } } := by
  unfold State.setStage
  rw [recompute_eq, judgeJam_idle]
  · rfl
  · refine weighed_unwatched _ ?_
    show s.st.cruising = false
    rw [st]
    rfl

end Stage

/-- Settles O33. -/
theorem stageAdvances : Obligations.StageAdvances := by
  unfold Obligations.StageAdvances
  intro s runs
  rw [exec_stageTimer runs]
  refine ⟨fun st low => ?_, fun st third absent => ?_, fun elsewhere => ?_⟩
  · rw [if_neg (not_not.mpr st), if_pos low]
    exact ⟨_, rfl, setStage_breakaway st _, recompute_allowance _⟩
  · rw [if_neg (not_not.mpr st), if_neg (by omega)]
    have can : (s.onTimers fun t => { t with stage := none }).st.canTrip = true := by
      show s.st.canTrip = true
      rw [st]
      rfl
    have joined : (s.onTimers fun t => { t with stage := none }).st.joined = true := by
      show s.st.joined = true
      rw [st]
      rfl
    rw [present_rises _ _ joined rfl absent, rise_trip _ _ rfl can]
    refine ⟨_, rfl, ?_, ?_, ?_⟩
    · rw [risen_record]
      rfl
    · rw [← st]
      exact originTrip_st _ _ _ can
    · rw [originTrip_ended (e := .noBreakaway) _ _ _ (by exact can) (by decide)]
  · rw [if_pos elsewhere]
    rfl

section SurgeTimer

variable {s : State}

theorem testSurge_eq (s : State) : s.testSurge = s.onCauses fun t =>
    if s.reg.feedback - s.limiter.surgeReference ≤ s.cfg.surgeThreshold then
      t.set .surge { s.causeField .surge with present := false }
    else t := by
  unfold State.testSurge
  by_cases within : s.reg.feedback - s.limiter.surgeReference ≤ s.cfg.surgeThreshold
  · cases present : (s.causeField .surge).present with
    | true =>
      rw [if_pos (by simpa using within)]
      exact onCauses_congr s (if_pos within).symm
    | false =>
      have same : { s.causeField .surge with present := false } = s.cause.causes.get .surge := by
        rw [← present]
        rfl
      rw [if_neg (by simp)]
      refine Eq.trans rfl (onCauses_congr s (f := id) ?_)
      rw [if_pos within, same, CauseSet.set_get]
      rfl
  · rw [if_neg (by simpa using fun _ => within)]
    exact Eq.trans rfl (onCauses_congr s (f := id) (if_neg within).symm)

end SurgeTimer

section ClampHold

variable {s : State}

/-- The clamp record's hold over, and the allowance recomputed, R84, R87. -/
def State.unclamped (s : State) : State :=
  (s.onLimiter fun l => { l with clamp := l.clamp.expired }).recompute

theorem exec_clampHold (active : s.limiter.clamp.active = true) : exec .clampHoldExpiry s = .next
    (match s.unclamped.clampToResend with
      | none => s.unclamped
      | some c => s.unclamped.composeClamp c) := by
  exact congrArg Host.Outcome.next (if_neg (by simp [active]))

/-- The CLAMP-action causes that are present, R87. -/
def State.presentClamps (s : State) : List Cause :=
  Cause.all.filter fun c => s.actionOf c == .clamp && (s.causeField c).present

theorem mem_presentClamps (c : Cause) :
    c ∈ s.presentClamps ↔ s.actionOf c = .clamp ∧ (s.causeField c).present = true := by
  simp [State.presentClamps, mem_causes]

/-- JAM is no CLAMP-action cause: the end of the hold leaves the CLAMP-action causes as they are. -/
theorem unclamped_presentClamps : s.unclamped.presentClamps = s.presentClamps := by
  have stays : Stays s s.unclamped := (stays_onLimiter s _).trans (stays_recompute _)
  refine List.filter_congr fun c _ => ?_
  rw [stays.actionOf]
  by_cases jam : c = .jam
  · subst jam
    rfl
  · rw [stays.causeField c jam]

theorem clampToResend_none (h : s.presentClamps = []) : s.clampToResend = none := by
  unfold State.clampToResend
  rw [State.presentClamps] at h
  rw [h]

/-- The cause taken is the one of the lowest level, the earliest code among equals, R87. -/
theorem clampToResend_some {c : Cause} (clamps : c ∈ s.presentClamps) (least : ∀ d ∈ s.presentClamps,
      s.cause.actions.level c < s.cause.actions.level d
        ∨ (s.cause.actions.level c = s.cause.actions.level d ∧ c.code ≤ d.code)) :
    s.clampToResend = some c := by
  obtain ⟨first, rest, causes⟩ := List.exists_cons_of_ne_nil (List.ne_nil_of_mem clamps)
  have sorted : (first :: rest).Pairwise fun x y => x.code < y.code :=
    causes ▸ List.Pairwise.filter _ (by decide)
  obtain ⟨member, lowest⟩ := foldl_lesser s.cause.actions.level Cause.code first rest sorted
  have taken : s.clampToResend = some (rest.foldl (lesser s.cause.actions.level) first) := by
    unfold State.clampToResend
    rw [State.presentClamps] at causes
    rw [causes]
    rfl
  rw [taken, ← causeOfCode_code c, ← causeOfCode_code (rest.foldl _ first)]
  have below := lowest c (causes ▸ clamps)
  have above := least _ (causes ▸ member)
  rw [show (rest.foldl (lesser s.cause.actions.level) first).code = c.code by omega]

theorem unclamped_ignores (p : ClampPayload) (own : (s.entry s.loader.station).foreign = false) (hold : p.hold ≠ 0) :
    ¬s.unclamped.IgnoresOwnClamp p := by
  have foreign : (s.unclamped.entry s.unclamped.loader.station).foreign = false := own
  have inactive : s.unclamped.limiter.clamp.active = false := rfl
  simpa [State.IgnoresOwnClamp, foreign, inactive] using hold

theorem clampHold_lt (w : Settings) : w.clampHold < 65536 := (w.getD 49 0).isLt

end ClampHold

/-- Settles O34. -/
theorem surgeAndClampHoldTimers : Obligations.SurgeAndClampHoldTimers := by
  unfold Obligations.SurgeAndClampHoldTimers
  refine ⟨fun s runs => ?_, fun s active => ⟨fun none => ?_, fun c action present least => ?_⟩⟩
  · refine congrArg Host.Outcome.next ((if_neg (running_not_isNone runs)).trans ?_)
    rw [testSurge_eq]
    rfl
  · have causes : s.presentClamps = [] := List.eq_nil_iff_forall_not_mem.mpr fun c inside => by
      obtain ⟨action, present⟩ := mem_presentClamps c |>.mp inside
      rw [none c action] at present
      cases present
    rw [exec_clampHold active, clampToResend_none (unclamped_presentClamps.trans causes)]
    exact ⟨_, rfl, recompute_allowance _, rfl⟩
  · have resent : s.unclamped.clampToResend = some c := by
      refine clampToResend_some ?_ fun d inside => ?_
      · rw [unclamped_presentClamps]
        exact mem_presentClamps c |>.mpr ⟨action, present⟩
      · rw [unclamped_presentClamps] at inside
        obtain ⟨action', present'⟩ := mem_presentClamps d |>.mp inside
        exact least d action' present'
    have answer : exec .clampHoldExpiry s = .next (s.unclamped.composeClamp c) := by
      rw [exec_clampHold active, resent]
    rw [answer]
    refine ⟨fun loud => ⟨_, rfl, ?_, ?_⟩, fun mute own hold level => ⟨_, rfl, ?_, ?_⟩⟩
    · rw [composeClamp_loud _ c (by exact loud)]
      rfl
    · rw [composeClamp_loud _ c (by exact loud)]
      rfl
    · have nonzero : (s.unclamped.clampOf c).hold ≠ 0 := fun zero => by
        have := congrArg BitVec.toNat zero
        have small := clampHold_lt s.cfg
        change s.cfg.clampHold % 65536 = 0 at this
        omega
      have remaining : s.cfg.clampHold % 65536 = s.cfg.clampHold := Nat.mod_eq_of_lt (clampHold_lt s.cfg)
      have height : s.cause.actions.level c % 65536 = s.cause.actions.level c := Nat.mod_eq_of_lt level
      rw [composeClamp_mute _ (by exact mute), installClamp_own _ (unclamped_ignores _ own nonzero)]
      show ClampRecord.mk true (s.cause.actions.level c % 65536) s.loader.station (BitVec.ofNat 5 c.code)
        (s.cfg.clampHold % 65536) 0 = _
      rw [remaining, height]
    · rw [composeClamp_mute _ (by exact mute), installClamp_link]
      rfl

end Sys2Proof.Machine
end

section
/-!
PROOFS. A condition presented to the cause unit (R109 to R112, R122) by the action of its cause and the state, and the
timers that present one (R81, R100).
-/

namespace Sys2Proof.Machine

section Acts

variable (s : State) {c : Cause} (detail : Int)

/-- A TRIP-action rise in LOCKOUT is latched and counted alone, R111. -/
theorem rise_lockout (action : s.actionOf c = .trip) (st : s.st = .lockout) : s.rise c detail = s.risen c := by
  have action : (s.risen c).actionOf c = .trip := action
  have st : (s.risen c).st = .lockout := st
  rw [rise_eq, State.actOnRise, action, st]
  rfl

/-- A TRIP-action rise in a tripped state is a subsequent cause, R111, R122. -/
theorem rise_subsequent (action : s.actionOf c = .trip) (tripped : s.st.isTripped = true) :
    s.rise c detail = (s.risen c).subsequentCause c none := by
  have action : (s.risen c).actionOf c = .trip := action
  have tripped : (s.risen c).st.isTripped = true := tripped
  have still : (s.risen c).st.canTrip = false := by
    cases st : (s.risen c).st <;> rw [st] at tripped <;> simp [StationState.isTripped] at tripped <;> rfl
  simp [rise_eq, State.actOnRise, action, still, tripped]

theorem rise_clamp_mute (action : s.actionOf c = .clamp) (mute : s.link.mute = true) :
    s.rise c detail = (s.risen c).installClamp s.loader.station (s.clampOf c) := by
  have action : (s.risen c).actionOf c = .clamp := action
  rw [rise_eq, State.actOnRise, action]
  exact composeClamp_mute _ mute

/-- The record with its subsequent cause before CLEARING is left, R122. -/
def State.subsequentRecorded (s : State) (c : Cause) (carried : Option Word) : State :=
  if s.cause.context.isSome then s.onCurrent (TripRecord.addSubsequent s.clock.timeMark c carried) else s

/-- A subsequent cause ends CLEARING, R122 and log 50. -/
theorem subsequentCause_clearing (carried) (st : s.st = .clearing) :
    s.subsequentCause c carried = (s.subsequentRecorded c carried).moveTo .tripped := by
  have recorded : (s.subsequentRecorded c carried).st = .clearing := by
    unfold State.subsequentRecorded
    split <;> exact st
  exact if_pos recorded

theorem subsequentRecorded_blocks (c : Cause) (carried) : (s.subsequentRecorded c carried).cause = s.cause
    ∧ (s.subsequentRecorded c carried).st = s.st
    ∧ (s.cause.context = none → (s.subsequentRecorded c carried).records = s.records) := by
  unfold State.subsequentRecorded
  split
  · next some =>
    exact ⟨rfl, rfl, fun none => by simp [none] at some⟩
  · exact ⟨rfl, rfl, fun _ => rfl⟩

/-- A TRIP-action rise in CLEARING returns the station to TRIPPED, R122. -/
theorem rise_clearing (action : s.actionOf c = .trip) (st : s.st = .clearing) : let t := s.rise c detail
    t.st = .tripped ∧ t.lines.loopDrive = true ∧ t.timers.clearWindow = none ∧ t.cause.g = s.cause.g
      ∧ (t.causeField c).latched = true ∧ (t.causeField c).count = min 255 ((s.causeField c).count + 1)
      ∧ (s.cause.context = none → t.records = s.records) := by
  obtain ⟨cause, recorded, records⟩ := subsequentRecorded_blocks (s.risen c) c none
  have recorded : ((s.risen c).subsequentRecorded c none).st = .clearing := recorded.trans st
  have leaves : ((s.risen c).subsequentRecorded c none).st ≠ .tripped := by
    rw [recorded]
    decide
  have field : ((s.risen c).subsequentRecorded c none).causeField c = (s.risen c).causeField c :=
    congrArg (fun u : CauseUnit => u.causes.get c) cause
  obtain ⟨latched, count⟩ := moveTo_latched ((s.risen c).subsequentRecorded c none) .tripped c
  rw [field, risen_causeField] at latched count
  rw [rise_subsequent s detail action (by rw [st]; rfl), subsequentCause_clearing _ _ (by exact st)]
  refine ⟨st_moveTo _ _, ?_, ?_, ?_, latched, count, fun none => ?_⟩
  · rw [moveTo_lines leaves]
    rfl
  · rw [moveTo_timers leaves]
    exact if_pos recorded
  · rw [moveTo_g, cause]
    rfl
  · rw [moveTo_records, records none]
    rfl

/-- A TRIP-action rise with the converter stopped or stopping, outside CLEARING, R122, R136. -/
theorem rise_recorded (action : s.actionOf c = .trip) (st : s.st = .tripDecel ∨ s.st = .tripped) :
    s.rise c detail = (s.risen c).onRecords fun r =>
      if s.cause.context.isSome then r.onCurrent (TripRecord.addSubsequent s.clock.timeMark c none) else r := by
  have tripped : s.st.isTripped = true := by rcases st with st | st <;> rw [st] <;> rfl
  rw [rise_subsequent s detail action tripped, subsequentCause_eq]
  · rfl
  · show s.st ≠ _
    rcases st with st | st <;> rw [st] <;> decide

end Acts

section JamTrip

variable {s : State}

theorem exec_jamTimer (runs : s.timers.jam.isSome = true) : exec .jamTimerExpiry s
    = .next (State.present { s with timers := { s.timers with jam := none } } .jam true s.speed.speed) :=
  congrArg Host.Outcome.next (if_neg (running_not_isNone runs))

/-- No jam is watched in the states that a trip leads to, R80. -/
theorem originTrip_jam (s : State) (c detail) (can : s.st.canTrip = true) : (s.originTrip c detail).timers.jam = none := by
  have can' : (s.originBegun c detail).st.canTrip = true := by rwa [originBegun_st]
  obtain ⟨u, ne, last⟩ := tripMove_last _ can'
  have target : ∀ st standstill, (tripTarget st standstill).cruising = false := fun st standstill => by
    unfold tripTarget
    split <;> rfl
  rw [originTrip_eq, last, moveTo_jam ne, if_pos]
  unfold State.jamHolds
  rw [st_moveTo, target]
  rfl

end JamTrip

/-- Settles O48. -/
theorem risesActedOn : Obligations.RisesActedOn := by
  unfold Obligations.RisesActedOn
  refine ⟨fun s r c d risen => ?_, fun s runs => exec_jamTimer runs,
    fun s runs => congrArg Host.Outcome.next (if_neg (running_not_isNone runs)), fun s runs cruising absent => ?_⟩
  · obtain rfl : r = s.risen c := risen.trans (risen_record s c).symm
    refine ⟨fun apart b => present_unjoined s c b d apart, fun joined => present_ceases s d joined rfl,
      fun _ already => present_present s d rfl already, fun joined absent => ?_⟩
    rw [present_rises s d joined rfl absent]
    refine ⟨rise_alert s d, rise_clamp s d, fun action mute => ⟨fun ignored => ?_, fun taken => ?_⟩, rise_lockout s d,
      fun action st none => ?_, fun action st some => ?_, rise_clearing s d, rise_trip s d⟩
    · rw [rise_clamp_mute s d action mute]
      exact installClamp_ignored (s.risen c) ignored
    · have own := installClamp_own (s.risen c) (p := s.clampOf c) taken
      have stays := stays_installClamp (s.risen c) s.loader.station (s.clampOf c)
      rw [rise_clamp_mute s d action mute]
      exact ⟨_, own, recompute_allowance _, own ▸ stays.causeField, rfl⟩
    · rw [rise_recorded s d action st, none]
      rfl
    · rw [rise_recorded s d action st, some]
      rfl
  · obtain ⟨joined, can⟩ := cruising_rows cruising
    rw [exec_jamTimer runs, present_rises _ _ (by exact joined) rfl (by exact absent), rise_trip _ _ rfl (by exact can)]
    obtain ⟨st, halted, -⟩ := originTrip_effects
      (({ s with timers := { s.timers with jam := none } } : State).risen .jam) .jam s.speed.speed can
    refine ⟨_, rfl, st, originTrip_jam _ _ _ can, halted, ?_⟩
    rw [originTrip_ended _ _ _ (by exact can) (by decide), risen_causeField]
    rfl

end Sys2Proof.Machine
end

section
/-!
PROOFS. Echo faults up to MUTE (R86, R111, R133, R149, R150, R153) and discarded frames (R143, R147, R151).
-/

namespace Sys2Proof.Machine

section Returned

/-- The frame of each class goes back to its slot, where it finds it empty, R153. -/
theorem returnFrame_eq {l : Link} {f : TxFrame} (joining : Bool) :
    l.transmitter = some f → l.returnFrame joining = { l with
      transmitter := none, idle := 0, bitMicros := 0
      tripSlot := match f with
        | .trip p => if l.tripSlot = none then some p else l.tripSlot
        | _ => l.tripSlot
      clampSlot := match f with
        | .clamp p => if l.clampSlot = none then some p else l.clampSlot
        | _ => l.clampSlot
      shareSlot := match f with
        | .share p => if l.shareSlot = none then some p else l.shareSlot
        | _ => l.shareSlot
      rollSlot := match f with
        | .roll p => if joining = true ∧ l.rollSlot = none then some p else l.rollSlot
        | _ => l.rollSlot
      counters := { l.counters with
        shareOvertaken := match f with
          | .share _ => if l.shareSlot = none then l.counters.shareOvertaken
              else min 65535 (l.counters.shareOvertaken + 1)
          | _ => l.counters.shareOvertaken } } := by
  intro sends
  unfold Link.returnFrame
  simp only [sends]
  cases f with
  | trip p => cases l.tripSlot <;> rfl
  | clamp p => cases l.clampSlot <;> rfl
  | share p => cases l.shareSlot <;> simp [LinkCounters.countOvertaken, bump]
  | reply p => rfl
  | roll p => cases joining <;> cases l.rollSlot <;> rfl

end Returned

section Muted

variable {s : State}

/-- The clamp record after a CLAMP of this station's own is offered to it, R85. -/
def State.clampAfter (s : State) (c : ClampRecord) (p : ClampPayload) : ClampRecord :=
  if (s.entry s.loader.station).foreign = true ∨ p.hold = 0 ∨ (c.active = true ∧ c.level < p.level.toNat) then c
  else { active := true, level := p.level.toNat, origin := s.loader.station, causeCode := p.causeCode,
         remaining := p.hold.toNat, remainingUs := 0 }

theorem installClamp_clamp (s : State) (p : ClampPayload) :
    (s.installClamp s.loader.station p).limiter.clamp = s.clampAfter s.limiter.clamp p := by
  by_cases ignored : s.IgnoresOwnClamp p
  · rw [installClamp_ignored s ignored]
    exact (if_pos ignored).symm
  · rw [installClamp_own s ignored]
    exact (if_neg ignored).symm

theorem Stays.clampAfter {t : State} (h : Stays s t) : t.clampAfter = s.clampAfter := by
  funext c p
  simp only [State.clampAfter, h.entry, h.loader]

/-- Several CLAMPs applied here, one after the other, R86. -/
theorem installAll_clamp (ps : List ClampPayload) (s : State) :
    (ps.foldl (fun s p => s.installClamp s.loader.station p) s).limiter.clamp
        = ps.foldl s.clampAfter s.limiter.clamp
      ∧ (ps.foldl (fun s p => s.installClamp s.loader.station p) s).records = s.records := by
  induction ps generalizing s with
  | nil => exact ⟨rfl, rfl⟩
  | cons p ps ih =>
    obtain ⟨clamp, records⟩ := ih (s.installClamp s.loader.station p)
    rw [installClamp_clamp, (stays_installClamp s _ p).clampAfter] at clamp
    exact ⟨clamp, records.trans (installClamp_records s _ p)⟩

/-- The CLAMP frames that the entry to MUTE finds waiting, R150. -/
def Link.waitingClamps (l : Link) : List ClampPayload :=
  (match l.transmitter with | some (.clamp p) => [p] | _ => [])
    ++ (match l.clampSlot with | some p => [p] | none => [])

theorem enterMute_clamp (s : State) (loud : s.link.mute = false) :
    s.enterMute.limiter.clamp = s.link.waitingClamps.foldl s.clampAfter s.limiter.clamp
      ∧ s.enterMute.records = s.records := by
  have eq : s.enterMute = s.link.waitingClamps.foldl (fun s p => s.installClamp s.loader.station p)
      (s.onLink Link.muted) := if_neg (by simp [loud])
  rw [eq]
  exact installAll_clamp s.link.waitingClamps (s.onLink Link.muted)

/-- While MUTE a TRIP-action rise composes no frame, R150. -/
theorem rise_trip_mute {c : Cause} (detail) (action : s.actionOf c = .trip) (mute : s.link.mute = true) :
    (s.rise c detail).link = s.link := by
  refine rise_trip_cases s (P := fun t => t.link = s.link) detail action (fun _ => ?_) ?_ rfl
  · rw [originTrip_eq, tripMove_link, originBegun_link]
    have mute : (s.risen c).link.mute = true := mute
    rw [State.linkWithTrip, if_pos mute]
    rfl
  · exact subsequentCause_link _ _ _

/-- No trip touches the clamp record. -/
theorem rise_trip_clamp (s : State) {c : Cause} (detail) (action : s.actionOf c = .trip) :
    (s.rise c detail).limiter.clamp = s.limiter.clamp := by
  refine rise_trip_cases s (P := fun t => t.limiter.clamp = s.limiter.clamp) detail action (fun _ => ?_) ?_ rfl
  · rw [originTrip_eq, tripMove_clamp, originBegun_limiter]
    rfl
  · refine subsequentCause_cases _ (P := fun t => t.limiter.clamp = s.limiter.clamp) c none fun u recorded => ?_
    have same : u.limiter.clamp = s.limiter.clamp := by rcases recorded with rfl | rfl <;> rfl
    exact ⟨same, fun _ => (moveTo_clamp _ _).trans same⟩

end Muted

section Echo

variable {s : State} {f : TxFrame}

/-- The fourth echo fault in a row counted, with the class of its frame, R149, R150. -/
def State.echoCounted (s : State) (f : TxFrame) : State :=
  (s.onLink Link.countEcho).onLink fun l => { l with idle := 0, bitMicros := 0, faultClass := some f.classCode }

/-- The station silenced by it, before LINK_TRANSMIT is presented, R150. -/
def State.echoMuted (s : State) (f : TxFrame) : State :=
  (s.echoCounted f).enterMute

/-- The clamp record after a frame from the transmitter is applied here, which a CLAMP is alone, R86. -/
def State.clampSent (s : State) (f : TxFrame) (c : ClampRecord) : ClampRecord :=
  match f with
  | .clamp p => s.clampAfter c p
  | _ => c

theorem exec_echoFault_few (sends : s.link.transmitter = some f) (few : s.link.consecutive < 3) :
    exec .echoFault s = .next (s.onLink fun l => l.countEcho.returnFrame (s.st == .joining)) := by
  have below : ¬4 ≤ (s.onLink Link.countEcho).link.consecutive := by
    show ¬4 ≤ min 4 (s.link.consecutive + 1)
    omega
  show Host.Outcome.next (match s.link.transmitter with | none => s | some f => _) = _
  rw [sends]
  exact congrArg Host.Outcome.next (if_neg below)

theorem exec_echoFault_fourth (sends : s.link.transmitter = some f) (third : s.link.consecutive = 3) :
    exec .echoFault s = .next ((s.echoMuted f).present .linkTransmit true f.classCode) := by
  have fourth : 4 ≤ (s.onLink Link.countEcho).link.consecutive := by
    show 4 ≤ min 4 (s.link.consecutive + 1)
    omega
  show Host.Outcome.next (match s.link.transmitter with | none => s | some f => _) = _
  rw [sends]
  exact congrArg Host.Outcome.next (if_pos fourth)

theorem stays_echoMuted (s : State) (f : TxFrame) : Stays s (s.echoMuted f) :=
  ((stays_onLink s _).trans (stays_onLink _ _)).trans (stays_enterMute _)

theorem echoMuted_link (loud : s.link.mute = false) : (s.echoMuted f).link = { s.link with
    transmitter := none, tripSlot := none, clampSlot := none, shareSlot := none, rollSlot := none, queue := []
    mute := true, idle := 0, bitMicros := 0, abortBits := 8, consecutive := min 4 (s.link.consecutive + 1)
    faultClass := some f.classCode
    counters := { s.link.counters with echoFaults := min 65535 (s.link.counters.echoFaults + 1) } } :=
  (enterMute_effects (s.echoCounted f) loud).2

/-- A CLAMP from the transmitter, then one from its slot, is applied here, R86, R150. -/
theorem echoMuted_clamp (sends : s.link.transmitter = some f) (loud : s.link.mute = false) :
    (s.echoMuted f).limiter.clamp = (match s.link.clampSlot with
        | some q => s.clampAfter (s.clampSent f s.limiter.clamp) q
        | none => s.clampSent f s.limiter.clamp)
      ∧ (s.echoMuted f).records = s.records := by
  obtain ⟨clamp, records⟩ := enterMute_clamp (s.echoCounted f) loud
  refine ⟨clamp.trans ?_, records⟩
  show List.foldl s.clampAfter s.limiter.clamp ((match s.link.transmitter with | some (.clamp p) => [p] | _ => [])
    ++ (match s.link.clampSlot with | some p => [p] | none => [])) = _
  rw [sends]
  cases f <;> cases s.link.clampSlot <;> rfl

/-- The link and the clamp record stand while LINK_TRANSMIT is presented. -/
theorem presented_mute (c : Cause) (detail) (action : s.actionOf c = .trip) (mute : s.link.mute = true) :
    (s.present c true detail).link = s.link ∧ (s.present c true detail).limiter.clamp = s.limiter.clamp :=
  present_cases s (P := fun t => t.link = s.link ∧ t.limiter.clamp = s.limiter.clamp) c true detail ⟨rfl, rfl⟩
    (fun _ met => by cases met) fun _ _ _ => ⟨rise_trip_mute detail action mute, rise_trip_clamp s detail action⟩

/-- The record that an origin trip opens, R132, R133. -/
theorem originTrip_record (c detail) (can : s.st.canTrip = true) (ok : s.records.Ok) :
    ∃ i r, (s.originTrip c detail).records.current = some i ∧ (s.originTrip c detail).records.slots.get i = some r
      ∧ r.firstCause = c ∧ r.detail = detail ∧ r.closed = false ∧ r.stateAtTrip = s.st := by
  obtain ⟨-, -, -, -, -, records⟩ := originTrip_effects s c detail can
  obtain ⟨i, current, slot⟩ := insert_current ok
    (s.newRecord (s.tripContext (some (successor s.cause.g)) (some s.loader.station) false .origin) c detail)
  rw [records]
  exact ⟨i, _, current, slot, rfl, rfl, rfl, rfl⟩

end Echo

section Discards

variable {s : State} (bits : List Bool)

theorem exec_discard_deaf (active : s.link.active = true) (deaf : s.link.listening = false) :
    exec (.frameDiscard bits) s = .next (s.onLink fun l => l.lineRead (idleAfter l.idle bits)) :=
  congrArg Host.Outcome.next ((if_neg (by simp [active])).trans (if_pos (by simp [deaf])))

theorem exec_discard_heard (active : s.link.active = true) (listening : s.link.listening = true) :
    exec (.frameDiscard bits) s = .next (match receive bits with
      | .discarded fault used => s.onLink fun l =>
          { l.lineRead (idleAfter (idleAtDiscard bits fault used) (bits.drop used)) with
            counters := l.counters.countDiscard fault }
      | .valid _ | .noStart => s) :=
  congrArg Host.Outcome.next ((if_neg (by simp [active])).trans (if_neg (by simp [listening])))

/-- A listening controller goes on listening over the bits of a discarded frame. -/
theorem lineRead_listening {l : Link} (idle : Nat) (listening : l.listening = true) : l.lineRead idle = { l with
    idle := idle, bitMicros := 0, abortBits := 0, lineBusy := false } := by
  simp [Link.lineRead, listening]

/-- A discarded frame adds to the counter of its first fault, and the idle count goes on over the bits read, R147, R151. -/
theorem exec_discard_fault {fault : FrameFault} {used : Nat} (active : s.link.active = true)
    (listening : s.link.listening = true) (discarded : receive bits = .discarded fault used) :
    exec (.frameDiscard bits) s = .next { s with link := { s.link with
      idle := idleAfter (idleAtDiscard bits fault used) (bits.drop used), bitMicros := 0, abortBits := 0
      lineBusy := false, counters := s.link.counters.countDiscard fault } } := by
  rw [exec_discard_heard bits active listening, discarded]
  refine congrArg Host.Outcome.next (onLink_congr s (g := fun l => { l with
    idle := idleAfter (idleAtDiscard bits fault used) (bits.drop used), bitMicros := 0, abortBits := 0
    lineBusy := false, counters := l.counters.countDiscard fault }) ?_)
  rw [lineRead_listening _ listening]

theorem countDiscard_framing {fault : FrameFault} (k : LinkCounters) (framing : fault ≠ .checkWord) :
    k.countDiscard fault = { k with framingErrors := min 65535 (k.framingErrors + 1) } := by
  cases fault with
  | checkWord => exact absurd rfl framing
  | _ => rfl

end Discards

/-- Settles O57. -/
theorem echoFaultsAndDiscards : Obligations.EchoFaultsAndDiscards := by
  unfold Obligations.EchoFaultsAndDiscards
  refine ⟨fun s f sends few => ?_, fun s empty => ?_, fun s f sends third loud => ?_, fun idle b rest => ⟨rfl, rfl⟩,
    fun s bits inactive => congrArg Host.Outcome.next (if_pos (by simp [inactive])), fun s bits active deaf => ?_,
    fun s bits active listening kept => ?_, fun s bits fault used active listening discarded => ?_⟩
  · have consecutive : min 4 (s.link.consecutive + 1) = s.link.consecutive + 1 := by omega
    have returned := returnFrame_eq (l := s.link.countEcho) (s.st == .joining) sends
    rw [exec_echoFault_few sends few]
    refine congrArg Host.Outcome.next ?_
    unfold State.onLink
    dsimp only
    rw [returned]
    simp only [Link.countEcho, bump, consecutive, beq_iff_eq] <;> rfl
  · show Host.Outcome.next (match s.link.transmitter with | none => s | some f => _) = _
    rw [empty]
  · intro applied first
    have stays := stays_echoMuted s f
    have link := echoMuted_link (f := f) loud
    obtain ⟨clamp, records⟩ := echoMuted_clamp sends loud
    obtain ⟨link', clamp'⟩ := presented_mute (s := s.echoMuted f) .linkTransmit f.classCode rfl (by rw [link])
    rw [link] at link'
    rw [exec_echoFault_fourth sends third]
    refine ⟨_, rfl, ?_, ?_, ?_, ?_, ?_, ?_, ?_, ?_, ?_, ?_, ?_, ?_, ?_, fun apart => ?_, fun joined absent => ?_⟩
    · rw [link', third]
      rfl
    · rw [link']
    · rw [link']
    · rw [link']
    · rw [link']
    · rw [link']
    · rw [link']
    · rw [link']
    · rw [link']
    · rw [link']
    · rw [link']
      cases f <;> rfl
    · rw [link']
    · rw [clamp', clamp]
      cases f <;> rfl
    · rw [present_unjoined _ _ _ _ (by rw [stays.st, apart])]
      exact ⟨stays.st, stays.causeField _ (by decide)⟩
    · have field := stays.causeField .linkTransmit (by decide)
      rw [present_rises _ _ (by rw [stays.st, joined]) rfl (by rw [field, absent])]
      refine ⟨?_, fun can => ?_, fun can ok => ?_⟩
      · rw [rise_trip_causeField _ _ rfl (by decide), field]
      · rw [← stays.st] at can
        rw [rise_trip _ _ rfl can, ← stays.st, ← stays.speed, ← stays.g]
        exact ⟨originTrip_st _ _ _ can, originTrip_g _ _ _⟩
      · rw [← stays.st] at can
        rw [rise_trip _ _ rfl can, ← stays.st]
        exact originTrip_record _ _ can (records ▸ ok.1)
  · rw [exec_discard_deaf bits active deaf]
    simp [State.onLink, Link.lineRead, deaf, beq_eq_decide]
  · rw [exec_discard_heard bits active listening]
    rcases kept with none | ⟨f, valid⟩
    · rw [none]
    · rw [valid]
  · rw [exec_discard_fault bits active listening discarded]
    refine ⟨fun check => ?_, fun framing => ?_⟩
    · rw [check]
      rfl
    · rw [countDiscard_framing _ framing]

end Sys2Proof.Machine
end

section
/-!
PROOFS. The vibration watch apart from its own commands (R93, R98, R99, R101, R104): what causes, trips, sequencing,
frames and orders do to the station state and the watch, they do by changes of state alone (`MovesOnly`).
-/

namespace Sys2Proof.Machine

/-- A change of the station state as the vibration watch sees it. -/
inductive WatchMove : StationState × VibWatch → StationState × VibWatch → Prop
  | move (w : Settings) (old new : StationState) (v : VibWatch) : WatchMove (old, v) (new, v.onMove w old new)

/-- From `s` to `t` the station state and the vibration watch changed by changes of state alone. -/
def MovesOnly (s t : State) : Prop :=
  Relation.ReflTransGen WatchMove (s.st, s.vib) (t.st, t.vib)

namespace MovesOnly

variable {s t u : State}

section Relation

theorem refl (s : State) : MovesOnly s s := Relation.ReflTransGen.refl

theorem trans (h : MovesOnly s t) (k : MovesOnly t u) : MovesOnly s u := Relation.ReflTransGen.trans h k

/-- What every change of state keeps is kept. -/
theorem keeps {P : StationState → VibWatch → Prop} (h : MovesOnly s t)
    (move : ∀ w old new v, P old v → P new (v.onMove w old new)) (start : P s.st s.vib) : P t.st t.vib := by
  have kept : ∀ {p q : StationState × VibWatch}, Relation.ReflTransGen WatchMove p q → P p.1 p.2 → P q.1 q.2 := by
    intro p q moves
    induction moves with
    | refl => exact id
    | tail _ last ih =>
      intro start
      cases last
      exact move _ _ _ _ (ih start)
  exact kept h start

variable (h : MovesOnly s t)
include h

theorem same (st : u.st = t.st) (vib : u.vib = t.vib) : MovesOnly s u := by
  unfold MovesOnly
  rw [st, vib]
  exact h

theorem stays (k : Stays t u) : MovesOnly s u := h.same k.st k.vib

theorem moveTo (new : StationState) : MovesOnly s (t.moveTo new) := by
  by_cases still : t.st = new
  · rwa [moveTo_eq t still]
  · refine Relation.ReflTransGen.tail h ?_
    rw [st_moveTo, moveTo_vib still]
    exact .move _ _ _ _

omit h in
/-- Two ways that both change the watch by changes of state alone. -/
theorem ite {p : Prop} [Decidable p] {x y : State} (hx : MovesOnly s x) (hy : MovesOnly s y) :
    MovesOnly s (if p then x else y) := by
  split
  · exact hx
  · exact hy

end Relation

section Causes

variable (h : MovesOnly s t)
include h

theorem onTimers (f) : MovesOnly s (t.onTimers f) := h.same rfl rfl

theorem onCause (f) : MovesOnly s (t.onCause f) := h.same rfl rfl

theorem onCauses (f) : MovesOnly s (t.onCauses f) := h.same rfl rfl

theorem onReg (f) : MovesOnly s (t.onReg f) := h.same rfl rfl

theorem onSpeed (f) : MovesOnly s (t.onSpeed f) := h.same rfl rfl

theorem onGen (f) : MovesOnly s (t.onGen f) := h.same rfl rfl

theorem onLoader (f) : MovesOnly s (t.onLoader f) := h.same rfl rfl

theorem onInputs (f) : MovesOnly s (t.onInputs f) := h.same rfl rfl

theorem onMonitor (f) : MovesOnly s (t.onMonitor f) := h.same rfl rfl

theorem onRecords (f) : MovesOnly s (t.onRecords f) := h.same rfl rfl

theorem onLimiter (f) : MovesOnly s (t.onLimiter f) := h.same rfl rfl

theorem onLink (f) : MovesOnly s (t.onLink f) := h.same rfl rfl

theorem onEntry (n f) : MovesOnly s (t.onEntry n f) := h.same rfl rfl

theorem setCause (c v) : MovesOnly s (t.setCause c v) := h.same rfl rfl

theorem writeOutcome (source code tag) : MovesOnly s (t.writeOutcome source code tag) := h.same rfl rfl

theorem judgeJam : MovesOnly s t.judgeJam := h.stays (stays_judgeJam t)

theorem recompute : MovesOnly s t.recompute := h.stays (stays_recompute t)

theorem tripMove : MovesOnly s t.tripMove :=
  tripMove_keeps (P := MovesOnly s) t id (fun _ new _ k => k.moveTo new) h

theorem refreshMembers : MovesOnly s t.refreshMembers := h.same rfl rfl

theorem setG (n) : MovesOnly s (t.setG n) := h.same rfl rfl

theorem latchCount (c) : MovesOnly s (t.latchCount c) := h.same rfl rfl

theorem beginTrip (number origin confirmed part c detail) :
    MovesOnly s (t.beginTrip number origin confirmed part c detail) := h.same rfl rfl

theorem originTrip (c detail) : MovesOnly s (t.originTrip c detail) := by
  have begun := (h.setG (successor t.cause.g)).beginTrip (some (successor t.cause.g)) (some t.loader.station) false
    .origin c detail
  rw [originTrip_eq]
  exact (begun.same rfl rfl : MovesOnly s (t.originBegun c detail)).tripMove

theorem followerTrip (n origin detail) : MovesOnly s (t.followerTrip n origin detail) :=
  (((h.setG n).latchCount .peerTrip).beginTrip _ _ _ _ _ _).tripMove

theorem loopTrip : MovesOnly s t.loopTrip := by
  have counted : MovesOnly s t.loopCounted := h.same rfl rfl
  rw [loopTrip_eq]
  exact (counted.beginTrip _ _ _ _ _ _).tripMove.same rfl rfl

theorem loopCheck : MovesOnly s t.loopCheck := ite h.loopTrip h

theorem subsequentCause (c carried) : MovesOnly s (t.subsequentCause c carried) := by
  refine subsequentCause_cases t (P := MovesOnly s) c carried fun u recorded => ?_
  have kept : MovesOnly s u := by rcases recorded with rfl | rfl <;> exact h
  exact ⟨kept, fun _ => kept.moveTo _⟩

theorem actOnRise (c detail) : MovesOnly s (t.actOnRise c detail) := by
  unfold State.actOnRise
  split
  · exact ite (h.originTrip c detail) (ite (h.subsequentCause c none) h)
  · exact h.stays (stays_composeClamp t c)
  · exact h

theorem rise (c detail) : MovesOnly s (t.rise c detail) := actOnRise (t := t.risen c) h c detail

theorem present (c cond detail) : MovesOnly s (t.present c cond detail) :=
  ite h (ite (ite h (h.rise c detail)) h)

omit h in
theorem inFreeOrder {α : Type} {f : α → State → State} (n : Nat) (l : List α)
    (each : ∀ x u, MovesOnly s u → MovesOnly s (f x u)) (h : MovesOnly s t) :
    MovesOnly s (State.inFreeOrder f n l t) :=
  inFreeOrder_keeps n l (fun x _ => each x) (fun _ _ k => k) h

end Causes

section Sequencing

variable (h : MovesOnly s t)
include h

theorem enterStopped : MovesOnly s t.enterStopped := (h.moveTo .stopped).loopCheck

theorem enterStandby : MovesOnly s t.enterStandby := (h.moveTo .standby).loopCheck

theorem enterSelftest (tag) : MovesOnly s (t.enterSelftest tag) :=
  (moveTo (t := t.onSeq fun q => { q with selftestTag := tag }) h .selftest).loopCheck

theorem checkGroupShort : MovesOnly s t.checkGroupShort := h.present _ _ _

theorem enterMode (m) : MovesOnly s (t.enterMode m) := (h.moveTo _).checkGroupShort

theorem leaveBreakaway : MovesOnly s t.leaveBreakaway := h.enterMode _

theorem enterBreakaway : MovesOnly s t.enterBreakaway :=
  have entered := (h.moveTo .breakaway).checkGroupShort
  ite entered.leaveBreakaway entered

theorem enterDecel : MovesOnly s t.enterDecel :=
  ite (h.moveTo .decel).enterStopped (h.moveTo .decel)

theorem enterStarting : MovesOnly s t.enterStarting := by
  have entered := h.moveTo .starting
  unfold State.enterStarting
  exact ite (enterBreakaway entered) entered

theorem countChanged : MovesOnly s t.countChanged := by
  unfold State.countChanged
  split
  · exact ite (enterStopped (t := t.writeMarked .tooFew) h) (ite h h)
  · exact ite h h
  · exact ite (moveTo (t := t.writeMarked .runAsCreep) h .creep) h
  · exact h

theorem checkGroup (changed) : MovesOnly s (t.checkGroup changed) := by
  have raised : MovesOnly s ((t.unwatched changed).raised (t.rising changed)) :=
    inFreeOrder _ _ (fun c _ k => k.rise c 0) (h.onCauses _)
  rw [checkGroup_eq]
  unfold State.groupEnded
  exact ite raised (raised.onCauses _)

theorem standbyExit : MovesOnly s t.standbyExit := ite (ite h.enterStopped (h.enterSelftest 0)) h

theorem reevaluate : MovesOnly s t.reevaluate := by
  have relisted : MovesOnly s t.relisted := ite h h
  have counted : MovesOnly s (t.relisted.counted (t.relisted.count != t.count)) := ite relisted.countChanged relisted
  have regrouped : MovesOnly s (t.relisted.regrouped (t.relisted.count != t.count)) :=
    (counted.checkGroup _).standbyExit
  rw [reevaluate_eq]
  exact ite regrouped.enterBreakaway regrouped

theorem peerCauses : MovesOnly s t.peerCauses := ((h.present _ _ _).present _ _ _).present _ _ _

theorem refreshPeer (origin cls) : MovesOnly s (t.refreshPeer origin cls) :=
  ite (peerCauses (t := t.onEntry origin (PeerEntry.refreshed cls)) h).reevaluate h

theorem haltFromJoining : MovesOnly s t.haltFromJoining := h.moveTo .faultHalt

theorem enterMute : MovesOnly s t.enterMute := h.stays (stays_enterMute t)

theorem duplicate : MovesOnly s t.duplicate := ite h.haltFromJoining (ite (h.present _ _ _).enterMute h)

end Sequencing

section Current

variable (h : MovesOnly s t)
include h

theorem limited (sample) : MovesOnly s (t.limited sample) := by
  have sensed : MovesOnly s (t.sensed sample) := (h.same rfl rfl : MovesOnly s (t.sampled sample)).present _ _ _
  have loaded : MovesOnly s (t.sensed sample).loaded :=
    (sensed.same rfl rfl : MovesOnly s (t.sensed sample).heated).present _ _ _
  exact ite (loaded.recompute.present _ _ _) loaded.recompute

theorem finished : MovesOnly s t.finished := by
  have regulated : MovesOnly s t.regulate := ite (h.same rfl rfl) (ite (h.same rfl rfl) (h.same rfl rfl))
  exact regulated.same rfl rfl

theorem reselectBand : MovesOnly s t.reselectBand := ite h (recompute (h.same rfl rfl))

theorem speedChanged : MovesOnly s t.speedChanged := (h.present _ _ _).reselectBand.judgeJam

theorem checkRotation : MovesOnly s t.checkRotation := ite h.leaveBreakaway h

theorem tachEdge (edge) : MovesOnly s (t.tachEdge edge) :=
  ite h (h.same rfl rfl : MovesOnly s t.edgeAccepted).speedChanged.checkRotation

theorem standstillReached : MovesOnly s t.standstillReached := by
  unfold State.standstillReached
  split
  · exact h.enterStopped
  · exact h.moveTo _
  · exact h

end Current

section Trips

variable (h : MovesOnly s t)
include h

theorem changeContext (ctx) : MovesOnly s (t.changeContext ctx) := h.same rfl rfl

theorem numberLoopTrip : MovesOnly s t.numberLoopTrip := by
  unfold State.numberLoopTrip
  split
  · exact h
  · exact ite h (((h.setG _).changeContext _).onLink _)

theorem peerTripSubsequent (n) : MovesOnly s (t.peerTripSubsequent n) :=
  ((h.setG n).latchCount .peerTrip).subsequentCause _ _

theorem tripWhileTripped (sender p) : MovesOnly s (t.tripWhileTripped sender p) := by
  unfold State.tripWhileTripped
  split
  · exact ite (h.peerTripSubsequent _) h
  · exact ite (ite h h) (ite (ite (ite h h) h) (ite (h.peerTripSubsequent _) h))

theorem learnG (n) : MovesOnly s (t.learnG n) := ite h h

theorem takeTrip (sender p) : MovesOnly s (t.takeTrip sender p) :=
  ite (ite h (h.learnG _)) (ite (ite (h.followerTrip _ _ _) h) (ite (ite h h) (ite (h.tripWhileTripped sender p) h)))

end Trips

section Selftest

variable (h : MovesOnly s t)
include h

theorem selftestReport (passed) : MovesOnly s (t.selftestReport passed) := by
  have done : MovesOnly s (t.onSeq fun q => { q with selftestDone := true }) := h.same rfl rfl
  unfold State.selftestReport
  cases passed with
  | true =>
    have passed := (done.setCause .selftestFail { t.causeField .selftestFail with present := false, latched := false }
      ).writeOutcome .order .selftestPassed t.seq.selftestTag
    exact ite passed.enterStandby passed.enterStopped
  | false =>
    exact ite (((done.present _ _ _).writeOutcome _ _ _).enterStandby)
      (((done.present _ _ _).writeOutcome _ _ _).enterStopped)

end Selftest

section Timers

variable (h : MovesOnly s t)
include h

theorem age : MovesOnly s t.age := ite (peerCauses (t := t.ageEntries) h).reevaluate h

theorem presentAll : MovesOnly s t.presentAll := inFreeOrder _ _ (fun c _ k => k.present c _ _) h

theorem joinEnd : MovesOnly s t.joinEnd := by
  have moved := moveTo (t := (t.onLink fun l => { l with rollSlot := none }).onSeq fun q => { q with selftestTag := 0 })
    h t.joinEndState
  exact presentAll moved

theorem joinStep : MovesOnly s t.joinStep :=
  ite h (ite h (joinEnd (t := t.onPeers fun p => { p with joinExpiries := p.joinExpiries + 1 }) h))

theorem composeShare : MovesOnly s t.composeShare := ((h.onReg _).onEntry _ _).onLink _

theorem setStage (stage) : MovesOnly s (t.setStage stage) := (((h.onLimiter _).onTimers _).onSpeed _).recompute

theorem loseDemand : MovesOnly s t.loseDemand := by
  unfold State.loseDemand
  split
  · exact h.enterStopped
  · exact h.enterDecel
  · exact h.enterDecel
  · exact h.enterDecel
  · exact h

theorem exitRise (c) : MovesOnly s (State.exitRise c t) := by
  unfold State.exitRise
  split
  · exact h.loopCheck
  · exact (h.latchCount _).actOnRise _ _

theorem lockoutExit : MovesOnly s t.lockoutExit :=
  ite ((h.onCauses CauseSet.readied).moveTo .tripped)
    (inFreeOrder _ _ (fun c _ k => k.exitRise c)
      ((h.onCauses CauseSet.unlatch).moveTo _))

theorem actOnFiltered : MovesOnly s t.actOnFiltered := by
  have judged : MovesOnly s t.judgeLockout := ite h (ite (ite h h) h)
  exact ite judged.lockoutExit judged

end Timers

section Demands

variable (h : MovesOnly s t)
include h

theorem answerDemand (code p) : MovesOnly s (t.answerDemand code p) := h.same rfl rfl

theorem mark (p) : MovesOnly s (t.mark p) := h.same rfl rfl

theorem intend (m) : MovesOnly s (t.intend m) := h.same rfl rfl

theorem demandStart (m p) : MovesOnly s (t.demandStart m p) :=
  ite (h.answerDemand _ p) (ite (h.answerDemand _ p) (ite (h.answerDemand _ p)
    (((h.intend _).mark p).answerDemand _ p).enterStarting))

theorem demandResume (m p) : MovesOnly s (t.demandResume m p) :=
  ite (h.answerDemand _ p) (ite (h.answerDemand _ p) (ite (h.answerDemand _ p)
    (((h.mark p).answerDemand _ p).enterMode _)))

theorem demandChange (m p) : MovesOnly s (t.demandChange m p) :=
  ite (h.answerDemand _ p) ((h.answerDemand _ p).enterMode _)

theorem demandStop (p) : MovesOnly s (t.demandStop p) := by
  unfold State.demandStop
  split
  · exact (h.answerDemand _ p).enterStopped
  · exact (h.answerDemand _ p).enterDecel
  · exact (h.answerDemand _ p).enterDecel
  · exact (h.answerDemand _ p).enterDecel
  · exact h

theorem demandGo (m p) : MovesOnly s (t.demandGo m p) := by
  unfold State.demandGo
  split
  case h_1 => exact h.demandStart m p
  case h_2 => exact h.demandResume m p
  case h_3 | h_4 => exact ite (h.mark p) (((h.mark p).intend _).answerDemand _ p)
  case h_5 | h_6 => exact ite (h.mark p) ((h.mark p).demandChange m p)
  case h_7 => exact h.answerDemand _ p
  case h_14 | h_15 => exact h
  all_goals exact h.mark p

theorem takeDemand (p) : MovesOnly s (t.takeDemand p) := by
  have noted : MovesOnly s (t.noteDemand p) := ((((h.onLimiter _).recompute.onReg _).onTimers _).onCauses _)
  unfold State.takeDemand
  dsimp only
  split
  · exact noted.demandStop p
  · exact noted.demandGo _ p

end Demands

section Orders

variable (h : MovesOnly s t)
include h

theorem answerOrder (code p) : MovesOnly s (t.answerOrder code p) := h.same rfl rfl

theorem keepRecord (p) : MovesOnly s (State.keepRecord p t) := by
  refine ite (h.answerOrder _ p) ?_
  split
  · exact h.answerOrder _ p
  · exact ite (h.answerOrder _ p) (ite (h.answerOrder _ p) (h.same rfl rfl))

theorem releaseRecord (p) : MovesOnly s (State.releaseRecord p t) := by
  refine ite (h.answerOrder _ p) ?_
  split
  · exact h.answerOrder _ p
  · exact h.same rfl rfl

theorem orderSelftest (p) : MovesOnly s (State.orderSelftest p t) :=
  ite ((h.answerOrder _ p).enterSelftest _) (h.answerOrder _ p)

theorem beginClear (p) : MovesOnly s (t.beginClear p) := by
  have clearing := (h.onCauses CauseSet.unlatchAll).moveTo .clearing
  unfold State.beginClear
  dsimp only
  split
  · exact ((clearing.onTimers _).onCause _).answerOrder _ p
  · exact (((clearing.onTimers _).onCause _).answerOrder _ p).enterStopped

theorem clearTrip (p) : MovesOnly s (State.clearTrip p t) := ite (h.beginClear p) (h.answerOrder _ p)

end Orders

section Frames

/-- A frame on the line, heard or not: what every change of the watch by changes of state keeps, and the handling too. -/
theorem hears_cases {P : State → Prop} (f) {handle : State → State} (h : MovesOnly s t)
    (moved : ∀ u, MovesOnly s u → P u)
    (handled : ∀ u, MovesOnly s u → P (handle u)) : P (t.hears f handle) := by
  unfold State.hears
  split
  · exact moved _ (h.onLink _)
  · split
    · exact moved _ (h.onLink _)
    · exact handled _ (h.onLink _)

/-- A frame that is neither a SHARE nor a ROLL, up to its owner. -/
theorem frameArrives_cases {P : State → Prop} (f) {owner : State → State} (h : MovesOnly s t)
    (moved : ∀ u, MovesOnly s u → P u) (owned : ∀ u, MovesOnly s u → P (owner u)) : P (t.frameArrives f owner) := by
  refine hears_cases f h moved fun u k => ?_
  split
  · exact moved _ k.duplicate
  · dsimp only
    split
    · exact moved _ ((k.refreshPeer _ _).onLink _)
    · exact owned _ (k.refreshPeer _ _)

theorem hears (f) {handle : State → State} (h : MovesOnly s t) (handled : ∀ u, MovesOnly s u → MovesOnly s (handle u)) :
    MovesOnly s (t.hears f handle) := hears_cases f h (fun _ k => k) handled

theorem frameArrives (f) {owner : State → State} (h : MovesOnly s t)
    (owned : ∀ u, MovesOnly s u → MovesOnly s (owner u)) : MovesOnly s (t.frameArrives f owner) :=
  frameArrives_cases f h (fun _ k => k) owned

theorem orderArrives (origin kind p) {act : State → State} (h : MovesOnly s t)
    (acted : ∀ u, MovesOnly s u → MovesOnly s (act u)) : MovesOnly s (t.orderArrives origin kind p act) :=
  frameArrives _ h fun u k => ite (acted u k) k

variable (h : MovesOnly s t)
include h

theorem takeQuery (item q answer) : MovesOnly s (t.takeQuery item q answer) := by
  unfold State.takeQuery
  split
  · exact h
  · split
    · exact h
    · exact ite h h

theorem query (origin item q) (answer : State → Answer) : MovesOnly s (t.query origin item q answer) :=
  frameArrives _ h fun _ k => k.takeQuery _ _ _

theorem confirmStart (origin p) : MovesOnly s (t.confirmStart origin p) := ite (ite (enterBreakaway h) h) h

theorem peerRotation (origin p) : MovesOnly s (t.peerRotation origin p) := ite h.leaveBreakaway h

theorem followStage (origin p) : MovesOnly s (t.followStage origin p) := ite h h

theorem trimAtShare (origin) : MovesOnly s (t.trimAtShare origin) := ite h h

theorem settleByShare (origin p) : MovesOnly s (t.settleByShare origin p) := by
  unfold State.settleByShare
  split
  · exact h
  · exact ite h h

theorem learnFrom (origin g) : MovesOnly s (t.learnFrom origin g) := ite (h.learnG g) h

theorem readShare (origin p) : MovesOnly s (t.readShare origin p) :=
  (((((h.reevaluate.learnFrom origin p.g).confirmStart origin p).peerRotation origin p).followStage origin p).trimAtShare
    origin).settleByShare origin p

theorem takeShare (origin p) : MovesOnly s (t.takeShare origin p) := by
  have entered := (h.onEntry origin (PeerEntry.takeShare t.cfg.signature p)).peerCauses
  exact ite (entered.refreshMembers.followerTrip _ _ _) (entered.readShare origin p)

theorem takeRoll (origin p) : MovesOnly s (t.takeRoll origin p) :=
  (h.onEntry origin (PeerEntry.takeRoll t.cfg.signature p)).peerCauses.reevaluate.learnFrom origin p.g

theorem muteOnEcho (n) : MovesOnly s (t.muteOnEcho n) :=
  (h.onLink _).enterMute.present _ _ _

theorem takeEcho (f) : MovesOnly s (t.takeEcho f) := by
  have echoed : MovesOnly s (t.countValid.onEntry t.loader.station fun e => { e with heard := bump 65535 e.heard }) :=
    h.same rfl rfl
  cases f with
  | trip p => exact echoed.takeTrip _ p
  | clamp p => exact echoed.stays (stays_installClamp _ _ p)
  | share _ => exact echoed
  | reply _ => exact echoed
  | roll _ => exact echoed

end Frames

end MovesOnly

section Commands

/-- The commands that bring a sample to the vibration watch, R91, R102. -/
def bringsSample : Instr → Bool
  | .vibSampleArrival _ _ | .patternSample _ => true
  | _ => false

variable (s : State)

theorem movesOnly_currentSample (sample) : MovesOnly s (landed s (exec (.currentSampleArrival sample) s)) := by
  cases runs : s.st.blocksRun with
  | true =>
    rw [exec_sample s sample runs]
    exact ((MovesOnly.refl s).limited sample).finished
  | false =>
    have stays : exec (.currentSampleArrival sample) s = .next s :=
      congrArg Host.Outcome.next (if_neg (by rw [runs]; decide))
    rw [stays]
    exact .refl s

theorem movesOnly_echoFault : MovesOnly s (landed s (exec .echoFault s)) := by
  have here := MovesOnly.refl s
  show MovesOnly s (landed s (execEchoFault s))
  unfold execEchoFault landed
  dsimp only
  split
  · exact here
  · exact .ite ((here.onLink Link.countEcho).muteOnEcho _) ((here.onLink Link.countEcho).onLink _)

theorem movesOnly_transmitSuccess : MovesOnly s (landed s (exec .transmitSuccess s)) := by
  have here := MovesOnly.refl s
  show MovesOnly s (landed s (execTransmitSuccess s))
  unfold execTransmitSuccess landed
  dsimp only
  split
  · exact here
  · exact (here.onLink _).takeEcho _

theorem movesOnly_frameDiscard (bits) : MovesOnly s (landed s (exec (.frameDiscard bits) s)) := by
  have here := MovesOnly.refl s
  refine .ite (here.onLink _) (.ite (here.onLink _) ?_)
  split
  · exact here.onLink _
  · exact here
  · exact here

theorem movesOnly_clampHoldExpiry : MovesOnly s (landed s (exec .clampHoldExpiry s)) := by
  have expired := ((MovesOnly.refl s).onLimiter fun l => { l with clamp := l.clamp.expired }).recompute
  refine .ite (.refl s) ?_
  split
  · exact expired
  · exact expired.stays (stays_composeClamp _ _)

theorem movesOnly_localInputFiltered (i) : MovesOnly s (landed s (exec (.localInputFiltered i) s)) := by
  have here := MovesOnly.refl s
  have filtered : MovesOnly s ((s.onTimers (Timers.setFilter i none)).onSeq (Sequencer.setFiltered i (s.pin i))) :=
    here.same (by cases i <;> rfl) rfl
  refine .ite here ?_
  cases i with
  | lstop => exact (filtered.present _ _ _).actOnFiltered
  | maint => exact filtered.actOnFiltered

/-- A command that brings no sample, and neither resets nor starts the block nor lets time pass, changes the vibration
watch by changes of state alone. -/
theorem movesOnly_ordinary {c : Instr} (plain : ordinary c = true) (other : bringsSample c = false) :
    MovesOnly s (landed s (exec c s)) := by
  have here := MovesOnly.refl s
  have timed (f) := here.onTimers f
  cases c with
  | currentSampleArrival x => exact movesOnly_currentSample s x
  | conductionPeriodStart => exact .ite here (.ite (((here.onGen _).onReg _).present _ _ _) ((here.onGen _).onReg _))
  | conductionOnEnd => exact .ite (here.onGen _) here
  | standstill => exact .ite here (here.onSpeed _).speedChanged.standstillReached
  | vibSilenceExpiry => exact .ite here ((timed _).present _ _ _)
  | loopSenseChange x => exact .ite (here.onInputs _).loopCheck (.ite (here.onInputs _).enterStopped (here.onInputs _))
  | loopWaitExpiry => exact .ite here (timed _).numberLoopTrip
  | clearWindowExpiry => exact .ite here (.ite (((timed _).moveTo _).writeOutcome _ _ _) (timed _))
  | agingExpiry => exact .ite here (timed _).age.joinStep
  | shareTimerExpiry => exact .ite here (timed _).composeShare
  | historyTimerExpiry => exact .ite here ((timed _).onRecords _)
  | demandTimerExpiry => exact .ite here (.ite ((timed _).present _ _ _).loseDemand (timed _))
  | startWindowExpiry => exact .ite here (.ite ((timed _).writeOutcome _ _ _).enterStopped (timed _))
  | stageTimerExpiry => exact .ite here (.ite (timed _) (.ite (here.setStage _) ((timed _).present _ _ _)))
  | jamTimerExpiry => exact .ite here ((timed _).present _ _ _)
  | surgeTimerExpiry => exact .ite here (.onLimiter (.ite ((timed _).onCauses _) (timed _)) _)
  | clampHoldExpiry => exact movesOnly_clampHoldExpiry s
  | lockoutTimerExpiry => exact .ite here (.ite ((timed _).moveTo _) (timed _))
  | localInputEdge i level => exact .ite here (.ite (here.onInputs _) ((here.onInputs _).onTimers _))
  | localInputFiltered i => exact movesOnly_localInputFiltered s i
  | demandFrame o p => exact here.frameArrives _ fun _ k => k.takeDemand p
  | orderSelftest o p => exact here.orderArrives _ _ _ fun _ k => k.orderSelftest p
  | clearTrip o p => exact here.orderArrives _ _ _ fun _ k => k.clearTrip p
  | keepRecord o p => exact here.orderArrives _ _ _ fun _ k => k.keepRecord p
  | releaseRecord o p => exact here.orderArrives _ _ _ fun _ k => k.releaseRecord p
  | discardRecords o p => exact here.orderArrives _ _ _ fun _ k => (k.onRecords _).answerOrder _ p
  | orderUndefinedKind o kind p => exact here.orderArrives _ _ _ fun _ k => k
  | tripFrame o p => exact here.frameArrives _ fun _ k => k.takeTrip o p
  | clampFrame o p => exact here.frameArrives _ fun u k => k.stays (stays_installClamp u o p)
  | shareFrame o p => exact here.hears _ fun _ k => .ite k.duplicate (k.takeShare o p)
  | rollFrame o p => exact here.hears _ fun _ k => .ite k.duplicate (k.takeRoll o p)
  | replyFrame o words => exact here.frameArrives _ fun _ k => k
  | queryStatus o q | queryCause o q | queryPeer o q | queryAllowance o q | queryCounters o q | queryHistory o q
  | queryRecordEntry o q | queryRecordHead o q | queryRecordSnap o q | queryRecordList o q | queryNoSuchItem o item q =>
    exact here.query o _ q _
  | frameDiscard bits => exact movesOnly_frameDiscard s bits
  | transmitStart start =>
    cases start with
    | own => exact .ite (here.onLink _) here
    | another => exact .ite here (here.onLink _)
  | arbitrationLoss => exact .ite here (here.onLink _)
  | echoFault => exact movesOnly_echoFault s
  | transmitSuccess => exact movesOnly_transmitSuccess s
  | guardTimerExpiry => exact .ite here (.ite (timed _) (((timed _).onLoader _).present _ _ _))
  | settingsUpset i v => exact here.same rfl rfl
  | supplyLevelCrossing n => exact .ite (here.onInputs _) (((here.onInputs _).onMonitor _).present _ _ _)
  | vibSampleArrival | patternSample => cases other
  | _ => cases plain

end Commands

end Sys2Proof.Machine
end

section
/-!
PROOFS. The parts of a completed window (R94 to R98) on their own: the integer root, the two comparisons, each a count of
consecutive windows with a cause that follows it, and the derate.
-/

namespace Sys2Proof.Machine

section IntegerRoot

variable {n : Nat}

/-- With `b` bits to try above a root that is not too large, the search ends at the root of `n`. -/
theorem isqrtBits_spec (b root : Nat) (low : root ^ 2 ≤ n) (high : n < (root + 2 ^ b) ^ 2) :
    isqrtBits n b root ^ 2 ≤ n ∧ n < (isqrtBits n b root + 1) ^ 2 := by
  induction b generalizing root with
  | zero => exact ⟨low, high⟩
  | succ b ih =>
    unfold isqrtBits
    split
    · next fits =>
      refine ih _ (by rwa [pow_two]) ?_
      rwa [add_assoc, ← two_mul, ← pow_succ']
    · next large => exact ih _ low (by rwa [pow_two, ← not_le])

theorem isqrt_spec (small : n < 2 ^ 34) : isqrt n ^ 2 ≤ n ∧ n < (isqrt n + 1) ^ 2 :=
  isqrtBits_spec 17 0 (Nat.zero_le n) small

/-- The RMS of a full window within its bound is the root of the mean square, R94: `isqrt` serves so large a number. -/
theorem figures_rms {v : VibWatch} (h : v.WindowOk 32768) (full : v.count = 256) :
    v.figures.rms ^ 2 ≤ v.sumSquares / 256 ∧ v.sumSquares / 256 < (v.figures.rms + 1) ^ 2 := by
  obtain ⟨sum, -⟩ := h
  have small : v.sumSquares / 256 < 2 ^ 34 := by omega
  exact isqrt_spec small

end IntegerRoot

section Comparison

variable {s : State}

/-- What a comparison comes to once its count stands: at the full count the cause is presented, and it ends with the
condition, R95, R96. -/
def State.compared (s : State) (c : Cause) (reached full : Prop) [Decidable reached] [Decidable full]
    (detail : Int) : State :=
  if reached then (if full then s.present c true detail else s) else s.cease c

variable {c : Cause} {reached full : Prop} [Decidable reached] [Decidable full] {detail : Int}

theorem compared_present (joined : s.st.joined = true) (own : c ∉ Cause.ofStates) :
    ((s.compared c reached full detail).causeField c).present
      = (decide reached && ((s.causeField c).present || decide full)) := by
  unfold State.compared
  split
  · next exceeded =>
    split
    · next complete => simp [present_field s true detail joined own, exceeded, complete]
    · next short => simp [exceeded, short]
  · next below =>
    rw [decide_eq_false below, Bool.false_and]
    exact congrArg CauseField.present (CauseSet.get_cease s.cause.causes c)

theorem carries_compared : Carries [c] s (s.compared c reached full detail) := by
  unfold State.compared
  split
  · split
    · exact carries_present s c true detail
    · exact .refl _ s
  · exact .of_only (ceases_only s c)

theorem movesOnly_compared : MovesOnly s (s.compared c reached full detail) :=
  MovesOnly.ite (MovesOnly.ite ((MovesOnly.refl s).present c true detail) (.refl s)) ((MovesOnly.refl s).onCauses _)

/-- A cause of the action alert alters nothing but itself. -/
theorem compared_only (alert : s.actionOf c = .alert) : CausesOnly [c] s (s.compared c reached full detail) := by
  unfold State.compared
  split
  · split
    · exact presented_only s c true detail fun _ _ => .inl alert
    · exact .refl s
  · exact ceases_only s c

/-- A rise that does not change the station state leaves the watch, R111. -/
theorem rise_vib (still : (s.rise c detail).st = s.st) : (s.rise c detail).vib = s.vib := by
  revert still
  by_cases moves : s.actionOf c = .trip ∧ (s.st.canTrip = true ∨ s.st = .clearing)
  · refine rise_trip_cases s (P := fun t => t.st = s.st → t.vib = s.vib) detail moves.1 (fun can still => ?_) ?_
      fun _ => rfl
    · obtain ⟨-, left, -⟩ := (trips_originTrip (s := s.risen c) c detail can).effects
      exact absurd still left
    · refine subsequentCause_cases _ (P := fun t => t.st = s.st → t.vib = s.vib) c none fun u recorded => ?_
      have kept : u.vib = s.vib := by rcases recorded with rfl | rfl <;> rfl
      refine ⟨fun _ => kept, fun clearing still => ?_⟩
      rw [st_moveTo, show s.st = .clearing from clearing] at still
      cases still
  · exact fun _ => (stays_rise s detail moves).vib

theorem compared_vib (still : (s.compared c reached full detail).st = s.st) :
    (s.compared c reached full detail).vib = s.vib := by
  revert still
  unfold State.compared
  split
  · split
    · exact present_cases s (P := fun t => t.st = s.st → t.vib = s.vib) c true detail (fun _ => rfl) (fun _ _ _ => rfl)
        fun _ _ _ => rise_vib
    · exact fun _ => rfl
  · exact fun _ => rfl

end Comparison

section Judgement

theorem CausesOnly.vib {cs : List Cause} {s t : State} (h : CausesOnly cs s t) : t.vib = s.vib := by rw [h.rest]

theorem CausesOnly.st {cs : List Cause} {s t : State} (h : CausesOnly cs s t) : t.st = s.st := by
  rw [h.rest]
  rfl

variable {s : State} {fig : Figures} {band : Fin 4}

/-- The count of consecutive windows that reach a limit, up to `top`, R95, R96. -/
def tally (reached : Prop) [Decidable reached] (top count : Nat) : Nat := if reached then min top (count + 1) else 0

/-- A window reaches the alert limit, R95. -/
abbrev State.OverAlert (s : State) (fig : Figures) (band : Fin 4) : Prop := s.cfg.alertRms band ≤ fig.rms

/-- A window reaches a trip limit, R96. -/
abbrev State.OverTrip (s : State) (fig : Figures) (band : Fin 4) : Prop :=
  s.cfg.tripRms band ≤ fig.rms ∨ s.cfg.tripPeak band ≤ fig.peak

/-- The alert count moved, R95. -/
def State.alertCounted (s : State) (fig : Figures) (band : Fin 4) : State :=
  s.onVib fun v => { v with alertCount := tally (s.OverAlert fig band) s.cfg.alertPersistence v.alertCount }

/-- The trip count moved, R96. -/
def State.tripCounted (s : State) (fig : Figures) (band : Fin 4) : State :=
  s.onVib fun v => { v with tripCount := tally (s.OverTrip fig band) s.cfg.tripPersistence v.tripCount }

theorem overAlert_congr {t : State} (cfg : t.cfg = s.cfg) : t.OverAlert fig band ↔ s.OverAlert fig band := by
  unfold State.OverAlert
  rw [cfg]

theorem judgeAlert_eq : s.judgeAlert fig band = (s.alertCounted fig band).compared .vibAlert (s.OverAlert fig band)
    (tally (s.OverAlert fig band) s.cfg.alertPersistence s.vib.alertCount = s.cfg.alertPersistence) fig.rms := by
  unfold State.judgeAlert State.compared State.alertCounted tally bump
  split <;> rfl

theorem judgeTrip_eq : s.judgeTrip fig band = (s.tripCounted fig band).compared .vibTrip (s.OverTrip fig band)
    (tally (s.OverTrip fig band) s.cfg.tripPersistence s.vib.tripCount = s.cfg.tripPersistence)
    (if s.cfg.tripRms band ≤ fig.rms then fig.rms else fig.peak) := by
  unfold State.judgeTrip State.compared State.tripCounted tally bump
  split <;> rfl

/-- Part 3 counts, and alters no more than VIB_ALERT, whose action is alert, R95. -/
theorem judgeAlert_only : CausesOnly [.vibAlert] (s.alertCounted fig band) (s.judgeAlert fig band) := by
  rw [judgeAlert_eq]
  exact compared_only rfl

theorem judgeAlert_vib : (s.judgeAlert fig band).vib = (s.alertCounted fig band).vib :=
  judgeAlert_only.vib

theorem judgeAlert_st : (s.judgeAlert fig band).st = s.st :=
  judgeAlert_only.st

theorem carries_judgeAlert : Carries [.vibAlert] s (s.judgeAlert fig band) :=
  (Carries.of_readings rfl rfl : Carries _ s (s.alertCounted fig band)).trans (.of_only judgeAlert_only)

theorem judgeAlert_present (joined : s.st.joined = true) :
    ((s.judgeAlert fig band).causeField .vibAlert).present = (decide (s.OverAlert fig band)
      && ((s.causeField .vibAlert).present || (s.alertCounted fig band).vib.alertCount == s.cfg.alertPersistence)) := by
  rw [judgeAlert_eq]
  exact compared_present (s := s.alertCounted fig band) joined (by decide)

/-- Part 4 counts; what VIB_TRIP does further it does by changes of state, R96. -/
theorem movesOnly_judgeTrip : MovesOnly (s.tripCounted fig band) (s.judgeTrip fig band) := by
  rw [judgeTrip_eq]
  exact movesOnly_compared

theorem carries_judgeTrip : Carries [.vibTrip] s (s.judgeTrip fig band) := by
  rw [judgeTrip_eq]
  exact (Carries.of_readings rfl rfl : Carries _ s (s.tripCounted fig band)).trans carries_compared

theorem judgeTrip_present (joined : s.st.joined = true) :
    ((s.judgeTrip fig band).causeField .vibTrip).present = (decide (s.OverTrip fig band)
      && ((s.causeField .vibTrip).present || (s.tripCounted fig band).vib.tripCount == s.cfg.tripPersistence)) := by
  rw [judgeTrip_eq]
  exact compared_present (s := s.tripCounted fig band) joined (by decide)

theorem judgeTrip_vib (still : (s.judgeTrip fig band).st = s.st) :
    (s.judgeTrip fig band).vib = (s.tripCounted fig band).vib := by
  rw [judgeTrip_eq] at still ⊢
  exact compared_vib still

end Judgement

section Derate

variable {s : State} {fig : Figures} {band : Fin 4}

/-- A write of the vibration allowance leaves the rest of the watch, R97. -/
theorem writeVib_vib (s : State) (a : Nat) : (s.writeVib a).vib = { s.vib with allowance := a } := by
  unfold State.writeVib
  split
  · next same => rw [← same]
  · rfl

theorem writeVib_st (s : State) (a : Nat) : (s.writeVib a).st = s.st := by
  unfold State.writeVib
  split <;> rfl

theorem carries_writeVib (s : State) (a : Nat) : Carries [] s (s.writeVib a) := by
  unfold State.writeVib
  split
  · exact .refl _ s
  · exact (Carries.of_readings rfl rfl : Carries _ s (s.onVib fun v => { v with allowance := a })).trans
      (carries_recompute _ [])

/-- The derate step alone, R97. -/
def State.derated (s : State) : State :=
  if (s.causeField .vibAlert).present then
    s.writeVib (max s.cfg.derateFloor (s.vib.allowance - s.cfg.derateStep))
  else s

/-- The quiet count and the recovery alone, R98. -/
def State.quieted (s : State) (fig : Figures) (band : Fin 4) : State :=
  if s.OverAlert fig band then s.onVib fun v => { v with quietCount := 0 }
  else if s.cfg.recoveryWindows ≤ s.vib.quietCount + 1 then
    (s.onVib fun v => { v with quietCount := 0 }).writeVib (min s.cfg.ratedCeiling (s.vib.allowance + s.cfg.derateStep))
  else s.onVib fun v => { v with quietCount := v.quietCount + 1 }

theorem derate_idle (idle : s.st.regulating = false) : s.derate fig band = s := by
  unfold State.derate
  rw [idle]
  rfl

theorem derate_regulating (regulating : s.st.regulating = true) : s.derate fig band = s.derated.quieted fig band := by
  unfold State.derate
  rw [regulating]
  rfl

theorem derated_vib : s.derated.vib = { s.vib with allowance :=
    if (s.causeField .vibAlert).present = true then max s.cfg.derateFloor (s.vib.allowance - s.cfg.derateStep)
    else s.vib.allowance } := by
  unfold State.derated
  split
  · exact writeVib_vib s _
  · rfl

theorem derated_st : s.derated.st = s.st := by
  unfold State.derated
  split
  · exact writeVib_st s _
  · rfl

theorem carries_derated : Carries [] s s.derated := by
  unfold State.derated
  split
  · exact carries_writeVib s _
  · exact .refl _ s

theorem quieted_reached (reached : s.OverAlert fig band) :
    (s.quieted fig band).vib = { s.vib with quietCount := 0 } := by
  unfold State.quieted
  rw [if_pos reached]
  rfl

/-- The last of the recovery windows, R98. -/
theorem quieted_recovers (below : ¬s.OverAlert fig band) (last : s.cfg.recoveryWindows ≤ s.vib.quietCount + 1) :
    (s.quieted fig band).vib = { s.vib with
      quietCount := 0, allowance := min s.cfg.ratedCeiling (s.vib.allowance + s.cfg.derateStep) } := by
  unfold State.quieted
  rw [if_neg below, if_pos last]
  exact writeVib_vib _ _

/-- A quiet window before the last, R98. -/
theorem quieted_counts (below : ¬s.OverAlert fig band) (early : ¬s.cfg.recoveryWindows ≤ s.vib.quietCount + 1) :
    (s.quieted fig band).vib = { s.vib with quietCount := s.vib.quietCount + 1 } := by
  unfold State.quieted
  rw [if_neg below, if_neg early]
  rfl

theorem quieted_st : (s.quieted fig band).st = s.st := by
  unfold State.quieted
  split
  · rfl
  · split
    · exact writeVib_st _ _
    · rfl

theorem carries_quieted : Carries [] s (s.quieted fig band) := by
  unfold State.quieted
  split
  · exact .of_readings rfl rfl
  · split
    · exact (Carries.of_readings rfl rfl : Carries _ s (s.onVib fun v => { v with quietCount := 0 })).trans
        (carries_writeVib _ _)
    · exact .of_readings rfl rfl

/-- The quiet count and the allowance move, and of the watch no more, R97, R98. -/
theorem quieted_vib : ∃ allowance quiet,
    (s.quieted fig band).vib = { s.vib with allowance := allowance, quietCount := quiet } := by
  by_cases reached : s.OverAlert fig band
  · exact ⟨s.vib.allowance, 0, quieted_reached reached⟩
  · by_cases last : s.cfg.recoveryWindows ≤ s.vib.quietCount + 1
    · exact ⟨_, 0, quieted_recovers reached last⟩
    · exact ⟨s.vib.allowance, _, quieted_counts reached last⟩

theorem derate_vib : ∃ allowance quiet,
    (s.derate fig band).vib = { s.vib with allowance := allowance, quietCount := quiet } := by
  cases regulating : s.st.regulating with
  | false =>
    rw [derate_idle regulating]
    exact ⟨_, _, rfl⟩
  | true =>
    obtain ⟨allowance, quiet, quieted⟩ := quieted_vib (s := s.derated) (fig := fig) (band := band)
    rw [derate_regulating regulating, quieted, derated_vib]
    exact ⟨allowance, quiet, rfl⟩

theorem derate_st : (s.derate fig band).st = s.st := by
  cases regulating : s.st.regulating with
  | false => rw [derate_idle regulating]
  | true => rw [derate_regulating regulating, quieted_st, derated_st]

theorem carries_derate : Carries [] s (s.derate fig band) := by
  cases regulating : s.st.regulating with
  | false =>
    rw [derate_idle regulating]
    exact .refl _ s
  | true =>
    rw [derate_regulating regulating]
    exact carries_derated.trans carries_quieted

end Derate

section Window

variable {s : State}

/-- The band of the speed as it stands, R94. -/
abbrev State.bandNow (s : State) : Fin 4 := s.cfg.bandOf s.speed.speed

/-- A full window's figures, and the band of the speed, stored, R94. -/
def State.windowRead (s : State) : State :=
  s.onVib fun v => { v with
    latestRms := v.figures.rms, latestPeak := v.figures.peak, latestBand := s.bandNow }

/-- A full window judged, parts 1 to 4 of R94. -/
def State.windowJudged (s : State) : State :=
  (s.windowRead.judgeAlert s.vib.figures s.bandNow).judgeTrip s.vib.figures s.bandNow

theorem completeWindow_eq : s.completeWindow
    = (s.windowJudged.derate s.vib.figures s.bandNow).onVib VibWatch.emptied := rfl

end Window

end Sys2Proof.Machine
end


section
/-!
PROOFS. The accumulators of the vibration watch within their bounds (R92, R93, R101, R102): a change of the station state
keeps them, a sample enters a window that has room for it, and a full window is emptied at the same event.
-/

namespace Sys2Proof.Machine

/-- What `State.VibrationOk` says of the station state and the watch. -/
def VibWatch.OkIn (v : VibWatch) (st : StationState) : Prop :=
  v.count ≤ 255 ∧ v.patternCount ≤ 255 ∧ v.amplitude ≤ 73726
    ∧ (st.evaluating = true → v.WindowOk 32768)
    ∧ (st = .selftest → v.count = v.patternCount ∧ v.WindowOk v.amplitude)
    ∧ (st.evaluating = false → st ≠ .selftest → v.count = 0 ∧ v.sumSquares = 0 ∧ v.peak = 0)
    ∧ (st ≠ .selftest → v.patternCount = 0)

theorem vibrationOk_iff (s : State) : s.VibrationOk ↔ s.vib.OkIn s.st := Iff.rfl

section Windows

variable {v : VibWatch} {top : Nat} {st old new : StationState} {w : Settings}

/-- An empty window is within any bound. -/
theorem windowOk_empty (sum : v.sumSquares = 0) (peak : v.peak = 0) : v.WindowOk top := by
  simp [VibWatch.WindowOk, sum, peak]

/-- A sample of at most `top` in magnitude keeps the window within its bound, R93. -/
theorem windowOk_take {x : Int} (h : v.WindowOk top) (small : x.natAbs ≤ top) : (v.take x).WindowOk top := by
  obtain ⟨sum, peak⟩ := h
  refine ⟨?_, max_le peak small⟩
  calc v.sumSquares + x.natAbs * x.natAbs ≤ v.count * (top * top) + top * top :=
        Nat.add_le_add sum (Nat.mul_le_mul small small)
    _ = (v.count + 1) * (top * top) := (Nat.succ_mul _ _).symm

/-- An external sample is at most 32768 in magnitude, R91. -/
theorem natAbs_toInt_le (sample : Word) : sample.toInt.natAbs ≤ 32768 := by
  have low := sample.le_toInt
  have high := sample.toInt_lt
  omega

/-- A pattern sample is at most the amplitude in magnitude, R102. -/
theorem natAbs_patternValue_le (v : VibWatch) : v.patternValue.natAbs ≤ v.amplitude := by
  unfold VibWatch.patternValue
  split
  · split <;> omega
  · split <;> omega
  · exact Nat.zero_le _
  · exact Nat.zero_le _

/-- The amplitude of whatever settings: 65535 and an eighth of it at most, R101 (log 9). -/
theorem patternAmplitude_le (w : Settings) : w.patternAmplitude ≤ 73726 := by
  have rms : w.tripRms 3 < 65536 := BitVec.isLt _
  have peak : w.tripPeak 3 < 65536 := BitVec.isLt _
  unfold Settings.patternAmplitude
  dsimp only
  omega

/-- A change of state that ends the window empties it, R93, R104. -/
theorem onMove_ends (ends : windowEnds old new = true) : (v.onMove w old new).count = 0
    ∧ (v.onMove w old new).sumSquares = 0 ∧ (v.onMove w old new).peak = 0 := by
  simp [VibWatch.onMove, ends, VibWatch.emptied]

/-- Any other change of state leaves the window open as it is, R93. -/
theorem onMove_stands (stands : windowEnds old new = false) : (v.onMove w old new).count = v.count
    ∧ (v.onMove w old new).sumSquares = v.sumSquares ∧ (v.onMove w old new).peak = v.peak := by
  simp [VibWatch.onMove, stands]

theorem onMove_patternCount : (v.onMove w old new).patternCount
    = if new = .selftest ∨ old = .selftest then 0 else v.patternCount := by
  unfold VibWatch.onMove
  cases windowEnds old new <;> rfl

theorem onMove_amplitude : (v.onMove w old new).amplitude
    = if new = .selftest then w.patternAmplitude else v.amplitude := by
  unfold VibWatch.onMove
  cases windowEnds old new <;> rfl

theorem onMove_amplitude_le (h : v.amplitude ≤ 73726) : (v.onMove w old new).amplitude ≤ 73726 := by
  rw [onMove_amplitude]
  split
  · exact patternAmplitude_le w
  · exact h

theorem onMove_patternCount_zero (h : old ≠ .selftest → v.patternCount = 0) :
    (v.onMove w old new).patternCount = 0 := by
  rw [onMove_patternCount]
  split
  · rfl
  · next apart =>
    rw [not_or] at apart
    exact h apart.2

/-- With an empty window and no pattern sample the watch is in order in every state. -/
theorem okIn_of_empty (count : v.count = 0) (sum : v.sumSquares = 0) (peak : v.peak = 0) (pattern : v.patternCount = 0)
    (amplitude : v.amplitude ≤ 73726) : v.OkIn st :=
  ⟨by omega, by omega, amplitude, fun _ => windowOk_empty sum peak,
    fun _ => ⟨count.trans pattern.symm, windowOk_empty sum peak⟩, fun _ _ => ⟨count, sum, peak⟩, fun _ => pattern⟩

/-- A change of state keeps the accumulators within their bounds: it ends the window, or leads from one state outside
the self-test to an evaluating one, R93, R104. -/
theorem okIn_onMove (h : v.OkIn old) : (v.onMove w old new).OkIn new := by
  obtain ⟨count, -, amplitude, evaluates, -, idles, apart⟩ := h
  have pattern : (v.onMove w old new).patternCount = 0 := onMove_patternCount_zero apart
  have bounded : (v.onMove w old new).amplitude ≤ 73726 := onMove_amplitude_le amplitude
  cases ends : windowEnds old new with
  | true =>
    obtain ⟨none, sum, peak⟩ := onMove_ends (v := v) (w := w) ends
    exact okIn_of_empty none sum peak pattern bounded
  | false =>
    obtain ⟨sameCount, sameSum, samePeak⟩ := onMove_stands (v := v) (w := w) ends
    simp only [windowEnds, Bool.or_eq_false_iff, Bool.not_eq_false', beq_eq_false_iff_ne] at ends
    obtain ⟨evaluating, outside⟩ := ends
    have window : v.WindowOk 32768 := by
      cases watched : old.evaluating with
      | true => exact evaluates watched
      | false =>
        obtain ⟨-, sum, peak⟩ := idles watched outside
        exact windowOk_empty sum peak
    refine ⟨by omega, by omega, bounded, fun _ => ?_, fun tests => ?_, fun idle => ?_, fun _ => pattern⟩
    · unfold VibWatch.WindowOk
      rw [sameCount, sameSum, samePeak]
      exact window
    · rw [tests] at evaluating
      cases evaluating
    · rw [evaluating] at idle
      cases idle

/-- Outside the self-test no pattern sample is counted; the amplitude is within its bound. With this an emptied window
is in order, however full it was. -/
def VibWatch.Unpatterned (v : VibWatch) : Prop := v.patternCount = 0 ∧ v.amplitude ≤ 73726

theorem unpatterned_onMove (h : v.Unpatterned) : (v.onMove w old new).Unpatterned :=
  ⟨onMove_patternCount_zero fun _ => h.1, onMove_amplitude_le h.2⟩

end Windows

section Samples

variable {s t : State}

theorem MovesOnly.vibrationOk (h : MovesOnly s t) (ok : s.VibrationOk) : t.VibrationOk :=
  h.keeps (P := fun st v => v.OkIn st) (fun _ _ _ _ => okIn_onMove) ok

theorem MovesOnly.unpatterned (h : MovesOnly s t) (k : s.vib.Unpatterned) : t.vib.Unpatterned :=
  h.keeps (P := fun _ v => v.Unpatterned) (fun _ _ _ _ => unpatterned_onMove) k

/-- The comparisons of a full window count windows, and a trip changes the station state, R95, R96. -/
theorem unpatterned_windowJudged (h : s.vib.Unpatterned) : s.windowJudged.vib.Unpatterned := by
  refine movesOnly_judgeTrip.unpatterned ?_
  unfold State.tripCounted
  rw [onVib_vib, judgeAlert_vib]
  exact h

/-- A completed window leaves the watch in order: the accumulators are emptied at its end, R93. -/
theorem completeWindow_vibrationOk (h : s.vib.Unpatterned) : s.completeWindow.VibrationOk := by
  obtain ⟨pattern, amplitude⟩ := unpatterned_windowJudged h
  obtain ⟨_, _, derated⟩ := derate_vib (s := s.windowJudged) (fig := s.vib.figures) (band := s.bandNow)
  rw [completeWindow_eq]
  refine okIn_of_empty rfl rfl rfl ?_ ?_
  · rw [onVib_vib, derated]
    exact pattern
  · rw [onVib_vib, derated]
    exact amplitude

/-- VIB_SAMPLE_ARRIVAL: a sample enters an open window of an evaluating state, and the 256th completes it, R93. -/
theorem takeVibSample_vibrationOk (sample : Word) (ok : s.VibrationOk) : (s.takeVibSample sample).VibrationOk := by
  have bounds := ok
  obtain ⟨count, pattern, amplitude, evaluates, -, -, apart⟩ := bounds
  unfold State.takeVibSample
  split
  · exact ok
  · next evaluating =>
    rw [Bool.not_eq_true, Bool.not_eq_false'] at evaluating
    have outside : s.st ≠ .selftest := by
      intro tests
      rw [tests] at evaluating
      cases evaluating
    dsimp only
    split
    · exact completeWindow_vibrationOk ⟨apart outside, amplitude⟩
    · next room =>
      have room : s.vib.count + 1 ≤ 255 := Nat.lt_succ_iff.mp (Nat.lt_of_not_le room)
      refine ⟨room, pattern, amplitude, fun watched => windowOk_take (evaluates watched) (natAbs_toInt_le sample),
        fun tests => absurd tests outside, fun idle => ?_, apart⟩
      rw [show s.st.evaluating = false from idle] at evaluating
      cases evaluating

/-- A completed test window is emptied with its pattern samples, and the end of the test changes the state, R102. -/
theorem completeTestWindow_vibrationOk (fig) (amplitude : s.vib.amplitude ≤ 73726) :
    (s.completeTestWindow fig).VibrationOk := by
  have emptied (failed phase) : (s.onVib fun v =>
      { v.emptied with failMark := failed, patternCount := 0, phase := phase }).VibrationOk :=
    okIn_of_empty rfl rfl rfl rfl amplitude
  unfold State.completeTestWindow
  dsimp only
  split
  · exact ((MovesOnly.refl _).selftestReport _).vibrationOk (emptied _ _)
  · exact emptied _ _

/-- PATTERN_SAMPLE: one more sample of both counts, at most the amplitude in magnitude, R102. -/
theorem patternSample_vibrationOk (figures) (ok : s.VibrationOk) :
    (landed s (exec (.patternSample figures) s)).VibrationOk := by
  show (landed s (execPatternSample figures s)).VibrationOk
  unfold execPatternSample landed
  dsimp only
  split
  · exact ok
  · next running =>
    rw [not_or, not_not] at running
    obtain ⟨-, pattern, amplitude, -, tests, -⟩ := ok
    obtain ⟨same, window⟩ := tests running.1
    split
    · exact completeTestWindow_vibrationOk _ amplitude
    · next room =>
      have room : s.vib.patternCount + 1 ≤ 255 := Nat.lt_succ_iff.mp (Nat.lt_of_not_le room)
      have taken := windowOk_take window (natAbs_patternValue_le s.vib)
      refine ⟨?_, room, amplitude, fun watched => ?_, fun _ => ⟨congrArg (· + 1) same, taken⟩,
        fun _ outside => absurd running.1 outside, fun outside => absurd running.1 outside⟩
      · show s.vib.count + 1 ≤ 255
        omega
      · have idle : s.st.evaluating = false := by rw [running.1]; rfl
        exact absurd (idle.symm.trans watched) (by decide)

end Samples

section Steps

variable {s : State}

theorem ordinary_vibrationOk {c : Instr} (plain : ordinary c = true) (ok : s.VibrationOk) :
    (landed s (exec c s)).VibrationOk := by
  cases other : bringsSample c with
  | false => exact (movesOnly_ordinary s plain other).vibrationOk ok
  | true =>
    cases c with
    | vibSampleArrival sample stop =>
      show (if (stop && s.st.blocksRun) = true then s.hearConverter.takeVibSample sample else s).VibrationOk
      split
      · exact takeVibSample_vibrationOk sample (s := s.hearConverter) ok
      · exact ok
    | patternSample figures => exact patternSample_vibrationOk figures ok
    | _ => cases other

/-- Neither the clocks nor the output lines nor the surroundings are the watch's. -/
theorem elapse_vibrationOk (n : Nat) (ok : s.VibrationOk) : (s.elapse n).VibrationOk := by
  unfold State.elapse
  split <;> exact ok

theorem settle_vibrationOk (straps : BitVec 3) (s : State) (ok : s.VibrationOk) :
    (landed s (execSettleTimeExpiry straps s)).VibrationOk :=
  landed_settle straps s ok fun _ => ok

/-- Start-up ends in a change of state, which takes the allowance of the watch from the settings before, R164. -/
theorem read_vibrationOk (bytes : List Byte) (ok : s.VibrationOk) :
    (landed s (execParameterReadComplete bytes s)).VibrationOk :=
  landed_read bytes s ok
    (fun _ => ((MovesOnly.refl s).onLoader _ |>.moveTo .faultHalt).vibrationOk ok)
    (fun _ w => ((((MovesOnly.refl (s.takeSettings w)).onEntry _ _).moveTo .joining).onLink _).vibrationOk ok)

theorem beginReset_vibrationOk (s : State) (kind : ResetKind) : (s.beginReset kind).VibrationOk :=
  okIn_of_empty rfl rfl rfl rfl (Nat.zero_le _)

theorem endReset_vibrationOk (ok : s.VibrationOk) : s.endReset.VibrationOk := by
  unfold State.endReset
  split <;> exact ok

theorem takeOwn_vibrationOk (c : Instr) (ok : s.VibrationOk) : (s.takeOwn c).VibrationOk := by
  rcases takeOwn_cases s c with same | ⟨plain, taken⟩ | ⟨straps, rfl⟩
  · rwa [same]
  · rw [taken]
    exact ordinary_vibrationOk plain ok
  · exact settle_vibrationOk straps s ok

theorem nextDue_vibrationOk {t : State} {c : Instr} (due : s.nextDue = some (c, t)) (ok : s.VibrationOk) :
    t.VibrationOk := by
  obtain ⟨inputs, free, rfl⟩ := idles_nextDue due
  exact ok

theorem takeDue_vibrationOk (n : Nat) (s : State) (ok : s.VibrationOk) : (s.takeDue n).VibrationOk := by
  induction n generalizing s with
  | zero => exact ok
  | succ n ih =>
    unfold State.takeDue
    split
    · exact ok
    · next c t due => exact ih _ (takeOwn_vibrationOk c (nextDue_vibrationOk due ok))

theorem pass_vibrationOk (n : Nat) (s : State) (ok : s.VibrationOk) : (s.pass n).VibrationOk := by
  induction n generalizing s with
  | zero => exact ok
  | succ n ih => exact ih _ (elapse_vibrationOk 1 (takeDue_vibrationOk ownKinds s ok))

/-- ORDER RESTART: taken as any other ORDER, and then perhaps the reset, R43. -/
theorem orderRestart_vibrationOk (origin order) (ok : s.VibrationOk) :
    (landed s (exec (.orderRestart origin order) s)).VibrationOk := by
  refine (MovesOnly.refl s).frameArrives_cases (P := State.VibrationOk) _
    (owner := fun u => if u.addressed order.target then State.orderRestart order u else u)
    (fun u k => k.vibrationOk ok) fun u k => ?_
  split
  · unfold State.orderRestart
    split
    · exact endReset_vibrationOk (beginReset_vibrationOk u .restart)
    · exact (k.answerOrder _ order).vibrationOk ok
  · exact k.vibrationOk ok

theorem exec_vibrationOk (c : Instr) (ok : s.VibrationOk) : (landed s (exec c s)).VibrationOk := by
  by_cases plain : ordinary c = true
  · exact ordinary_vibrationOk plain ok
  cases c with
  | tachEdge edge n => exact ((MovesOnly.refl (s.pass n)).tachEdge edge).vibrationOk (pass_vibrationOk n s ok)
  | orderRestart o p => exact orderRestart_vibrationOk o p ok
  | settleTimeExpiry straps => exact settle_vibrationOk straps s ok
  | parameterReadComplete bytes => exact read_vibrationOk bytes ok
  | resetLinePulse us =>
    show (if s.pulseTaken us = true then _ else _ : State).VibrationOk
    split
    · exact endReset_vibrationOk (beginReset_vibrationOk _ _)
    · split <;> exact ok
  | brownOut =>
    show (if s.monitor.supplyHeld = true then s else _).VibrationOk
    split
    · exact ok
    · exact beginReset_vibrationOk _ _
  | clockLoss =>
    show (if s.monitor.clockLost = true then s else _).VibrationOk
    split
    · exact ok
    · exact beginReset_vibrationOk _ _
  | brownOutEnd mv =>
    show (if (!s.monitor.supplyHeld || decide (mv ≤ 2700)) = true then s else _).VibrationOk
    split
    · exact ok
    · exact endReset_vibrationOk ok
  | clockReturn =>
    show (if (!s.monitor.clockLost) = true then s else _).VibrationOk
    split
    · exact ok
    · exact endReset_vibrationOk ok
  | _ => exact absurd rfl plain

end Steps

/-- Settles O11: changes of state keep the accumulators in order, and so does each sample that enters a window. -/
theorem stepKeepsVibration : Obligations.StepKeepsVibration := by
  unfold Obligations.StepKeepsVibration
  intro s t ok ran
  have command (c : Instr) (u : State) (hu : u.VibrationOk) (answer : exec c u = .next t) : t.VibrationOk := by
    have kept := exec_vibrationOk c hu
    rwa [answer] at kept
  unfold step at ran
  split at ran
  · next c rest _ => exact command c { s with pending := rest } ok ran
  · split at ran
    · next c u due => exact command c u (nextDue_vibrationOk due ok) ran
    · cases ran
      exact elapse_vibrationOk 1 ok

end Sys2Proof.Machine
end

section
/-!
PROOFS. VIB_SAMPLE_ARRIVAL (R91, R93 to R98): short of a full window, and the sample that completes one.
-/

namespace Sys2Proof.Machine

section Words

variable {s : State} (sample : Word)

/-- A converter word heard and its sample in the window, R91, R93. -/
def State.windowTaken (s : State) (sample : Word) : State :=
  s.hearConverter.onVib (VibWatch.take sample.toInt)

theorem exec_vibSample (runs : s.st.blocksRun = true) :
    exec (.vibSampleArrival sample true) s = .next (s.hearConverter.takeVibSample sample) := by
  show execVibSampleArrival sample true s = _
  unfold execVibSampleArrival
  rw [runs]
  rfl

theorem exec_vibSample_discards {stopHigh : Bool} (idle : stopHigh = false ∨ s.st.blocksRun = false) :
    exec (.vibSampleArrival sample stopHigh) s = .next s := by
  show execVibSampleArrival sample stopHigh s = _
  unfold execVibSampleArrival
  rcases idle with low | stands
  · rw [low]
    rfl
  · rw [stands, Bool.and_false]
    rfl

/-- Outside the evaluating states no sample is taken, R93. -/
theorem takeVibSample_idle (idle : s.st.evaluating = false) : s.takeVibSample sample = s := by
  unfold State.takeVibSample
  rw [idle]
  rfl

theorem takeVibSample_evaluating (evaluating : s.st.evaluating = true) : s.takeVibSample sample
    = if 256 ≤ s.vib.count + 1 then (s.onVib (VibWatch.take sample.toInt)).completeWindow
      else s.onVib (VibWatch.take sample.toInt) := by
  unfold State.takeVibSample
  rw [evaluating]
  rfl

theorem evaluating_runs {st : StationState} (h : st.evaluating = true) : st.blocksRun = true ∧ st.joined = true := by
  cases st <;> simp [StationState.evaluating] at h <;> exact ⟨rfl, rfl⟩

theorem regulating_evaluates {st : StationState} (h : st.regulating = true) : st.evaluating = true := by
  rcases (regulating_iff st).mp h with rfl | rfl | rfl <;> rfl

theorem exec_vibSample_short (evaluating : s.st.evaluating = true) (short : s.vib.count < 255) :
    exec (.vibSampleArrival sample true) s = .next (s.windowTaken sample) := by
  obtain ⟨runs, -⟩ := evaluating_runs evaluating
  rw [exec_vibSample sample runs, takeVibSample_evaluating (s := s.hearConverter) sample evaluating, if_neg]
  · rfl
  · show ¬256 ≤ s.vib.count + 1
    omega

theorem exec_vibSample_full (evaluating : s.st.evaluating = true) (last : s.vib.count = 255) :
    exec (.vibSampleArrival sample true) s = .next (s.windowTaken sample).completeWindow := by
  obtain ⟨runs, -⟩ := evaluating_runs evaluating
  rw [exec_vibSample sample runs, takeVibSample_evaluating (s := s.hearConverter) sample evaluating, if_pos]
  · rfl
  · show 256 ≤ s.vib.count + 1
    omega

theorem carries_windowTaken (s : State) : Carries [.vibInput] s (s.windowTaken sample) := by
  have timed : Carries [.vibInput] s (s.onTimers fun t =>
      { t with silence := t.silence.map fun _ => s.cfg.silenceTime * 1000 }) := .of_readings rfl rfl
  have heard : Carries [.vibInput] s s.hearConverter := timed.trans (.of_only (ceases_only _ _))
  exact heard.trans (.of_readings rfl rfl)

end Words

section Completed

variable {s : State}

/-- What the judgement of a window leaves in the watch. -/
def VibWatch.verdict (v : VibWatch) : Nat × Nat × Fin 4 × Nat × Nat :=
  (v.latestRms, v.latestPeak, v.latestBand, v.alertCount, v.tripCount)

/-- No change of the station state alters the verdict. -/
theorem MovesOnly.verdict {t : State} (h : MovesOnly s t) : t.vib.verdict = s.vib.verdict := by
  refine h.keeps (P := fun _ v => v.verdict = s.vib.verdict) (fun w old new v same => ?_) rfl
  rw [← same]
  unfold VibWatch.onMove
  cases windowEnds old new <;> rfl

/-- The causes that a completed window judges, R95, R96. -/
def vibCauses : List Cause := [.vibAlert, .vibTrip]

theorem carries_windowJudged : Carries vibCauses s s.windowJudged := by
  have alert : Carries vibCauses s (s.windowRead.judgeAlert s.vib.figures s.bandNow) :=
    (Carries.of_readings rfl rfl : Carries _ s s.windowRead).trans (carries_judgeAlert.weaken (by decide))
  exact alert.trans (carries_judgeTrip.weaken (by decide))

/-- The derate and the emptying leave the readings and the causes as judged. -/
theorem carries_derateEmptied (fig band) : Carries [] s ((s.derate fig band).onVib VibWatch.emptied) :=
  carries_derate.trans (.of_readings rfl rfl)

theorem carries_completeWindow : Carries vibCauses s s.completeWindow := by
  rw [completeWindow_eq]
  exact carries_windowJudged.trans ((carries_derateEmptied _ _).weaken (List.nil_subset _))

theorem windowJudged_verdict : s.windowJudged.vib.verdict = (s.vib.figures.rms, s.vib.figures.peak,
    s.bandNow,
    tally (s.OverAlert s.vib.figures s.bandNow) s.cfg.alertPersistence s.vib.alertCount,
    tally (s.OverTrip s.vib.figures s.bandNow) s.cfg.tripPersistence s.vib.tripCount) := by
  have cfg : (s.windowRead.judgeAlert s.vib.figures s.bandNow).cfg = s.cfg := carries_judgeAlert.cfg
  unfold State.windowJudged
  rw [movesOnly_judgeTrip.verdict]
  unfold State.tripCounted State.OverTrip
  rw [onVib_vib, cfg, judgeAlert_vib]
  rfl

/-- Part 5 and the emptying leave the verdict. -/
theorem completeWindow_verdict : s.completeWindow.vib.verdict = s.windowJudged.vib.verdict := by
  obtain ⟨_, _, derated⟩ := derate_vib (s := s.windowJudged) (fig := s.vib.figures) (band := s.bandNow)
  rw [completeWindow_eq, onVib_vib, derated]
  rfl

/-- The figures, the band and the counts after a full window, R94 to R96. -/
theorem completeWindow_figures : s.completeWindow.vib.latestRms = s.vib.figures.rms
    ∧ s.completeWindow.vib.latestPeak = s.vib.figures.peak
    ∧ s.completeWindow.vib.latestBand = s.bandNow
    ∧ s.completeWindow.vib.alertCount
      = tally (s.OverAlert s.vib.figures s.bandNow) s.cfg.alertPersistence s.vib.alertCount
    ∧ s.completeWindow.vib.tripCount
      = tally (s.OverTrip s.vib.figures s.bandNow) s.cfg.tripPersistence s.vib.tripCount := by
  have verdict := completeWindow_verdict.trans (windowJudged_verdict (s := s))
  simpa only [VibWatch.verdict, Prod.mk.injEq] using verdict

theorem completeWindow_empty : s.completeWindow.vib.count = 0 ∧ s.completeWindow.vib.sumSquares = 0
    ∧ s.completeWindow.vib.peak = 0 := ⟨rfl, rfl, rfl⟩

/-- VIB_ALERT after a full window, R95: nothing after part 3 alters it. -/
theorem completeWindow_alert (joined : s.st.joined = true) : (s.completeWindow.causeField .vibAlert).present
    = (decide (s.OverAlert s.vib.figures s.bandNow) && ((s.causeField .vibAlert).present
      || tally (s.OverAlert s.vib.figures s.bandNow) s.cfg.alertPersistence s.vib.alertCount
        == s.cfg.alertPersistence)) := by
  have later : Carries [.vibTrip] (s.windowRead.judgeAlert s.vib.figures s.bandNow) s.completeWindow := by
    rw [completeWindow_eq]
    exact carries_judgeTrip.trans ((carries_derateEmptied _ _).weaken (List.nil_subset _))
  rw [later.field .vibAlert (by decide) (by decide)]
  exact judgeAlert_present (s := s.windowRead) joined

/-- VIB_TRIP after a full window, R96. -/
theorem completeWindow_trip (joined : s.st.joined = true) : (s.completeWindow.causeField .vibTrip).present
    = (decide (s.OverTrip s.vib.figures s.bandNow) && ((s.causeField .vibTrip).present
      || tally (s.OverTrip s.vib.figures s.bandNow) s.cfg.tripPersistence s.vib.tripCount
        == s.cfg.tripPersistence)) := by
  have alerted : Carries [.vibAlert] s (s.windowRead.judgeAlert s.vib.figures s.bandNow) :=
    (Carries.of_readings rfl rfl : Carries _ s s.windowRead).trans carries_judgeAlert
  have counted : (s.windowRead.judgeAlert s.vib.figures s.bandNow).vib.tripCount = s.vib.tripCount := by
    rw [judgeAlert_vib]
    rfl
  rw [completeWindow_eq, (carries_derateEmptied _ _).field .vibTrip (by decide) (by decide)]
  unfold State.windowJudged
  rw [judgeTrip_present (judgeAlert_st.symm ▸ joined), alerted.field .vibTrip (by decide) (by decide)]
  unfold State.tripCounted State.OverTrip
  rw [onVib_vib, alerted.cfg, counted]

/-- VIB_ALERT and the station state stand from the judgement on. -/
theorem completeWindow_judged : s.completeWindow.causeField .vibAlert = s.windowJudged.causeField .vibAlert
    ∧ s.completeWindow.st = s.windowJudged.st := by
  rw [completeWindow_eq]
  refine ⟨(carries_derateEmptied _ _).field .vibAlert (by decide) (by decide), ?_⟩
  rw [onVib_st, derate_st]

/-- A window whose judgement leaves the station in its state leaves quiet count and allowance to part 5. -/
theorem windowJudged_still (still : s.windowJudged.st = s.st) :
    s.windowJudged.vib.quietCount = s.vib.quietCount ∧ s.windowJudged.vib.allowance = s.vib.allowance := by
  have alerted : (s.windowRead.judgeAlert s.vib.figures s.bandNow).st = s.st := judgeAlert_st (s := s.windowRead)
  unfold State.windowJudged at *
  rw [judgeTrip_vib (still.trans alerted.symm)]
  unfold State.tripCounted
  rw [onVib_vib, judgeAlert_vib]
  exact ⟨rfl, rfl⟩

theorem emptied_rest (v : VibWatch) : v.emptied.quietCount = v.quietCount ∧ v.emptied.allowance = v.allowance :=
  ⟨rfl, rfl⟩

variable (regulating : s.st.regulating = true) (still : s.completeWindow.st = s.st)
include regulating still

/-- Part 5 of a window completed in a derating state, R97, R98. -/
theorem completeWindow_regulating : s.completeWindow.vib.quietCount
      = (s.windowJudged.derated.quieted s.vib.figures s.bandNow).vib.quietCount
    ∧ s.completeWindow.vib.allowance
      = (s.windowJudged.derated.quieted s.vib.figures s.bandNow).vib.allowance := by
  have same : s.windowJudged.st = s.st := completeWindow_judged.2.symm.trans still
  rw [completeWindow_eq, derate_regulating (same ▸ regulating), onVib_vib]
  exact emptied_rest _

omit regulating in
/-- The derate step, R97, before the quiet count moves. -/
theorem windowDerated : s.windowJudged.derated.cfg = s.cfg
    ∧ s.windowJudged.derated.vib.quietCount = s.vib.quietCount
    ∧ s.windowJudged.derated.vib.allowance = if (s.completeWindow.causeField .vibAlert).present = true then
        max s.cfg.derateFloor (s.vib.allowance - s.cfg.derateStep)
      else s.vib.allowance := by
  obtain ⟨alert, st⟩ := completeWindow_judged (s := s)
  obtain ⟨quiet, allowance⟩ := windowJudged_still (st.symm.trans still)
  have cfg : s.windowJudged.cfg = s.cfg := carries_windowJudged.cfg
  refine ⟨carries_derated.cfg.trans cfg, ?_, ?_⟩
  · rw [derated_vib]
    exact quiet
  · rw [derated_vib, alert, ← allowance, ← cfg]

theorem completeWindow_derates (reached : s.OverAlert s.vib.figures s.bandNow) :
    s.completeWindow.vib.quietCount = 0
      ∧ s.completeWindow.vib.allowance = if (s.completeWindow.causeField .vibAlert).present = true then
          max s.cfg.derateFloor (s.vib.allowance - s.cfg.derateStep)
        else s.vib.allowance := by
  obtain ⟨quiet, allowance⟩ := completeWindow_regulating regulating still
  obtain ⟨cfg, -, derated⟩ := windowDerated still
  rw [quiet, allowance, quieted_reached ((overAlert_congr cfg).mpr reached)]
  exact ⟨rfl, derated⟩

omit still in
/-- Below the alert limit VIB_ALERT ends with the window, R95. -/
theorem completeWindow_calm (below : ¬s.OverAlert s.vib.figures s.bandNow) :
    (s.completeWindow.causeField .vibAlert).present = false := by
  obtain ⟨-, joined⟩ := evaluating_runs (regulating_evaluates regulating)
  rw [completeWindow_alert joined, decide_eq_false below, Bool.false_and]

theorem completeWindow_recovers (below : ¬s.OverAlert s.vib.figures s.bandNow)
    (last : s.cfg.recoveryWindows ≤ s.vib.quietCount + 1) : s.completeWindow.vib.quietCount = 0
      ∧ s.completeWindow.vib.allowance = min s.cfg.ratedCeiling (s.vib.allowance + s.cfg.derateStep) := by
  obtain ⟨quiet, allowance⟩ := completeWindow_regulating regulating still
  obtain ⟨cfg, counted, derated⟩ := windowDerated still
  rw [if_neg (by rw [completeWindow_calm regulating below]; decide)] at derated
  rw [← cfg, ← counted] at last
  rw [quiet, allowance, quieted_recovers (mt (overAlert_congr cfg).mp below) last, derated, cfg]
  exact ⟨rfl, rfl⟩

theorem completeWindow_counts (below : ¬s.OverAlert s.vib.figures s.bandNow)
    (early : ¬s.cfg.recoveryWindows ≤ s.vib.quietCount + 1) :
    s.completeWindow.vib.quietCount = s.vib.quietCount + 1 ∧ s.completeWindow.vib.allowance = s.vib.allowance := by
  obtain ⟨quiet, allowance⟩ := completeWindow_regulating regulating still
  obtain ⟨cfg, counted, derated⟩ := windowDerated still
  rw [if_neg (by rw [completeWindow_calm regulating below]; decide)] at derated
  rw [← cfg, ← counted] at early
  rw [quiet, allowance, quieted_counts (mt (overAlert_congr cfg).mp below) early, counted]
  exact ⟨rfl, derated⟩

end Completed

/-- With the speed unit, the parts that no converter word alters. -/
theorem Carries.framed {cs : List Cause} {s t : State} (h : Carries cs s t) :
    t = { t with speed := s.speed, clock := s.clock, loader := s.loader, monitor := s.monitor,
                 inputs := s.inputs, free := s.free, pending := s.pending } := by
  rw [← h.speed]
  exact h.outer

/-- Settles O21: a word heard alters silence timer, VIB_INPUT and window; the 256th sample is judged part by part. -/
theorem vibrationWindow : Obligations.VibrationWindow := by
  unfold Obligations.VibrationWindow
  refine ⟨⟨fun sample s heard runs eq => ?_, fun sample stopHigh s idle => exec_vibSample_discards sample idle⟩,
    fun sample s evaluating last ok => ?_⟩
  · subst eq
    refine ⟨fun idle => ?_, fun evaluating short => ?_⟩
    · rw [exec_vibSample sample runs, takeVibSample_idle (s := s.hearConverter) sample idle]
      rfl
    · rw [exec_vibSample_short sample evaluating short, pow_two]
      rfl
  · obtain ⟨-, joined⟩ := evaluating_runs evaluating
    obtain ⟨-, -, -, window, -, -⟩ := ok
    have taken : Carries [.vibInput] s (s.windowTaken sample) := carries_windowTaken sample s
    have carried : Carries (.vibInput :: vibCauses) s (s.windowTaken sample).completeWindow :=
      (taken.weaken (by decide)).trans (carries_completeWindow.weaken (by decide))
    have full : (s.windowTaken sample).vib.count = 256 := congrArg (· + 1) last
    have bound : (s.windowTaken sample).vib.WindowOk 32768 :=
      windowOk_take (window evaluating) (natAbs_toInt_le sample)
    obtain ⟨low, high⟩ := figures_rms bound full
    obtain ⟨rms, peak, band, alerts, trips⟩ := completeWindow_figures (s := s.windowTaken sample)
    have sum : (s.windowTaken sample).vib.sumSquares = s.vib.sumSquares + sample.toInt.natAbs ^ 2 := by
      rw [pow_two]
      rfl
    rw [sum] at low high
    obtain ⟨none, noSum, noPeak⟩ := completeWindow_empty (s := s.windowTaken sample)
    have alert := completeWindow_alert (s := s.windowTaken sample) joined
    have trip := completeWindow_trip (s := s.windowTaken sample) joined
    rw [taken.field .vibAlert (by decide) (by decide)] at alert
    rw [taken.field .vibTrip (by decide) (by decide)] at trip
    refine ⟨_, exec_vibSample_full sample evaluating last, ?_⟩
    rw [rms, peak, band, alerts, trips]
    exact ⟨low, high, rfl, rfl, none, noSum, noPeak, rfl, rfl, alert, trip, carried.framed⟩

/-- Settles O22: with no change of the state the judgement leaves quiet count and allowance to part 5. -/
theorem derateAndRecovery : Obligations.DerateAndRecovery := by
  unfold Obligations.DerateAndRecovery
  intro sample s regulating last
  refine ⟨_, exec_vibSample_full sample (regulating_evaluates regulating) last, fun still => ?_⟩
  obtain ⟨rms, -, band, -, -⟩ := completeWindow_figures (s := s.windowTaken sample)
  rw [rms, band]
  refine ⟨fun reached => completeWindow_derates (s := s.windowTaken sample) regulating still reached,
    fun below recovers => ?_, fun below early => ?_⟩
  · exact completeWindow_recovers (s := s.windowTaken sample) regulating still (Nat.not_le.mpr below) recovers
  · exact completeWindow_counts (s := s.windowTaken sample) regulating still (Nat.not_le.mpr below)
      (Nat.not_le.mpr early)

end Sys2Proof.Machine
end

section
/-!
PROOFS. What every step keeps of the record table, the history ring and the trip context (R117, R128, R130 to R132,
R136, R137, R139): every landing keeps them in order, and so does a reset, which cuts what was being recorded (R142).
-/

namespace Sys2Proof.Machine

/-- The records that a reset other than power-on keeps, each one cut where it was FILLING, R142. -/
theorem cutStore_ok {r : RecordStore} (ok : r.Ok) :
    RecordStore.Ok { ring := [], slots := cutFilling r.slots, serial := r.serial, current := none } := by
  obtain ⟨-, serial, records, -, -, kept⟩ := ok
  have cut (i) (x : TripRecord) (slot : (cutFilling r.slots).get i = some x) : x.Ok r.serial ∧ x.closed = true := by
    rw [cutFilling_get, Option.map_eq_some_iff] at slot
    obtain ⟨y, old, rfl⟩ := slot
    exact ⟨cut_ok (records i y old), cut_closed y⟩
  refine ⟨Nat.zero_le _, serial, fun i x slot => (cut i x slot).1, fun i x slot filling => ?_,
    fun i current => (by cases current), ?_⟩
  · rw [(cut i x slot).2] at filling
    cases filling
  · exact (cutFilling_kept r.slots).trans_le kept

theorem beginReset_recordsOk (s : State) (kind : ResetKind) (ok : s.RecordsOk) : (s.beginReset kind).RecordsOk := by
  refine ⟨?_, fun ctx context => ?_⟩
  · show (RecordStore.atReset kind s.records).Ok
    unfold RecordStore.atReset
    split
    · obtain ⟨-, -, -, -, ⟨empty, -⟩, -⟩ := invariantsHoldAtPowerOn
      exact empty
    · exact cutStore_ok ok.1
  · rw [beginReset_cause] at context
    cases context

/-- Start-up changes the station state and composes a ROLL, which leaves records and context alone. -/
theorem read_recordsOk (bytes : List Byte) (s : State) (ok : s.RecordsOk) :
    (landed s (execParameterReadComplete bytes s)).RecordsOk := by
  have moved (u : State) (new : StationState) (same : u.RecordsOk) : (u.moveTo new).RecordsOk :=
    moveTo_cases u new (fun _ => same) fun _ => same
  refine landed_read bytes s ok (fun _ => moved _ _ ok) fun _ w => ?_
  exact Chain.keeps (fun _ _ => change_records) (chain_composeRoll (b := true) _) (moved _ _ ok)

theorem blockInvariant_recordsOk : BlockInvariant State.RecordsOk where
  lands := fun _ _ lands => Chain.keeps (fun _ _ => change_records) lands.loose
  outer := fun _ _ _ _ _ _ _ _ ok => ok
  settle := fun straps s ok => landed_settle straps s ok fun _ => ok
  read := read_recordsOk
  reset := fun s kind ok => beginReset_recordsOk s kind ok

/-- Settles O10: every change of the store and of the context keeps them in order, whatever the command. -/
theorem stepKeepsRecords : Obligations.StepKeepsRecords :=
  fun _ _ => blockInvariant_recordsOk.step

end Sys2Proof.Machine
end

section
/-!
PROOFS. The record that a trip opens (R131 to R133): the slot it takes, and what the other slots keep. The origin trip
(R113 to R115).
-/

namespace Sys2Proof.Machine

section Opened

variable {r : RecordStore}

/-- The creation serial that the record of a slot bears. -/
def serialAt (slots : Eight (Option TripRecord)) (i : Fin 8) : Nat :=
  ((slots.get i).map (·.serial)).getD 0

/-- Among slots that hold records the lower serial is compared as a number, R132. -/
theorem foldl_lowerSerial (slots : Eight (Option TripRecord)) (first : Fin 8) (rest : List (Fin 8))
    (full : ∀ i ∈ first :: rest, (slots.get i).isSome = true) :
    rest.foldl (lowerSerial slots) first = rest.foldl (lesser (serialAt slots)) first := by
  induction rest generalizing first with
  | nil => rfl
  | cons i rest ih =>
    have same : lowerSerial slots first i = lesser (serialAt slots) first i := by
      obtain ⟨x, hx⟩ := Option.isSome_iff_exists.mp (full first (by simp))
      obtain ⟨y, hy⟩ := Option.isSome_iff_exists.mp (full i (by simp))
      simp [lowerSerial, lesser, serialAt, hx, hy]
    rw [List.foldl_cons, List.foldl_cons, same]
    refine ih _ fun j inside => ?_
    rcases List.mem_cons.mp inside with rfl | inside
    · unfold lesser
      split
      · exact full i (by simp)
      · exact full first (by simp)
    · exact full j (by simp [inside])

theorem eightNumbers_sorted : eightNumbers.Pairwise (· < ·) := by decide

/-- What R132 asks of the slot `i` for a new record: the first EMPTY one, or, where every slot is taken, the one of the
lowest serial among the records without the keep mark, the first of them where serials are equal. -/
def TakesSlot (slots : Eight (Option TripRecord)) (i : Fin 8) : Prop :=
  (slots.get i = none ∧ ∀ j, j < i → slots.get j ≠ none)
    ∨ ((∀ j, slots.get j ≠ none) ∧ ∃ x, slots.get i = some x ∧ x.keep = false
        ∧ ∀ j y, slots.get j = some y → y.keep = false →
            x.serial < y.serial ∨ (x.serial = y.serial ∧ i ≤ j))

/-- Once every record is closed, the slot chosen is the one that R132 asks for. -/
theorem takesSlot_of_chosen {slots : Eight (Option TripRecord)} {i : Fin 8}
    (closed : ∀ j x, slots.get j = some x → x.closed = true) (chosen : chooseSlot slots = some i) :
    TakesSlot slots i := by
  unfold chooseSlot at chosen
  split at chosen
  · next found =>
    cases chosen
    obtain ⟨empty, before, after, numbers, taken⟩ := List.find?_eq_some_iff_append.mp found
    refine .inl ⟨by simpa using empty, fun j lower => ?_⟩
    have sorted := eightNumbers_sorted
    rw [numbers, List.pairwise_append, List.pairwise_cons] at sorted
    have inside := mem_eightNumbers j
    rw [numbers, List.mem_append, List.mem_cons] at inside
    rcases inside with inside | rfl | inside
    · exact Option.isSome_iff_ne_none.mp (by simpa using taken j inside)
    · exact absurd lower (lt_irrefl _)
    · exact absurd lower (sorted.2.1.1 j inside).asymm
  · next full =>
    have full (j : Fin 8) : slots.get j ≠ none := by
      simpa using List.find?_eq_none.mp full j (mem_eightNumbers j)
    split at chosen
    · next first rest candidates =>
      cases chosen
      have sorted : (first :: rest).Pairwise (· < ·) := candidates ▸ eightNumbers_sorted.filter _
      have occupied (j : Fin 8) : (slots.get j).isSome = true := Option.isSome_iff_ne_none.mpr (full j)
      have member (j : Fin 8) : j ∈ first :: rest ↔ replaceable (slots.get j) = true := by
        rw [← candidates, List.mem_filter]
        simp [mem_eightNumbers]
      obtain ⟨inside, least⟩ := foldl_lesser (serialAt slots) Fin.val first rest sorted
      rw [foldl_lowerSerial slots first rest fun j _ => occupied j]
      generalize rest.foldl (lesser (serialAt slots)) first = i at inside least ⊢
      obtain ⟨x, slot⟩ := Option.isSome_iff_exists.mp (occupied i)
      have kept := (member i).mp inside
      rw [slot] at kept
      refine .inr ⟨full, x, slot, by simpa [replaceable, closed i x slot] using kept, fun j y other free => ?_⟩
      have candidate : j ∈ first :: rest := (member j).mpr (by simp [other, replaceable, closed j y other, free])
      have lower := least j candidate
      simpa [serialAt, slot, other] using lower
    · cases chosen

/-- A cut leaves EMPTY slots, keep marks and serials alone. -/
theorem takesSlot_cutFilling {slots : Eight (Option TripRecord)} {i : Fin 8} (h : TakesSlot (cutFilling slots) i) :
    TakesSlot slots i := by
  have serial (x : TripRecord) : x.cut.serial = x.serial := by
    unfold TripRecord.cut
    split <;> rfl
  unfold TakesSlot at h ⊢
  simp only [cutFilling_get, Option.map_eq_none_iff, ne_eq, Option.map_eq_some_iff] at h
  rcases h with h | ⟨full, _, ⟨x, slot, rfl⟩, kept, least⟩
  · exact .inl h
  · rw [cut_keep] at kept
    refine .inr ⟨full, x, slot, kept, fun j y other free => ?_⟩
    have lower := least j y.cut ⟨y, other, rfl⟩ ((cut_keep y).trans free)
    rwa [serial, serial] at lower

/-- A record opened in a store in order, R131, R132: it takes a slot with the next serial and is the current one; every
other slot stays, a FILLING record there cut. -/
theorem insert_opens (ok : r.Ok) (x : TripRecord) : ∃ i, TakesSlot r.slots i
    ∧ r.insert x = { r with
        slots := (cutFilling r.slots).set i (some { x with serial := nextSerial r.serial })
        serial := nextSerial r.serial, current := some i } := by
  obtain ⟨-, -, -, -, -, kept⟩ := ok
  have closed (j) (y : TripRecord) (slot : (cutFilling r.slots).get j = some y) : y.closed = true := by
    rw [cutFilling_get, Option.map_eq_some_iff] at slot
    obtain ⟨z, -, rfl⟩ := slot
    exact cut_closed z
  obtain ⟨i, chosen⟩ := chooseSlot_isSome (by rwa [cutFilling_kept]) closed
  refine ⟨i, takesSlot_cutFilling (takesSlot_of_chosen closed chosen), ?_⟩
  simp [RecordStore.insert, chosen]

/-- The slots of a store after a record is opened in slot `i`, one by one. -/
theorem opened_get {slots : Eight (Option TripRecord)} {i : Fin 8} (x : TripRecord) {j : Fin 8} (other : j ≠ i) :
    ((cutFilling slots).set i (some x)).get j = (slots.get j).map TripRecord.cut := by
  rw [Eight.get_set_ne _ _ other, cutFilling_get]

end Opened

/-- A successor is newer, R113. -/
theorem newer_successor (g : Word) : newer (successor g) g = true := by
  have next := toNat_successor g
  have small := g.isLt
  refine (newer_iff _ g).mpr ⟨fun zero => ?_, .inr ?_⟩
  · rw [zero] at next
    change 0 = _ at next
    split at next <;> omega
  · rw [next]
    split <;> omega

/-- A trip ends the self-test that it interrupts, R42, R104. -/
theorem originTrip_selftest (s : State) (c detail) (st : s.st = .selftest) :
    (s.originTrip c detail).seq.selftestDone = false
      ∧ (s.originTrip c detail).seq.lastOutcome = some ⟨.order, .selftestAborted, s.seq.selftestTag⟩ := by
  have begun : (s.originBegun c detail).st = .selftest := (originBegun_st s c detail).trans st
  have leaves : (s.originBegun c detail).abortSelftest.st ≠ .tripped := by
    rw [st_abortSelftest, begun]
    decide
  rw [originTrip_eq, tripMove_selftest _ begun, moveTo_seq leaves]
  refine ⟨rfl, ?_⟩
  show some (LastOutcome.mk .order .selftestAborted (s.originBegun c detail).seq.selftestTag) = _
  rw [originBegun_seq]

/-- Settles O49. -/
theorem originTrip : Obligations.OriginTrip := by
  unfold Obligations.OriginTrip
  rintro s t c d n can ok rfl rfl
  obtain ⟨st, stopped, loopWait, g, context, records⟩ := originTrip_effects s c d can
  obtain ⟨-, -, -, lines, -, -, link, -⟩ := originTrip_blocks s c d can
  refine ⟨g, newer_successor _, context, link, st, lines, stopped, loopWait, originTrip_latched s c d,
    originTrip_selftest s c d, ?_, (carries_originTrip s [] c d).framed⟩
  obtain ⟨i, takes, opened⟩ := insert_opens ok.1
    (s.newRecord (s.tripContext (some (successor s.cause.g)) (some s.loader.station) false .origin) c d)
  rw [records, opened]
  refine ⟨i, _, rfl, Eight.get_set_self _ _ _, rfl, rfl, rfl, fun j other empty => ?_, fun j x other held => ?_, takes⟩
  · exact (opened_get _ other).trans (by rw [empty]; rfl)
  · exact (opened_get _ other).trans (by rw [held]; rfl)

end Sys2Proof.Machine
end

section
/-!
PROOFS. The trip loop: LOOP_SENSE_CHANGE (R115, R118, R119, R126), LOOP_WAIT_EXPIRY (R119) and CLEAR_WINDOW_EXPIRY
(R126).
-/

namespace Sys2Proof.Machine

section LoopTrip

variable (s : State)

/-- A loop trip before its state change, R119: LOOP counted, the pending context, its record. -/
def State.loopBegun (s : State) : State :=
  s.loopCounted.beginTrip none none false .follower .loop 0

theorem loopTrip_begun : s.loopTrip = s.loopBegun.tripMove.onTimers fun t =>
    { t with loopWait := some (s.cfg.loopWait * 1000) } := rfl

theorem loopCounted_eq : s.loopCounted = { s with
    cause := { s.cause with
      causes := s.cause.causes.latchCount .loop, loopFeedback := s.reg.feedback, loopSpeed := s.speed.speed } } := rfl

theorem newRecord_counted (ctx c detail) : s.loopCounted.newRecord ctx c detail = s.newRecord ctx c detail := rfl

theorem tripContext_counted (number origin confirmed part) :
    s.loopCounted.tripContext number origin confirmed part = s.tripContext number origin confirmed part := rfl

/-- What a loop trip leaves before its state change: the cause unit, the timers and the records alone are altered. -/
theorem loopBegun_eq : s.loopBegun = { s with
    cause := { s.cause with
      causes := s.cause.causes.latchCount .loop, loopFeedback := s.reg.feedback, loopSpeed := s.speed.speed
      context := some (s.tripContext none none false .follower) }
    timers := { s.timers with loopWait := none }
    records := s.records.insert (s.newRecord (s.tripContext none none false .follower) .loop 0) } := by
  rw [State.loopBegun, beginTrip_eq, newRecord_counted, tripContext_counted, loopCounted_eq]

/-- The figures for a number after the loop wait stay over a change of the station state, R119. -/
theorem moveTo_loopFigures (new : StationState) : (s.moveTo new).cause.loopFeedback = s.cause.loopFeedback
    ∧ (s.moveTo new).cause.loopSpeed = s.cause.loopSpeed :=
  moveTo_cases (P := fun t => t.cause.loopFeedback = s.cause.loopFeedback ∧ t.cause.loopSpeed = s.cause.loopSpeed)
    s new (fun _ => ⟨rfl, rfl⟩) fun _ => ⟨rfl, rfl⟩

theorem tripMove_loopFigures : s.tripMove.cause.loopFeedback = s.cause.loopFeedback
    ∧ s.tripMove.cause.loopSpeed = s.cause.loopSpeed :=
  tripMove_keeps (P := fun t => t.cause.loopFeedback = s.cause.loopFeedback ∧ t.cause.loopSpeed = s.cause.loopSpeed)
    s id (fun u new _ h => ⟨(moveTo_loopFigures u new).1.trans h.1, (moveTo_loopFigures u new).2.trans h.2⟩) ⟨rfl, rfl⟩

@[simp] theorem loopBegun_st : s.loopBegun.st = s.st := by rw [loopBegun_eq]; rfl
@[simp] theorem loopBegun_speed : s.loopBegun.speed = s.speed := by rw [loopBegun_eq]
@[simp] theorem loopBegun_link : s.loopBegun.link = s.link := by rw [loopBegun_eq]
@[simp] theorem loopBegun_g : s.loopBegun.cause.g = s.cause.g := by rw [loopBegun_eq]
@[simp] theorem loopBegun_context :
    s.loopBegun.cause.context = some (s.tripContext none none false .follower) := by rw [loopBegun_eq]
@[simp] theorem loopBegun_figures : s.loopBegun.cause.loopFeedback = s.reg.feedback
    ∧ s.loopBegun.cause.loopSpeed = s.speed.speed := by
  rw [loopBegun_eq]
  exact ⟨rfl, rfl⟩
theorem loopBegun_records : s.loopBegun.records
    = s.records.insert (s.newRecord (s.tripContext none none false .follower) .loop 0) := by rw [loopBegun_eq]
theorem loopBegun_loop : s.loopBegun.causeField .loop
    = { s.causeField .loop with latched := true, count := min 255 ((s.causeField .loop).count + 1) } := by
  rw [loopBegun_eq]
  exact latchCount_causeField s .loop

/-- A loop trip leaves the cause unit with a pending number, R119. -/
theorem loopTrip_cause : let t := s.loopTrip
    t.cause.context = some (s.tripContext none none false .follower) ∧ t.cause.g = s.cause.g
      ∧ t.causeField .loop = { s.causeField .loop with
          latched := true, count := min 255 ((s.causeField .loop).count + 1) }
      ∧ t.cause.loopFeedback = s.reg.feedback ∧ t.cause.loopSpeed = s.speed.speed := by
  obtain ⟨feedback, speed⟩ := tripMove_loopFigures s.loopBegun
  obtain ⟨feedback', speed'⟩ := loopBegun_figures s
  dsimp only
  simp only [loopTrip_begun, onTimers_cause, onTimers_causeField, tripMove_context, tripMove_g, loopBegun_context,
    loopBegun_g, tripMove_causeField s.loopBegun (c := .loop) (by decide), loopBegun_loop, feedback, feedback', speed,
    speed', and_self]

/-- A loop trip stops the station as every trip does, R115, and starts the loop wait. -/
theorem loopTrip_stops (can : s.st.canTrip = true) : let t := s.loopTrip
    t.timers.loopWait = some (s.cfg.loopWait * 1000) ∧ t.st = tripTarget s.st s.speed.standstill
      ∧ t.lines = t.st.lines ∧ t.Stopped := by
  have can : s.loopBegun.st.canTrip = true := by rwa [loopBegun_st]
  have stopped : (s.loopBegun.tripMove.onTimers fun t =>
      { t with loopWait := some (s.cfg.loopWait * 1000) }).Stopped := tripMove_stopped s.loopBegun can
  dsimp only
  rw [loopTrip_begun]
  refine ⟨rfl, ?_, ?_, stopped⟩
  · rw [onTimers_st, tripMove_st _ can, loopBegun_st, loopBegun_speed]
  · rw [onTimers_lines, onTimers_st, tripMove_lines _ can]

theorem loopTrip_records : s.loopTrip.records
    = s.records.insert (s.newRecord (s.tripContext none none false .follower) .loop 0) := by
  rw [loopTrip_begun, onTimers_records, tripMove_records, loopBegun_records]

theorem loopTrip_link : s.loopTrip.link = s.link := by
  rw [loopTrip_begun, onTimers_link, tripMove_link, loopBegun_link]

/-- What a loop trip does not touch. -/
theorem loopTrip_rest : let t := s.loopTrip
    t = { t with speed := s.speed, clock := s.clock, loader := s.loader, monitor := s.monitor, inputs := s.inputs
                 free := s.free, pending := s.pending } := by
  rw [loopTrip_begun, State.mk.injEq]
  simp [loopBegun_eq]

end LoopTrip

section Sensed

variable {s : State}

/-- The other stations' drive of TRLOOP noted, before it is acted on, R118. -/
def State.sensing (s : State) (othersDrive : Bool) : State :=
  { s with inputs := { s.inputs with loopOthers := othersDrive } }

theorem exec_loopSense (othersDrive : Bool) (s : State) : exec (.loopSenseChange othersDrive) s = .next
    (if !s.loopSensed && (s.sensing othersDrive).loopSensed then (s.sensing othersDrive).loopCheck
      else if s.loopSensed && !(s.sensing othersDrive).loopSensed && s.st == .clearing then
        (s.sensing othersDrive).enterStopped
      else s.sensing othersDrive) := rfl

/-- The loop becomes active where a trip can be made, R118, R119. -/
theorem exec_loopSense_trips (can : s.st.canTrip = true) (undriven : s.lines.loopDrive = false)
    (quiet : s.inputs.loopOthers = false) : exec (.loopSenseChange true) s = .next (s.sensing true).loopTrip := by
  have before : s.loopSensed = false := by simp [State.loopSensed, undriven, quiet]
  have after : (s.sensing true).loopSensed = true := by simp [State.loopSensed, State.sensing]
  have can : (s.sensing true).st.canTrip = true := can
  rw [exec_loopSense, before, after]
  simp [State.loopCheck, can, after]

/-- The loop falls in CLEARING, R118, R126. -/
theorem exec_loopSense_clears (st : s.st = .clearing) (undriven : s.lines.loopDrive = false)
    (driven : s.inputs.loopOthers = true) :
    exec (.loopSenseChange false) s = .next ((s.sensing false).moveTo .stopped) := by
  have before : s.loopSensed = true := by simp [State.loopSensed, driven]
  have after : (s.sensing false).loopSensed = false := by simp [State.loopSensed, State.sensing, undriven]
  have leaves : (s.sensing false).st ≠ .stopped := by
    show s.st ≠ _
    rw [st]
    decide
  rw [exec_loopSense, before, after, ← enterStopped_quiet leaves rfl]
  simp [st]

/-- No change of the level, or one that R118 gives no effect. -/
theorem exec_loopSense_noted {othersDrive : Bool} (none : (s.st.canTrip = false ∧ s.st ≠ .clearing)
    ∨ (s.st = .clearing ∧ othersDrive = true) ∨ (s.st.canTrip = true ∧ othersDrive = false)
    ∨ s.lines.loopDrive = true ∨ othersDrive = s.inputs.loopOthers) :
    exec (.loopSenseChange othersDrive) s = .next (s.sensing othersDrive) := by
  have before : s.loopSensed = (s.lines.loopDrive || s.inputs.loopOthers) := rfl
  have after : (s.sensing othersDrive).loopSensed = (s.lines.loopDrive || othersDrive) := rfl
  have untripped : s.st.canTrip = false → (s.sensing othersDrive).loopCheck = s.sensing othersDrive := fun cannot =>
    if_neg (by simp [show (s.sensing othersDrive).st = s.st from rfl, cannot])
  rw [exec_loopSense, before, after]
  rcases none with ⟨cannot, elsewhere⟩ | ⟨st, rfl⟩ | ⟨can, rfl⟩ | driven | rfl
  · simp [untripped cannot, elsewhere]
  · simp [untripped (by rw [st]; rfl)]
  · have elsewhere : s.st ≠ .clearing := fun st => by
      rw [st] at can
      cases can
    rw [if_neg (by cases s.lines.loopDrive <;> simp), if_neg (by simp [elsewhere])]
  · simp [driven]
  · rw [if_neg (by simp), if_neg (by cases s.lines.loopDrive <;> cases s.inputs.loopOthers <;> simp)]

/-- CLEARING left for STOPPED, R126. -/
theorem clearing_stopped (st : s.st = .clearing) : let t := s.moveTo .stopped
    t.lines = { convEn := false, brkRel := false, loopDrive := false, fault := false }
      ∧ t.timers.clearWindow = none ∧ t.cause.clearTag = none ∧ t.vib.allowance = s.cfg.ratedCeiling
      ∧ t.vib.quietCount = 0 ∧ t.seq = { s.seq with station := .stopped } := by
  have leaves : s.st ≠ .stopped := by
    rw [st]
    decide
  dsimp only
  rw [moveTo_lines leaves, moveTo_timers leaves, moveTo_cause leaves, moveTo_vib leaves, moveTo_seq leaves]
  refine ⟨rfl, if_pos st, if_pos st, onMove_vibAllowance _ _ _ _, ?_, ?_⟩
  · simp [VibWatch.onMove]
  · rw [st]
    rfl

end Sensed

/-- Settles O24. -/
theorem loopSenseChanges : Obligations.LoopSenseChanges := by
  unfold Obligations.LoopSenseChanges
  refine ⟨fun s can undriven quiet => ⟨_, exec_loopSense_trips can undriven quiet, ?_⟩,
    fun s st undriven driven => ⟨_, exec_loopSense_clears st undriven driven, st_moveTo _ _, ?_⟩,
    fun othersDrive s none => exec_loopSense_noted none⟩
  · obtain ⟨context, g, loop, feedback, speed⟩ := loopTrip_cause (s.sensing true)
    obtain ⟨loopWait, st, lines, stopped⟩ := loopTrip_stops (s.sensing true) can
    refine ⟨context, g, loop, loopWait, fun ok => ?_, feedback, speed, st, lines, stopped, loopTrip_link _,
      loopTrip_rest _⟩
    obtain ⟨i, -, opened⟩ := insert_opens ok.1
      ((s.sensing true).newRecord ((s.sensing true).tripContext none none false .follower) .loop 0)
    have records := (loopTrip_records (s.sensing true)).trans opened
    rw [records]
    exact ⟨i, _, rfl, Eight.get_set_self _ _ _, rfl, rfl, rfl,
      fun j x other held => (opened_get _ other).trans (by rw [held]; rfl)⟩
  · obtain ⟨lines, clearWindow, clearTag, allowance, quietCount, seq⟩ := clearing_stopped (s := s.sensing false) st
    exact ⟨lines, clearWindow, clearTag, allowance, quietCount, moveTo_g _ _, moveTo_context _ _, moveTo_records _ _,
      moveTo_link _ _, seq⟩

section LoopWait

variable {s : State}

/-- The loop wait over with the number still pending, R119: the trip is numbered here. -/
theorem numberLoopTrip_pending {ctx : TripContext} {n : Word} (context : s.cause.context = some ctx)
    (pending : ctx.number = none) (number : n = successor s.cause.g) : s.numberLoopTrip
      = ((s.setG n).changeContext (ctx.ownNumber s.loader.station n)).composeTrip n .loop ctx.stateAtTrip
        s.cause.loopFeedback s.cause.loopSpeed := by
  simp [State.numberLoopTrip, context, pending, number]

theorem numberLoopTrip_settled {ctx : TripContext} (context : s.cause.context = some ctx)
    (settled : ctx.number ≠ none) : s.numberLoopTrip = s := by
  simp [State.numberLoopTrip, context, Option.isSome_iff_ne_none.mpr settled]

theorem exec_loopWait (runs : s.timers.loopWait.isSome = true) :
    exec .loopWaitExpiry s = .next s.stopLoopWait.numberLoopTrip :=
  congrArg Host.Outcome.next (if_neg (running_not_isNone runs))

/-- The clear window over, and stopped, R126. -/
def State.windowOver (s : State) : State :=
  s.onTimers fun t => { t with clearWindow := none }

theorem exec_clearWindow (st : s.st = .clearing) (runs : s.timers.clearWindow.isSome = true) :
    exec .clearWindowExpiry s
      = .next ((s.windowOver.moveTo .tripped).writeOutcome .order .clearIncomplete (s.cause.clearTag.getD 0)) :=
  congrArg Host.Outcome.next ((if_neg (running_not_isNone runs)).trans (if_pos (by exact st)))

end LoopWait

/-- Settles O25. -/
theorem loopWaitAndClearWindow : Obligations.LoopWaitAndClearWindow := by
  unfold Obligations.LoopWaitAndClearWindow
  refine ⟨fun s ctx n trip runs context number frame => ?_, fun s st runs driven => ⟨_, exec_clearWindow st runs, ?_⟩⟩
  · subst frame
    rw [exec_loopWait runs]
    refine ⟨fun pending => ?_, fun settled => ?_⟩
    · rw [numberLoopTrip_pending (s := s.stopLoopWait) context pending number]
      rfl
    · rw [numberLoopTrip_settled (s := s.stopLoopWait) context settled]
      rfl
  · have leaves : s.windowOver.st ≠ .tripped := by
      show s.st ≠ _
      rw [st]
      decide
    refine ⟨st_moveTo s.windowOver _, moveTo_lines leaves, ?_, ?_, fun tag held => ?_, moveTo_g s.windowOver _,
      moveTo_context s.windowOver _, moveTo_records s.windowOver _, fun c => (moveTo_latched s.windowOver _ c).1⟩
    · show (s.windowOver.moveTo .tripped).timers.clearWindow = none
      rw [moveTo_timers leaves]
      exact if_pos st
    · show (s.windowOver.moveTo .tripped).cause.clearTag = none
      rw [moveTo_cause leaves]
      exact if_pos st
    · show some (LastOutcome.mk .order .clearIncomplete (s.cause.clearTag.getD 0)) = _
      rw [held]
      rfl

end Sys2Proof.Machine
end

section
/-!
PROOFS. ORDER CLEAR_TRIP (R124 to R126): the rows of R124's table, and a clear that is taken.
-/

namespace Sys2Proof.Machine

section Answer

variable (s : State)

theorem numberPending_iff : s.numberPending = true ↔ ∃ ctx, s.cause.context = some ctx ∧ ctx.number = none := by
  unfold State.numberPending
  cases s.cause.context <;> simp

theorem resetOnlyLatched_iff :
    s.resetOnlyLatched = true ↔ ∃ c, c.resetOnly = true ∧ (s.causeField c).latched = true := by
  simp [State.resetOnlyLatched, mem_causes]

theorem latchedAndPresent_iff : s.latchedAndPresent = true
    ↔ ∃ c, s.actionOf c = .trip ∧ (s.causeField c).latched = true ∧ (s.causeField c).present = true := by
  simp [State.latchedAndPresent, State.latchedTripCauses, mem_causes, and_assoc]

variable {s} {n : Word}

/-- The first two rows of R124: a station that is not TRIPPED. -/
theorem clearAnswer_untripped (st : s.st ≠ .tripped) :
    s.clearAnswer n = if s.st = .tripDecel then .moving else .wrongState := by
  simp only [State.clearAnswer, st, ne_eq, not_false_eq_true, if_true]

theorem clearAnswer_tripped (st : s.st = .tripped) : s.clearAnswer n
    = if s.numberPending = true ∨ n ≠ s.cause.g then .numberMismatch
      else if s.resetOnlyLatched then .resetNeeded
      else if s.latchedAndPresent then .causePresent
      else .taken := by
  simp [State.clearAnswer, st]

theorem clearAnswer_mismatch (st : s.st = .tripped)
    (mismatch : n ≠ s.cause.g ∨ ∃ ctx, s.cause.context = some ctx ∧ ctx.number = none) :
    s.clearAnswer n = .numberMismatch := by
  rw [clearAnswer_tripped st, if_pos (by rwa [numberPending_iff, or_comm])]

/-- The number given is that of the trip: the latches decide. -/
theorem clearAnswer_numbered (st : s.st = .tripped) (number : n = s.cause.g)
    (settled : ∀ ctx, s.cause.context = some ctx → ctx.number ≠ none) : s.clearAnswer n
      = if s.resetOnlyLatched then .resetNeeded else if s.latchedAndPresent then .causePresent else .taken := by
  rw [clearAnswer_tripped st, if_neg]
  rw [numberPending_iff]
  rintro (⟨ctx, context, pending⟩ | other)
  · exact settled ctx context pending
  · exact other number

theorem resetOnlyLatched_false (clear : ∀ c, c.resetOnly = true → (s.causeField c).latched = false) :
    s.resetOnlyLatched = false := by
  rw [← Bool.not_eq_true, resetOnlyLatched_iff]
  rintro ⟨c, only, latched⟩
  rw [clear c only] at latched
  cases latched

theorem latchedAndPresent_false
    (gone : ∀ c, s.actionOf c = .trip → (s.causeField c).latched = true → (s.causeField c).present = false) :
    s.latchedAndPresent = false := by
  rw [← Bool.not_eq_true, latchedAndPresent_iff]
  rintro ⟨c, action, latched, present⟩
  rw [gone c action latched] at present
  cases present

end Answer

section Taken

/-- An ORDER of this station's own number, or for all, is acted on as its kind says, R41, R152. -/
theorem exec_clearTrip {s u : State} {origin : Station} {p : OrderPayload} (reaches : s.Reaches u origin classOrder)
    (addressed : u.addressed p.target = true) : exec (.clearTrip origin p) s = .next (State.clearTrip p u) :=
  congrArg Host.Outcome.next ((frameArrives_delivered reaches (p.words 3) _).trans (if_pos addressed))

theorem foldl_unlatch (cs : List Cause) (t : CauseSet) (c : Cause) :
    (cs.foldl (fun t c => t.set c { t.get c with latched := false }) t).get c
      = { t.get c with latched := (t.get c).latched && !decide (c ∈ cs) } := by
  induction cs generalizing t with
  | nil => simp
  | cons d cs ih =>
    rw [List.foldl_cons, ih]
    by_cases same : c = d
    · subst same
      simp
    · simp [CauseSet.get_set_ne _ _ same, same]

/-- Every latch is cleared, R125. -/
theorem get_unlatchAll (t : CauseSet) (c : Cause) : t.unlatchAll.get c = { t.get c with latched := false } :=
  (foldl_unlatch Cause.all t c).trans (by simp [mem_causes])

/-- Outside RUN and CREEP a change of state leaves every cause but those that it ends. -/
theorem moveTo_causeField_quiet {s : State} {new : StationState} (h : s.st ≠ new) (quiet : new.cruising = false)
    (c : Cause) : (s.moveTo new).causeField c
      = { s.causeField c with present := (s.causeField c).present && !new.endedCauses.contains c } := by
  rw [moveTo_causeField h]
  by_cases jam : c = .jam
  · subst jam
    simp [StationState.endedCauses, quiet]
  · simp [jam]

variable (u : State) (p : OrderPayload)

/-- No latch stands, R125. -/
def State.unlatched (u : State) : State :=
  u.onCauses CauseSet.unlatchAll

theorem unlatched_leaves (st : u.st = .tripped) : u.unlatched.st ≠ .clearing := by
  show u.st ≠ _
  rw [st]
  decide

/-- What a clear leaves on the station that now waits in CLEARING, R125: its window, its tag, its answer. -/
def State.opensClear (w : State) (window : Nat) (p : OrderPayload) : State :=
  ((w.onTimers fun t => { t with clearWindow := some window }).onCause
    fun k => { k with clearTag := some p.tag }).answerOrder .taken p

/-- What that leaves as it was. -/
theorem opensClear_leaves (w : State) (window : Nat) (c : Cause) : (w.opensClear window p).st = w.st
    ∧ (w.opensClear window p).lines = w.lines ∧ (w.opensClear window p).causeField c = w.causeField c
    ∧ (w.opensClear window p).inputs = w.inputs ∧ (w.opensClear window p).cfg = w.cfg
    ∧ (w.opensClear window p).cause.g = w.cause.g ∧ (w.opensClear window p).cause.context = w.cause.context
    ∧ (w.opensClear window p).records = w.records ∧ (w.opensClear window p).link = w.link :=
  ⟨rfl, rfl, rfl, rfl, rfl, rfl, rfl, rfl, rfl⟩

/-- A clear begun, R125. -/
def State.clearBegun (u : State) (p : OrderPayload) : State :=
  (u.unlatched.moveTo .clearing).opensClear (u.cfg.clearWindow * 1000) p

theorem beginClear_eq : u.beginClear p
    = if (u.clearBegun p).loopSensed then u.clearBegun p else (u.clearBegun p).enterStopped := by
  have cfg : ((u.onCauses CauseSet.unlatchAll).moveTo .clearing).cfg = u.cfg := moveTo_cfg _ _
  unfold State.beginClear State.clearBegun State.opensClear State.unlatched
  dsimp only
  rw [cfg]

variable {u}

theorem clearBegun_lines (st : u.st = .tripped) :
    (u.clearBegun p).lines = { convEn := false, brkRel := false, loopDrive := false, fault := true } := by
  obtain ⟨-, lines, -⟩ := opensClear_leaves p (u.unlatched.moveTo .clearing) (u.cfg.clearWindow * 1000) .jam
  exact lines.trans (moveTo_lines (unlatched_leaves u st))

theorem clearBegun_causeField (st : u.st = .tripped) (c : Cause) : (u.clearBegun p).causeField c
    = { u.causeField c with
        latched := false, present := (u.causeField c).present && !StationState.clearing.endedCauses.contains c } := by
  have unlatched : u.unlatched.causeField c = { u.causeField c with latched := false } := get_unlatchAll _ c
  obtain ⟨-, -, cause, -⟩ := opensClear_leaves p (u.unlatched.moveTo .clearing) (u.cfg.clearWindow * 1000) c
  refine cause.trans ((moveTo_causeField_quiet (unlatched_leaves u st) rfl c).trans ?_)
  rw [unlatched]

/-- What the beginning of a clear leaves as it was. -/
theorem clearBegun_rest : (u.clearBegun p).st = .clearing ∧ (u.clearBegun p).inputs = u.inputs
    ∧ (u.clearBegun p).cfg = u.cfg ∧ (u.clearBegun p).cause.g = u.cause.g
    ∧ (u.clearBegun p).cause.context = u.cause.context ∧ (u.clearBegun p).records = u.records
    ∧ (u.clearBegun p).link = u.link := by
  obtain ⟨st, -, -, inputs, cfg, g, context, records, link⟩ :=
    opensClear_leaves p (u.unlatched.moveTo .clearing) (u.cfg.clearWindow * 1000) .jam
  exact ⟨st.trans (st_moveTo _ _), inputs.trans (moveTo_inputs _ _), cfg.trans (moveTo_cfg _ _),
    g.trans (moveTo_g _ _), context.trans (moveTo_context _ _), records.trans (moveTo_records _ _),
    link.trans (moveTo_link _ _)⟩

/-- With the loop released by this station it is sensed where another drives it, R118, R126. -/
theorem clearBegun_loopSensed (st : u.st = .tripped) : (u.clearBegun p).loopSensed = u.inputs.loopOthers := by
  obtain ⟨-, inputs, -⟩ := clearBegun_rest (u := u) p
  simp [State.loopSensed, clearBegun_lines p st, inputs]

/-- The causes of CLEARING are those of STOPPED: the second change of state ends no more of them. -/
theorem clearing_stopped_causes {w : State} (st : w.st = .clearing) (c : Cause)
    (ended : (w.causeField c).present = ((w.causeField c).present && !StationState.clearing.endedCauses.contains c)) :
    (w.moveTo .stopped).causeField c = w.causeField c := by
  have leaves : w.st ≠ .stopped := by
    rw [st]
    decide
  have same : StationState.stopped.endedCauses = StationState.clearing.endedCauses := rfl
  rw [moveTo_causeField_quiet leaves rfl, same, ← ended]

end Taken

/-- Settles O43. -/
theorem clearTrip : Obligations.ClearTrip := by
  unfold Obligations.ClearTrip
  refine ⟨fun origin p s u answer reaches addressed rows => ?_,
    fun origin p s u reaches addressed st number settled resets gone => ?_⟩
  · have refused : u.clearAnswer p.argument = answer ∧ answer ≠ .taken := by
      rcases rows with ⟨st, rfl⟩ | ⟨moving, tripped, rfl⟩ | ⟨st, rfl, mismatch⟩
        | ⟨st, number, settled, ⟨rfl, latched⟩ | ⟨rfl, resets, present⟩⟩
      · exact ⟨(clearAnswer_untripped (by rw [st]; decide)).trans (if_pos st), by decide⟩
      · exact ⟨(clearAnswer_untripped tripped).trans (if_neg moving), by decide⟩
      · exact ⟨clearAnswer_mismatch st mismatch, by decide⟩
      · refine ⟨(clearAnswer_numbered st number settled).trans (if_pos ?_), by decide⟩
        exact (resetOnlyLatched_iff u).mpr latched
      · refine ⟨(clearAnswer_numbered st number settled).trans ?_, by decide⟩
        rw [resetOnlyLatched_false resets, (latchedAndPresent_iff u).mpr present]
        rfl
    obtain ⟨rfl, refused⟩ := refused
    rw [exec_clearTrip reaches addressed, State.clearTrip, if_neg refused]
    rfl
  · have taken : u.clearAnswer p.argument = .taken := by
      rw [clearAnswer_numbered st number settled, resetOnlyLatched_false resets, latchedAndPresent_false gone]
      rfl
    obtain ⟨clearing, -, cfg, g, context, records, link⟩ := clearBegun_rest (u := u) p
    have causes (c : Cause) := clearBegun_causeField p st c
    rw [exec_clearTrip reaches addressed, State.clearTrip, if_pos taken, beginClear_eq, clearBegun_loopSensed p st]
    refine ⟨_, rfl, ?_⟩
    cases driven : u.inputs.loopOthers with
    | true =>
      rw [if_pos rfl]
      refine ⟨fun c => ?_, rfl, fun _ => ⟨clearing, clearBegun_lines p st, rfl, rfl⟩, fun no => (by cases no), g, context,
        records, link⟩
      rw [causes]
      exact ⟨rfl, rfl, rfl⟩
    | false =>
      have leaves : (u.clearBegun p).st ≠ .stopped := by
        rw [clearing]
        decide
      obtain ⟨lines, clearWindow, -, allowance, -, seq⟩ := clearing_stopped clearing
      rw [if_neg (by decide), enterStopped_quiet leaves (by rw [(clearBegun_rest p).2.1, driven])]
      refine ⟨fun c => ?_, ?_, fun no => (by cases no), fun _ => ⟨st_moveTo _ _, lines, clearWindow, ?_⟩,
        (moveTo_g _ _).trans g, (moveTo_context _ _).trans context, (moveTo_records _ _).trans records,
        (moveTo_link _ _).trans link⟩
      · rw [clearing_stopped_causes clearing c (by rw [causes]; simp), causes]
        exact ⟨rfl, rfl, rfl⟩
      · rw [seq]
        rfl
      · rw [allowance, cfg]

end Sys2Proof.Machine
end

section
/-!
PROOFS. TRIP frames in a tripped state (R117, R119, R122), as the context and the numbers decide; the trip context
changed, with the current record (R113, R135).
-/

namespace Sys2Proof.Machine

section Tripped

variable {u : State} {sender : Station} {p : TripPayload} {ctx : TripContext}

theorem takeTrip_tripped (tripped : u.st.isTripped = true) : u.takeTrip sender p = u.tripWhileTripped sender p := by
  obtain ⟨-, -, -, joining, -, can⟩ := isTripped_rows tripped
  have lockout : u.st ≠ .lockout := fun st => by
    rw [st] at tripped
    cases tripped
  simp [State.takeTrip, joining, can, lockout, tripped]

/-- The first TRIP frame for the context number, first row of R117. -/
theorem tripWhileTripped_confirms (context : u.cause.context = some ctx) (number : ctx.number = some p.number)
    (unconfirmed : ctx.confirmed = false) :
    u.tripWhileTripped sender p = u.changeContext (ctx.confirm u.loader.station sender) := by
  simp [State.tripWhileTripped, context, number, unconfirmed]

/-- A later TRIP frame for the context number from a station that the context names, second row of R117. -/
theorem tripWhileTripped_known (context : u.cause.context = some ctx) (number : ctx.number = some p.number)
    (confirmed : ctx.confirmed = true) (known : ctx.origin = some sender ∨ sender ∈ ctx.coOrigins.map (·.station)) :
    u.tripWhileTripped sender p = u := by
  have same : ctx.addCoOrigin sender p.causeCode = ctx := if_pos (by simpa using known)
  simp [State.tripWhileTripped, context, number, confirmed, same]

/-- A later TRIP frame for the context number from another station, second row of R117. -/
theorem tripWhileTripped_coOrigin (context : u.cause.context = some ctx) (number : ctx.number = some p.number)
    (confirmed : ctx.confirmed = true) (other : ctx.origin ≠ some sender)
    (new : sender ∉ ctx.coOrigins.map (·.station)) : u.tripWhileTripped sender p
      = u.changeContext { ctx with coOrigins := ctx.coOrigins ++ [⟨sender, p.causeCode⟩] } := by
  have added : ctx.addCoOrigin sender p.causeCode
      = { ctx with coOrigins := ctx.coOrigins ++ [⟨sender, p.causeCode⟩] } :=
    if_neg (by simpa [other] using new)
  have longer : ctx.addCoOrigin sender p.causeCode ≠ ctx := fun same => by
    have lengths := congrArg (fun k : TripContext => k.coOrigins.length) (added.symm.trans same)
    simp at lengths
  have settled : ¬ctx.number.isNone = true := by simp [number]
  rw [← added]
  simp only [State.tripWhileTripped, context]
  rw [if_neg settled, if_pos number, if_pos confirmed, if_neg longer]

/-- A pending number settled by a newer one, R119. -/
theorem tripWhileTripped_settles (context : u.cause.context = some ctx) (pending : ctx.number = none)
    (number : newer p.number u.cause.g = true) :
    u.tripWhileTripped sender p = u.settleNumber ctx p.number (some sender) := by
  simp [State.tripWhileTripped, context, pending, number]

/-- A newer number for another trip, third row of R117. -/
theorem tripWhileTripped_subsequent (number : newer p.number u.cause.g = true)
    (other : ∀ ctx, u.cause.context = some ctx → ctx.number ≠ none ∧ ctx.number ≠ some p.number) :
    u.tripWhileTripped sender p = u.peerTripSubsequent p.number := by
  unfold State.tripWhileTripped
  split
  · exact if_pos number
  · next ctx context =>
    obtain ⟨settled, different⟩ := other ctx context
    rw [if_neg (by simpa using settled), if_neg different, if_pos number]

/-- Any other number is stale, R116, R117. -/
theorem tripWhileTripped_stale (number : newer p.number u.cause.g = false)
    (other : ∀ ctx, u.cause.context = some ctx → ctx.number ≠ some p.number) :
    u.tripWhileTripped sender p = u.countStale := by
  unfold State.tripWhileTripped
  split
  · exact if_neg (by simp [number])
  · next ctx context =>
    split
    · exact if_neg (by simp [number])
    · rw [if_neg (other ctx context), if_neg (by simp [number])]

end Tripped

section Subsequent

variable (u : State) (n : Word)

/-- PEER_TRIP counted with the number learned, before the cause is recorded, R117. -/
def State.peerTripCounted (u : State) (n : Word) : State :=
  (u.setG n).latchCount .peerTrip

theorem peerTripSubsequent_eq :
    u.peerTripSubsequent n = (u.peerTripCounted n).subsequentCause .peerTrip (some n) := rfl

/-- A subsequent cause: the record takes it, and CLEARING is left, R122. -/
theorem subsequentCause_recorded (s : State) (c carried) : s.subsequentCause c carried
    = if s.st = .clearing then (s.subsequentRecorded c carried).moveTo .tripped else s.subsequentRecorded c carried := by
  by_cases st : s.st = .clearing
  · rw [if_pos st, subsequentCause_clearing s carried st]
  · rw [if_neg st, subsequentCause_eq s c carried st, State.subsequentRecorded]
    split <;> rfl

/-- What a subsequent cause does to the state, the causes and the records, R122, R136. -/
theorem subsequentCause_effects (s : State) (c carried) : let t := s.subsequentCause c carried
    t.st = (if s.st = .clearing then .tripped else s.st) ∧ t.cause.g = s.cause.g
      ∧ t.cause.context = s.cause.context
      ∧ t.records = (if s.cause.context = none then s.records
          else s.records.onCurrent (TripRecord.addSubsequent s.clock.timeMark c carried)) := by
  obtain ⟨cause, st, -⟩ := subsequentRecorded_blocks s c carried
  have records : (s.subsequentRecorded c carried).records = if s.cause.context = none then s.records
      else s.records.onCurrent (TripRecord.addSubsequent s.clock.timeMark c carried) := by
    unfold State.subsequentRecorded
    cases s.cause.context <;> rfl
  rw [subsequentCause_recorded]
  split
  · exact ⟨st_moveTo _ _, (moveTo_g _ _).trans (by rw [cause]), (moveTo_context _ _).trans (by rw [cause]),
      (moveTo_records _ _).trans records⟩
  · exact ⟨st, by rw [cause], by rw [cause], records⟩

end Subsequent

section Context

variable (u : State) (ctx : TripContext)

/-- The trip context as a record holds it, R113, R135. -/
def TripRecord.withContext (ctx : TripContext) (r : TripRecord) : TripRecord :=
  { r with number := ctx.number, origin := ctx.origin, confirmed := ctx.confirmed, ownPart := ctx.ownPart,
           coOrigins := ctx.coOrigins }

theorem changeContext_eq : u.changeContext ctx = { u with
    cause := { u.cause with context := some ctx }
    records := u.records.onCurrent (TripRecord.withContext ctx) } := rfl

/-- The current record alone is changed, R131, R135. -/
theorem onCurrent_slots (r : RecordStore) (f : TripRecord → TripRecord) :
    (∀ i x, r.current = some i → r.slots.get i = some x → (r.onCurrent f).slots.get i = some (f x))
      ∧ (∀ j, r.current ≠ some j → (r.onCurrent f).slots.get j = r.slots.get j)
      ∧ r.onCurrent f = { r with slots := (r.onCurrent f).slots } := by
  rcases Option.eq_none_or_eq_some r.current with none | ⟨i, current⟩
  · rw [onCurrent_none f none]
    exact ⟨fun i x taken => (by rw [none] at taken; cases taken), fun _ _ => rfl, rfl⟩
  · have changed : r.onCurrent f = { r with slots := r.slots.set i ((r.slots.get i).map f) } := by
      simp [RecordStore.onCurrent, current]
    rw [changed]
    refine ⟨fun j x same slot => ?_, fun j other => ?_, rfl⟩
    · cases current.symm.trans same
      rw [Eight.get_set_self, slot]
      rfl
    · exact Eight.get_set_ne _ _ fun same => other (same ▸ current)

end Context

/-- Settles O51. -/
theorem tripFrameWhileTripped : Obligations.TripFrameWhileTripped := by
  unfold Obligations.TripFrameWhileTripped
  intro origin p s u reaches tripped
  have answer : exec (.tripFrame origin p) s = .next (u.tripWhileTripped origin p) :=
    congrArg Host.Outcome.next ((frameArrives_delivered reaches p.words _).trans (takeTrip_tripped tripped))
  have other : origin ≠ u.loader.station := by
    rw [reaches_station reaches]
    exact reaches.2.2.1
  rw [answer]
  refine ⟨fun ctx context number unconfirmed => ?_, fun ctx context number confirmed => ⟨fun known => ?_, fun apart new => ?_⟩,
    fun ctx context pending number => ?_, fun number apart => ⟨_, rfl, ?_⟩, fun number apart => ?_, fun ctx => ?_⟩
  · rw [tripWhileTripped_confirms context number unconfirmed]
    simp [TripContext.confirm, other]
  · rw [tripWhileTripped_known context number confirmed known]
  · rw [tripWhileTripped_coOrigin context number confirmed apart new]
  · rw [tripWhileTripped_settles context pending number]
    rfl
  · obtain ⟨st, g, context, records⟩ := subsequentCause_effects (u.peerTripCounted p.number) .peerTrip (some p.number)
    obtain ⟨latched, count⟩ :=
      subsequentCause_latched (u.peerTripCounted p.number) .peerTrip (some p.number) .peerTrip
    have counted := latchCount_causeField (u.setG p.number) .peerTrip
    rw [tripWhileTripped_subsequent number apart, peerTripSubsequent_eq]
    exact ⟨g, context, latched.trans (congrArg CauseField.latched counted),
      count.trans (congrArg CauseField.count counted), st, records, subsequentCause_link _ _ _⟩
  · rw [tripWhileTripped_stale number apart]
    rfl
  · rw [changeContext_eq]
    obtain ⟨changed, others, rest⟩ := onCurrent_slots u.records (TripRecord.withContext ctx)
    exact ⟨changed, others, congrArg (fun r => { u with cause := { u.cause with context := some ctx }, records := r }) rest⟩

end Sys2Proof.Machine
end

section
/-!
PROOFS. The frames that this station sends (R117, R143, R147 to R149, R152 to R154): TRANSMIT_START, ARBITRATION_LOSS and
TRANSMIT_SUCCESS, with the bits that pass before a start bit (log 12).
-/

namespace Sys2Proof.Machine

section Start

variable {s : State}

theorem exec_start_own (s : State) :
    exec (.transmitStart .own) s = .next (if s.link.startable then s.onLink Link.choose else s) := rfl

theorem exec_start_another (s : State) :
    exec (.transmitStart .another) s = .next (if s.inReset then s else s.onLink Link.frameBegins) := rfl

/-- R147: the line idle, and a bit time beginning. -/
theorem startable_eq_true {l : Link} : l.startable = true
    ↔ l.active = true ∧ l.mute = false ∧ l.transmitter = none ∧ l.idle = 10 ∧ l.bitMicros = 0 := by
  simp [Link.startable, and_assoc]

/-- A frame chosen goes to the transmitter, R147, R153. -/
theorem exec_start_chooses {l : Link} (ready : s.link.startable = true) (chosen : s.link.choose = l) :
    exec (.transmitStart .own) s = .next { s with link := l } := by
  rw [exec_start_own, if_pos ready, ← chosen]
  rfl

/-- A start bit of this station is due where it may send one and a frame is pending, R147. -/
theorem start_due_iff : Instr.transmitStart .own ∈ s.dueEvents
    ↔ s.link.startable = true ∧ s.link.pending = true := by
  unfold State.dueEvents
  simp only [List.mem_append, mem_dueIf, reduceCtorEq, false_and, false_or, or_false, true_and, Bool.and_eq_true]

theorem pending_iff {l : Link} : l.pending = true ↔ l.tripSlot ≠ none ∨ l.clampSlot ≠ none ∨ l.shareSlot ≠ none
    ∨ l.queue ≠ [] ∨ l.rollSlot ≠ none := by
  simp [Link.pending, or_assoc, Option.isSome_iff_ne_none]

/-- No start bit of this station is sent or due where it may send none. -/
theorem start_waits (unready : s.link.startable = false) :
    exec (.transmitStart .own) s = .next s ∧ Instr.transmitStart .own ∉ s.dueEvents := by
  rw [exec_start_own, start_due_iff, unready]
  exact ⟨rfl, fun due => Bool.false_ne_true due.1⟩

theorem startable_eq_false {l : Link} (unready : l.active = false ∨ l.mute = true ∨ l.idle ≠ 10 ∨ l.bitMicros ≠ 0
    ∨ l.transmitter ≠ none) : l.startable = false := by
  rw [← Bool.not_eq_true, startable_eq_true]
  rintro ⟨active, loud, empty, idle, begins⟩
  simp [active, loud, empty, idle, begins] at unready

/-- The bits that pass on an idle line, no abort mark under way, R147. -/
theorem elapse_idle (n : Nat) (free : s.inReset = false) (active : s.link.active = true)
    (empty : s.link.transmitter = none) (quiet : s.link.lineBusy = false) (abort : s.link.abortBits = 0)
    (idle : s.link.idle = 10) : ∃ listening, (s.elapse n).link = { s.link with
      bitMicros := (s.link.bitMicros + n) % s.cfg.bitTime, listening := listening } := by
  have counted : (s.elapse n).link = if s.link.active then s.link.elapse s.cfg.bitTime n else s.link := by
    rw [elapse_free s n free]
  rw [counted, elapse_link_spelled, if_pos ⟨active, empty, quiet⟩, abort, idle]
  have full (bits : Nat) : min 10 (10 + bits) = 10 := by omega
  simp only [full, Nat.zero_sub]
  exact ⟨_, by rw [← abort, ← idle]⟩

/-- The next bit time begins when what is left of the running bit has passed. -/
theorem bit_begins_iff {micros bitTime n : Nat} (amid : 0 < micros) (within : micros < bitTime)
    (before : n ≤ bitTime - micros) : (micros + n) % bitTime = 0 ↔ n = bitTime - micros := by
  constructor
  · intro begins
    by_contra early
    rw [Nat.mod_eq_of_lt (by omega)] at begins
    omega
  · rintro rfl
    rw [Nat.add_sub_cancel' (le_of_lt within), Nat.mod_self]

/-- A pending frame at idle is an own event at the beginning of the next bit time, R147, log 12. -/
theorem start_due_at_bit (n : Nat) (free : s.inReset = false) (active : s.link.active = true)
    (loud : s.link.mute = false) (empty : s.link.transmitter = none) (quiet : s.link.lineBusy = false)
    (abort : s.link.abortBits = 0) (idle : s.link.idle = 10) (waits : s.link.pending = true)
    (amid : 0 < s.link.bitMicros) (within : s.link.bitMicros < s.cfg.bitTime)
    (before : n ≤ s.cfg.bitTime - s.link.bitMicros) :
    Instr.transmitStart .own ∈ (s.elapse n).dueEvents ↔ n = s.cfg.bitTime - s.link.bitMicros := by
  obtain ⟨listening, link⟩ := elapse_idle n free active empty quiet abort idle
  rw [start_due_iff, link, startable_eq_true, ← bit_begins_iff amid within before]
  exact ⟨fun ⟨⟨_, _, _, _, begins⟩, _⟩ => begins, fun begins => ⟨⟨active, loud, empty, idle, begins⟩, waits⟩⟩

/-- A start bit of another station that this one does not read: it sends itself, or completes its abort mark, R148,
R149. -/
theorem frameBegins_sending {l : Link} (sends : l.transmitter ≠ none ∨ l.abortBits ≠ 0) : l.frameBegins = l := by
  refine if_pos ?_
  rcases sends with sends | aborts
  · simp [Option.isSome_iff_ne_none.mpr sends]
  · simp [Nat.pos_of_ne_zero aborts]

theorem frameBegins_inactive {l : Link} (inactive : l.active = false) (empty : l.transmitter = none)
    (abort : l.abortBits = 0) : l.frameBegins = { l with lineBusy := true } := by
  simp [Link.frameBegins, inactive, empty, abort]

end Start

section Returned

variable {s : State}

theorem exec_loss_empty (empty : s.link.transmitter = none) : exec .arbitrationLoss s = .next s :=
  congrArg Host.Outcome.next (if_pos (by simp [empty]))

theorem exec_loss {f : TxFrame} (sends : s.link.transmitter = some f) :
    exec .arbitrationLoss s = .next (s.onLink fun l =>
      { l.returnFrame (s.st == .joining) with
        lineBusy := true
        counters := { (l.returnFrame (s.st == .joining)).counters with
          arbitrationLosses := bump 65535 l.counters.arbitrationLosses } }) :=
  congrArg Host.Outcome.next (if_neg (by simp [sends]))

theorem exec_success_empty (empty : s.link.transmitter = none) : exec .transmitSuccess s = .next s := by
  show Host.Outcome.next (match s.link.transmitter with | none => s | some f => _) = _
  rw [empty]

theorem exec_success {f : TxFrame} (sends : s.link.transmitter = some f) :
    exec .transmitSuccess s = .next ((s.onLink (Link.sent f)).takeEcho f) := by
  show Host.Outcome.next (match s.link.transmitter with | none => s | some f => _) = _
  rw [sends]

end Returned

section Echoed

variable (s : State) (f : TxFrame)

/-- A frame sent and its echo counted, before the echo reaches an owner, R2, R149, R152. -/
def State.sentCounted (s : State) (f : TxFrame) : State :=
  { s with
    link := { s.link with
      transmitter := none, consecutive := 0, idle := 6, bitMicros := 0, abortBits := 0, lineBusy := false
      queue := match f with | .reply _ => s.link.queue.tail | _ => s.link.queue
      counters := { s.link.counters with receivedValid := min 65535 (s.link.counters.receivedValid + 1) } }
    peers := { s.peers with
      entries := s.peers.entries.set s.loader.station { s.entry s.loader.station with
        heard := min 65535 ((s.entry s.loader.station).heard + 1) } } }

theorem takeEcho_eq : (s.onLink (Link.sent f)).takeEcho f = match f with
    | .trip p => (s.sentCounted f).takeTrip s.loader.station p
    | .clamp p => (s.sentCounted f).installClamp s.loader.station p
    | .share _ | .reply _ | .roll _ => s.sentCounted f := by
  cases f <;> rfl

theorem sentCounted_foreign :
    ((s.sentCounted f).entry s.loader.station).foreign = (s.entry s.loader.station).foreign := by
  show ((s.peers.entries.set s.loader.station _).get s.loader.station).foreign = _
  rw [Eight.get_set_self]

/-- An own CLAMP is ignored after its echo as before it, R85. -/
theorem sentCounted_ignores (p : ClampPayload) : (s.sentCounted f).IgnoresOwnClamp p ↔ s.IgnoresOwnClamp p := by
  unfold State.IgnoresOwnClamp
  rw [show (s.sentCounted f).loader = s.loader from rfl, sentCounted_foreign]
  exact Iff.rfl

/-- The own echo of a TRIP in JOINING teaches no number, R14. -/
theorem takeTrip_own_joining {u : State} {p : TripPayload} (st : u.st = .joining) :
    u.takeTrip u.loader.station p = u := by
  simp [State.takeTrip, st]

/-- The own echo confirms this station as the origin and leaves its part, R117. -/
theorem confirm_own (station : Station) (ctx : TripContext) :
    ctx.confirm station station = { ctx with origin := some station, confirmed := true } := by
  simp [TripContext.confirm]

end Echoed

/-- Settles O56. -/
theorem framesSent : Obligations.FramesSent := by
  unfold Obligations.FramesSent
  intro s
  refine ⟨fun active loud empty idle begins => ?_, fun unready => start_waits (startable_eq_false unready),
    fun free active loud empty quiet abort idle waits amid within n before => ?_,
    fun free empty abort active => ⟨_, ?_, rfl, fun n u later => ?_⟩, fun free empty abort inactive => ?_, fun deaf => ?_,
    fun empty => ⟨exec_loss_empty empty, exec_success_empty empty⟩, fun f sends => ?_, fun f sent sends counted => ?_⟩
  · have ready : s.link.startable = true := startable_eq_true.mpr ⟨active, loud, empty, idle, begins⟩
    refine ⟨fun p trip => ?_, fun p trip clamp => ?_, fun p trip clamp share => ?_,
      fun p rest trip clamp share queue => ?_, fun p trip clamp share queue roll => ?_,
      fun trip clamp share queue roll => ?_, ?_⟩
    · exact exec_start_chooses ready (by simp only [Link.choose, trip])
    · exact exec_start_chooses ready (by simp only [Link.choose, trip, clamp])
    · exact exec_start_chooses ready (by simp only [Link.choose, trip, clamp, share])
    · exact exec_start_chooses ready (by simp only [Link.choose, trip, clamp, share, queue])
    · exact exec_start_chooses ready (by simp only [Link.choose, trip, clamp, share, queue, roll])
    · exact exec_start_chooses ready (by simp only [Link.choose, trip, clamp, share, queue, roll])
    · rw [start_due_iff, ready, pending_iff]
      exact and_iff_right rfl
  · exact start_due_at_bit n free active loud empty quiet abort idle (pending_iff.mpr waits) amid within before
  · rw [exec_start_another, if_neg (by simp [free])]
    exact congrArg Host.Outcome.next (congrArg (fun l => { s with link := l }) (frameBegins_active active empty abort))
  · have stands : u.link = _ := (congrArg State.link later).trans (elapse_lineBusy _ n rfl)
    obtain ⟨waits, undue⟩ := start_waits (s := u) (startable_eq_false (by rw [stands]; simp))
    exact ⟨stands, undue, waits⟩
  · rw [exec_start_another, if_neg (by simp [free])]
    exact congrArg Host.Outcome.next (congrArg (fun l => { s with link := l }) (frameBegins_inactive inactive empty abort))
  · rw [exec_start_another]
    rcases deaf with reset | sends
    · rw [if_pos reset]
    · rw [onLink_same s (frameBegins_sending sends), ite_self]
  · rw [exec_loss sends]
    refine congrArg Host.Outcome.next (congrArg (fun l => { s with link := l }) ?_)
    dsimp only
    rw [returnFrame_eq _ sends]
    cases f <;> simp only [beq_iff_eq, bump]
  · obtain rfl : sent = s.sentCounted f := counted
    rw [exec_success sends, takeEcho_eq]
    refine ⟨?_, ?_, ?_, ?_, ?_, ?_, ?_, ?_, ?_, ?_, ?_⟩
    · rintro p rfl
      rfl
    · rintro p rfl
      rfl
    · rintro p rfl
      rfl
    · rintro p rfl own hold level
      have taken : ¬(s.sentCounted (.clamp p)).IgnoresOwnClamp p := by
        rw [sentCounted_ignores]
        rintro (foreign | zero | ⟨active, above⟩)
        · rw [own] at foreign
          cases foreign
        · exact hold zero
        · rcases level with inactive | below
          · rw [inactive] at active
            cases active
          · omega
      refine ⟨_, rfl, ?_, installClamp_link _ _ _⟩
      have installed := installClamp_own (s.sentCounted (.clamp p)) taken
      exact congrArg (fun u : State => u.limiter.clamp) installed
    · rintro p rfl ignored
      exact congrArg Host.Outcome.next
        (installClamp_ignored (s.sentCounted (.clamp p)) ((sentCounted_ignores s _ p).mpr ignored))
    · rintro p ctx rfl tripped context number unconfirmed
      exact congrArg Host.Outcome.next ((takeTrip_tripped (u := s.sentCounted (.trip p)) tripped).trans
        ((tripWhileTripped_confirms (u := s.sentCounted (.trip p)) context number unconfirmed).trans
          (congrArg _ (confirm_own s.loader.station ctx))))
    · rintro p ctx rfl tripped context number confirmed other new
      exact congrArg Host.Outcome.next ((takeTrip_tripped (u := s.sentCounted (.trip p)) tripped).trans
        (tripWhileTripped_coOrigin context number confirmed other new))
    · rintro p ctx rfl tripped context number confirmed known
      exact congrArg Host.Outcome.next ((takeTrip_tripped (u := s.sentCounted (.trip p)) tripped).trans
        (tripWhileTripped_known context number confirmed known))
    · rintro p rfl number (can | lockout | ⟨tripped, other⟩)
      · exact congrArg Host.Outcome.next (takeTrip_stale (s.sentCounted (.trip p)) _ p (.inl can) number)
      · exact congrArg Host.Outcome.next (takeTrip_stale (s.sentCounted (.trip p)) _ p (.inr lockout) number)
      · exact congrArg Host.Outcome.next ((takeTrip_tripped (u := s.sentCounted (.trip p)) tripped).trans
          (tripWhileTripped_stale number other))
    · rintro p rfl lockout number
      exact congrArg Host.Outcome.next (takeTrip_lockout (s.sentCounted (.trip p)) _ p lockout number)
    · rintro p rfl joining
      exact congrArg Host.Outcome.next (takeTrip_own_joining (u := s.sentCounted (.trip p)) joining)

end Sys2Proof.Machine
end

section
/-!
PROOFS. The record table one operation at a time (R128, R129, R132, R137, R141, R142): what a history entry, a discard,
an opening and a reset leave in a slot. The history entry of HISTORY_TIMER_EXPIRY (R128, R129, R137).
-/

namespace Sys2Proof.Machine

section History

/-- The ring keeps the latest 48 entries, R128. -/
theorem appendRing_eq_drop (ring : List HistoryEntry) (e : HistoryEntry) :
    appendRing ring e = (ring ++ [e]).drop (ring.length + 1 - 48) := by
  unfold appendRing
  split
  · next short =>
    have nothing : ring.length + 1 - 48 = 0 := by omega
    rw [nothing, List.drop_zero]
  · next full =>
    have within : ring.length + 1 - 48 ≤ ring.length := by omega
    have oldest : ring.length - 47 = ring.length + 1 - 48 := by omega
    rw [List.drop_append_of_le_length within, oldest]

theorem appendTail_eq (e : HistoryEntry) (r : TripRecord) : r.appendTail e
    = if r.closed then r else { r with tail := r.tail ++ [e], closed := decide (15 ≤ r.tail.length) } := by
  have sixteenth : decide (16 ≤ r.tail.length + 1) = decide (15 ≤ r.tail.length) :=
    decide_eq_decide.mpr Nat.succ_le_succ_iff
  rw [TripRecord.appendTail, sixteenth]

theorem take_eq (testing : Bool) (e : HistoryEntry) (store : RecordStore) : store.take testing e = { store with
    ring := if testing then store.ring else (store.ring ++ [e]).drop (store.ring.length + 1 - 48)
    slots := store.slots.map fun _ slot => slot.map fun r =>
      if r.closed then r else { r with tail := r.tail ++ [e], closed := decide (15 ≤ r.tail.length) } } := by
  have tails : TripRecord.appendTail e = fun r =>
      if r.closed then r else { r with tail := r.tail ++ [e], closed := decide (15 ≤ r.tail.length) } :=
    funext (appendTail_eq e)
  rw [RecordStore.take, appendRing_eq_drop, tails]

theorem exec_historyTimer {s : State} (runs : s.timers.history.isSome = true) : exec .historyTimerExpiry s = .next
    ((s.onTimers fun t => { t with history := some s.cfg.sharePeriodUs }).onRecords
      (RecordStore.take (s.st == .selftest) s.historyEntry)) :=
  congrArg Host.Outcome.next (if_neg (running_not_isNone runs))

end History

/-- Settles O31. -/
theorem historyEntryTaken : Obligations.HistoryEntryTaken := by
  unfold Obligations.HistoryEntryTaken
  intro s e runs entry
  have taken : s.historyEntry = e := entry.symm
  rw [exec_historyTimer runs, taken, State.onRecords, take_eq]
  simp only [beq_iff_eq]
  rfl

section Slots

variable (store : RecordStore) (i : Fin 8) {record r : TripRecord}

theorem discard_get : store.discard.slots.get i = discardSlot (store.slots.get i) := Eight.get_map _ _ _

theorem discardSlot_some (r : TripRecord) :
    discardSlot (some r) = if r.closed = true ∧ r.keep = false then none else some r := by
  simp [discardSlot, replaceable]

theorem discard_current : store.discard.current = store.current.filter fun i => (store.discard.slots.get i).isSome := by
  unfold RecordStore.discard
  cases store.current with
  | none => rfl
  | some i => simp [Option.filter]

theorem take_get (testing : Bool) (e : HistoryEntry) :
    (store.take testing e).slots.get i = (store.slots.get i).map (TripRecord.appendTail e) := Eight.get_map _ _ _

theorem atReset_powerOn_get : (store.atReset .powerOn).slots.get i = none := emptySlots_get i

theorem atReset_get {kind : ResetKind} (other : kind ≠ .powerOn) :
    (store.atReset kind).slots.get i = (store.slots.get i).map TripRecord.cut := by
  rw [RecordStore.atReset, if_neg other]
  exact cutFilling_get _ _

variable {store i}

theorem cutFilling_closed {slots : Eight (Option TripRecord)} (j : Fin 8) (x : TripRecord)
    (slot : (cutFilling slots).get j = some x) : x.closed = true := by
  rw [cutFilling_get, Option.map_eq_some_iff] at slot
  obtain ⟨y, -, rfl⟩ := slot
  exact cut_closed y

theorem insert_unplaced (full : chooseSlot (cutFilling store.slots) = none) :
    store.insert record = { store with slots := cutFilling store.slots } := by
  simp [RecordStore.insert, full]

theorem insert_placed (chosen : chooseSlot (cutFilling store.slots) = some i) : store.insert record = { store with
    slots := (cutFilling store.slots).set i (some { record with serial := nextSerial store.serial })
    serial := nextSerial store.serial, current := some i } := by
  simp [RecordStore.insert, chosen]

theorem takesSlot_of_placed (chosen : chooseSlot (cutFilling store.slots) = some i) : TakesSlot store.slots i :=
  takesSlot_cutFilling (takesSlot_of_chosen cutFilling_closed chosen)

/-- A kept record is never the one that R132 asks for, R139. -/
theorem TakesSlot.ne_of_keep {slots : Eight (Option TripRecord)} {j : Fin 8} (takes : TakesSlot slots j)
    (slot : slots.get i = some r) (keep : r.keep = true) : i ≠ j := by
  rintro rfl
  rcases takes with ⟨empty, -⟩ | ⟨-, x, held, free, -⟩
  · rw [slot] at empty
    cases empty
  · rw [slot] at held
    cases held
    rw [keep] at free
    cases free

/-- A record opened leaves a kept record in its slot, cut where it was FILLING, R132, R139. -/
theorem insert_get_of_keep (slot : store.slots.get i = some r) (keep : r.keep = true) :
    (store.insert record).slots.get i = some r.cut := by
  have cut : (store.slots.get i).map TripRecord.cut = some r.cut := congrArg (Option.map TripRecord.cut) slot
  cases chosen : chooseSlot (cutFilling store.slots) with
  | none =>
    rw [insert_unplaced chosen]
    exact (cutFilling_get _ _).trans cut
  | some j =>
    rw [insert_placed chosen]
    exact (opened_get _ ((takesSlot_of_placed chosen).ne_of_keep slot keep)).trans cut

/-- One record that may be replaced is enough for a new record to find a slot, R132. -/
theorem chooseSlot_of_replaceable {slots : Eight (Option TripRecord)} (free : replaceable (slots.get i) = true) :
    ∃ j, chooseSlot slots = some j := by
  unfold chooseSlot
  split
  · exact ⟨_, rfl⟩
  · split
    · exact ⟨_, rfl⟩
    · next noCandidate => exact absurd free (List.filter_eq_nil_iff.mp noCandidate i (mem_eightNumbers i))

/-- Where every slot is taken, R132 asks for the one whose serial is below that of every other unkept record. -/
theorem TakesSlot.eq_of_lowest {slots : Eight (Option TripRecord)} {j : Fin 8} (takes : TakesSlot slots j)
    (full : ∀ k, (slots.get k).isSome = true) (slot : slots.get i = some r) (free : r.keep = false)
    (lowest : ∀ k x, k ≠ i → slots.get k = some x → x.keep = false → r.serial < x.serial) : j = i := by
  rcases takes with ⟨empty, -⟩ | ⟨-, x, held, unkept, least⟩
  · exact absurd empty (Option.isSome_iff_ne_none.mp (full j))
  · by_contra other
    have above := lowest j x other held unkept
    have below := least i r slot free
    omega

/-- The unkept record of the lowest serial gives its slot to a new record, where no slot is EMPTY, R132, R140. -/
theorem insert_replaces (full : ∀ k, (store.slots.get k).isSome = true) (slot : store.slots.get i = some r)
    (free : r.keep = false)
    (lowest : ∀ k x, k ≠ i → store.slots.get k = some x → x.keep = false → r.serial < x.serial) :
    store.insert record = { store with
      slots := (cutFilling store.slots).set i (some { record with serial := nextSerial store.serial })
      serial := nextSerial store.serial, current := some i } := by
  have candidate : replaceable ((cutFilling store.slots).get i) = true := by
    rw [cutFilling_get, slot, Option.map_some, replaceable, cut_closed, cut_keep, free]
    rfl
  obtain ⟨j, chosen⟩ := chooseSlot_of_replaceable candidate
  obtain rfl := (takesSlot_of_placed chosen).eq_of_lowest full slot free lowest
  exact insert_placed chosen

end Slots

end Sys2Proof.Machine
end

section
/-!
PROOFS. ORDER KEEP_RECORD, RELEASE_RECORD and DISCARD_RECORDS (R139 to R141): the rows of their tables, and what a
discard, an opening and a reset do with a kept and with a released record.
-/

namespace Sys2Proof.Machine

section Ordered

variable {s u : State} {origin : Station} {p : OrderPayload}

/-- An ORDER of this station's own number, or for all, is acted on as its kind says, R41, R152. -/
theorem orderArrives_addressed (kind : BitVec 4) (act : State → State) (reaches : s.Reaches u origin classOrder)
    (addressed : u.addressed p.target = true) : s.orderArrives origin kind p act = act u :=
  (frameArrives_delivered reaches (p.words kind) _).trans (if_pos addressed)

theorem exec_keepRecord (reaches : s.Reaches u origin classOrder) (addressed : u.addressed p.target = true) :
    exec (.keepRecord origin p) s = .next (State.keepRecord p u) :=
  congrArg Host.Outcome.next (orderArrives_addressed 4 _ reaches addressed)

theorem exec_releaseRecord (reaches : s.Reaches u origin classOrder) (addressed : u.addressed p.target = true) :
    exec (.releaseRecord origin p) s = .next (State.releaseRecord p u) :=
  congrArg Host.Outcome.next (orderArrives_addressed 5 _ reaches addressed)

theorem exec_discardRecords (reaches : s.Reaches u origin classOrder) (addressed : u.addressed p.target = true) :
    exec (.discardRecords origin p) s = .next (State.discardRecords p u) :=
  congrArg Host.Outcome.next (orderArrives_addressed 6 _ reaches addressed)

theorem answerOrder_eq (u : State) (code : OutcomeCode) (p : OrderPayload) : u.answerOrder code p
    = { u with seq := { u.seq with lastOutcome := some ⟨.order, code, p.tag⟩ } } := rfl

end Ordered

section Named

variable {u : State} {n : Word} {i : Fin 8} {r : TripRecord}

theorem namedRecord_none (absent : 7 < n.toNat ∨ u.slot n.toNat = none) : u.namedRecord n = none := by
  unfold State.namedRecord
  split
  · rfl
  · next within => exact Option.map_eq_none_iff.mpr (absent.resolve_left within)

theorem namedRecord_some (number : n.toNat = i.val) (slot : u.records.slots.get i = some r) :
    u.namedRecord n = some (i, r) := by
  have within : ¬7 < n.toNat := by omega
  have index : Fin.ofNat 8 n.toNat = i := by
    rw [number]
    exact Fin.ofNat_val_eq_self i
  rw [State.namedRecord, if_neg within, index, slot]
  rfl

/-- The slot that an argument up to 7 names has that number. -/
theorem exists_slot_number (within : n.toNat ≤ 7) (slot : u.slot n.toNat = some r) :
    ∃ i : Fin 8, n.toNat = i.val ∧ u.records.slots.get i = some r :=
  ⟨Fin.ofNat 8 n.toNat, (Nat.mod_eq_of_lt (Nat.lt_succ_of_le within)).symm, slot⟩

theorem setKeep_eq (slot : u.records.slots.get i = some r) (keep : Bool) : u.setKeep i keep = { u with
    records := { u.records with slots := u.records.slots.set i (some { r with keep := keep }) } } := by
  rw [State.setKeep, State.onRecords, slot]
  rfl

end Named

section Tables

variable {u : State} {p : OrderPayload} {i : Fin 8} {r : TripRecord}

theorem keepRecord_joining (st : u.st = .joining) : State.keepRecord p u = u.answerOrder .wrongState p :=
  if_pos st

theorem keepRecord_unnamed (st : u.st ≠ .joining) (unnamed : u.namedRecord p.argument = none) :
    State.keepRecord p u = u.answerOrder .slotEmpty p := by
  rw [State.keepRecord, if_neg st, unnamed]

theorem keepRecord_named (st : u.st ≠ .joining) (number : p.argument.toNat = i.val)
    (slot : u.records.slots.get i = some r) : State.keepRecord p u
      = if r.keep then u.answerOrder .taken p
        else if 4 ≤ keptCount u.records.slots then u.answerOrder .keepLimit p
        else (u.setKeep i true).answerOrder .taken p := by
  rw [State.keepRecord, if_neg st, namedRecord_some number slot]

theorem releaseRecord_joining (st : u.st = .joining) : State.releaseRecord p u = u.answerOrder .wrongState p :=
  if_pos st

theorem releaseRecord_unnamed (st : u.st ≠ .joining) (unnamed : u.namedRecord p.argument = none) :
    State.releaseRecord p u = u.answerOrder .slotEmpty p := by
  rw [State.releaseRecord, if_neg st, unnamed]

theorem releaseRecord_named (st : u.st ≠ .joining) (number : p.argument.toNat = i.val)
    (slot : u.records.slots.get i = some r) :
    State.releaseRecord p u = (u.setKeep i false).answerOrder .taken p := by
  rw [State.releaseRecord, if_neg st, namedRecord_some number slot]

/-- A RELEASE_RECORD taken, with the whole next state, R140. -/
theorem exec_releaseRecord_taken {s : State} {origin : Station} (reaches : s.Reaches u origin classOrder)
    (addressed : u.addressed p.target = true) (st : u.st ≠ .joining) (number : p.argument.toNat = i.val)
    (slot : u.records.slots.get i = some r) : exec (.releaseRecord origin p) s = .next { u with
      records := { u.records with slots := u.records.slots.set i (some { r with keep := false }) }
      seq := { u.seq with lastOutcome := some ⟨.order, .taken, p.tag⟩ } } := by
  rw [exec_releaseRecord reaches addressed, releaseRecord_named st number slot, setKeep_eq slot, answerOrder_eq]

end Tables

/-- Settles O46. -/
theorem recordsDiscarded : Obligations.RecordsDiscarded := by
  unfold Obligations.RecordsDiscarded
  intro origin p s u reaches addressed
  have current := discard_current u.records
  refine ⟨State.discardRecords p u, exec_discardRecords reaches addressed, rfl, fun i r slot => ?_, fun i empty => ?_,
    fun absent => ?_, fun i held => ?_⟩
  · exact (discard_get u.records i).trans (by rw [slot, discardSlot_some])
  · exact (discard_get u.records i).trans (by rw [empty]; rfl)
  · exact current.trans (by rw [absent]; rfl)
  · refine current.trans ?_
    show _ = if u.records.discard.slots.get i = none then _ else _
    rw [held]
    cases slot : u.records.discard.slots.get i <;> simp [Option.filter, slot]

/-- Settles O44. -/
theorem recordKept : Obligations.RecordKept := by
  unfold Obligations.RecordKept
  refine ⟨fun origin p s u answer reaches addressed rows => ?_,
    fun origin p s u i r reaches addressed st number slot free room => ?_,
    fun origin p s u i r reaches addressed st number slot => ?_, fun store record r i e slot keep => ?_⟩
  · have answered : State.keepRecord p u = u.answerOrder answer p := by
      rcases rows with ⟨st, rfl⟩ | ⟨st, absent, rfl⟩ | ⟨st, within, ⟨r, slot, keep⟩, rfl⟩
        | ⟨st, within, ⟨r, slot, free⟩, four, rfl⟩
      · exact keepRecord_joining st
      · exact keepRecord_unnamed st (namedRecord_none absent)
      · obtain ⟨i, number, held⟩ := exists_slot_number within slot
        rw [keepRecord_named st number held, if_pos keep]
      · obtain ⟨i, number, held⟩ := exists_slot_number within slot
        rw [keepRecord_named st number held, free, if_neg Bool.false_ne_true, if_pos four]
    rw [exec_keepRecord reaches addressed, answered, answerOrder_eq]
  · rw [exec_keepRecord reaches addressed, keepRecord_named st number slot, free, if_neg Bool.false_ne_true,
      if_neg (Nat.not_le.mpr room), setKeep_eq slot, answerOrder_eq]
  · exact ⟨_, exec_releaseRecord_taken reaches addressed st number slot, Eight.get_set_self _ _ _⟩
  · refine ⟨?_, insert_get_of_keep slot keep, (cut_keep r).trans keep, fun kind other => ?_,
      atReset_powerOn_get store i, fun filling => ?_⟩
    · rw [discard_get, slot, discardSlot_some, keep, if_neg (by simp)]
    · rw [atReset_get store i other, slot, Option.map_some]
    · rw [take_get, slot, Option.map_some, appendTail_eq, filling, if_neg Bool.false_ne_true, Option.map_some]

/-- Settles O45. -/
theorem recordReleased : Obligations.RecordReleased := by
  unfold Obligations.RecordReleased
  refine ⟨fun origin p s u answer reaches addressed rows => ?_,
    fun origin p s u i r reaches addressed st number slot => exec_releaseRecord_taken reaches addressed st number slot,
    fun store record r i slot free closed => ⟨?_, fun full lowest => ?_⟩⟩
  · have answered : State.releaseRecord p u = u.answerOrder answer p := by
      rcases rows with ⟨st, rfl⟩ | ⟨st, absent, rfl⟩
      · exact releaseRecord_joining st
      · exact releaseRecord_unnamed st (namedRecord_none absent)
    rw [exec_releaseRecord reaches addressed, answered, answerOrder_eq]
  · rw [discard_get, slot, discardSlot_some, if_pos ⟨closed, free⟩]
  · rw [insert_replaces full slot free lowest]
    exact ⟨rfl, Eight.get_set_self _ _ _⟩

end Sys2Proof.Machine
end

section
/-!
PROOFS. A frame read back from the line (R144 to R146, R151): numbers and words from their bits, the counted bits from
behind the inserted ones, and the fields of the header.
-/

namespace Sys2Proof

section Bits

theorem foldl_bitsMsb (n v acc : Nat) :
    (bitsMsb n v).foldl (fun acc b => 2 * acc + b.toNat) acc = acc * 2 ^ n + v % 2 ^ n := by
  induction n generalizing acc with
  | zero => simp [bitsMsb, Nat.mod_one]
  | succ n ih =>
    rw [bitsMsb, List.foldl_cons, ih, Nat.mod_pow_succ, Nat.toNat_testBit]
    ring

theorem natOfBits_bitsMsb (n v : Nat) : natOfBits (bitsMsb n v) = v % 2 ^ n := by
  rw [natOfBits, foldl_bitsMsb, Nat.zero_mul, Nat.zero_add]

/-- Words are read back from their bits, R144. -/
theorem wordsOfBits_bitsOfWords (ws : List Word) : wordsOfBits ws.length (bitsOfWords ws) = ws := by
  induction ws with
  | nil => rfl
  | cons w ws ih =>
    have cons : bitsOfWords (w :: ws) = bitsMsb 16 w.toNat ++ bitsOfWords ws := List.flatMap_cons
    rw [List.length_cons, wordsOfBits, cons, List.take_left' (length_bitsMsb 16 _),
      List.drop_left' (length_bitsMsb 16 _), natOfBits_bitsMsb, Nat.mod_eq_of_lt w.isLt, ih, BitVec.ofNat_toNat,
      BitVec.setWidth_eq]

end Bits

section Reading

/-- The receiver drops exactly the bits that the sender inserted, R145, R151. -/
theorem readCounted_insertBits {n : Nat} (bits rest : List Bool) (counted used : Nat) (length : bits.length = n) :
    readCounted n ⟨insertBits counted bits ++ rest, counted, used⟩
      = .ok (bits, ⟨rest, counted + n, used + (insertBits counted bits).length⟩) := by
  induction bits generalizing n counted used with
  | nil =>
    subst length
    rfl
  | cons b bits ih =>
    subst length
    by_cases inserted : (counted + 1) % 4 = 0 <;>
      simp [insertBits, readCounted, Cursor.bit, Cursor.skip, inserted, ih] <;> omega

theorem readEnd_recessive (n : Nat) (rest : List Bool) (counted used : Nat) :
    readEnd n ⟨List.replicate n true ++ rest, counted, used⟩ = .ok ⟨rest, counted, used + n⟩ := by
  induction n generalizing used with
  | zero => rfl
  | succ n ih =>
    show readEnd n ⟨List.replicate n true ++ rest, counted, used + 1⟩ = _
    rw [ih, Nat.add_assoc, Nat.add_comm 1]

end Reading

section Layout

/-- Arbitration and length bits, the first ten counted bits (R144). -/
def Frame.headerBits (f : Frame) : List Bool :=
  bitsMsb 3 f.cls.toNat ++ bitsMsb 3 f.origin.val ++ bitsMsb 4 f.words.length

/-- Payload and check word, the counted bits after the header (R144, R146). -/
def Frame.bodyBits (f : Frame) : List Bool :=
  bitsOfWords f.words ++ bitsMsb 16 (crc16 (f.headerBits ++ bitsOfWords f.words)).toNat

variable (f : Frame)

theorem countedBits_eq : f.countedBits = f.headerBits ++ f.bodyBits :=
  List.append_assoc _ _ _

theorem length_headerBits : f.headerBits.length = 10 := by
  simp [Frame.headerBits, length_bitsMsb]

theorem length_bodyBits : f.bodyBits.length = 16 * f.words.length + 16 := by
  rw [Frame.bodyBits, List.length_append, length_bitsOfWords, length_bitsMsb]

theorem headerBits_class : natOfBits (f.headerBits.take 3) = f.cls.toNat := by
  rw [Frame.headerBits, List.append_assoc, List.take_left' (length_bitsMsb 3 _), natOfBits_bitsMsb]
  exact Nat.mod_eq_of_lt f.cls.isLt

theorem headerBits_origin : natOfBits ((f.headerBits.drop 3).take 3) = f.origin.val := by
  rw [Frame.headerBits, List.append_assoc, List.drop_left' (length_bitsMsb 3 _), List.take_left' (length_bitsMsb 3 _),
    natOfBits_bitsMsb]
  exact Nat.mod_eq_of_lt f.origin.isLt

theorem headerBits_length (short : f.words.length ≤ 8) : natOfBits (f.headerBits.drop 6) = f.words.length := by
  rw [Frame.headerBits, List.drop_left' (by simp [length_bitsMsb]), natOfBits_bitsMsb]
  exact Nat.mod_eq_of_lt (by omega)

theorem bodyBits_payload : f.bodyBits.take (16 * f.words.length) = bitsOfWords f.words :=
  List.take_left' (length_bitsOfWords f.words)

theorem bodyBits_check : f.bodyBits.drop (16 * f.words.length)
    = bitsMsb 16 (crc16 (f.headerBits ++ bitsOfWords f.words)).toNat :=
  List.drop_left' (length_bitsOfWords f.words)

/-- The line from the start bit on: header and body, each with its inserted bits, and six end bits (R144, R145). -/
theorem lineBits_eq : f.lineBits
    = false :: (insertBits 0 f.headerBits ++ (insertBits 10 f.bodyBits ++ List.replicate 6 true)) := by
  rw [Frame.lineBits, countedBits_eq, insertBits_append, length_headerBits, Nat.zero_add, List.append_assoc]

end Layout

/-- No class allows more than eight payload words, R144. -/
theorem length_le_of_allowed {cls : BitVec 3} {n : Nat} (allowed : lengthAllowed cls n = true) : n ≤ 8 := by
  unfold lengthAllowed at allowed
  split at allowed <;> simp at allowed <;> omega

/-- Settles O12. -/
theorem lineBitsRoundTrip : Obligations.LineBitsRoundTrip := by
  unfold Obligations.LineBitsRoundTrip
  intro f rest allowed
  have length := headerBits_length f (length_le_of_allowed allowed)
  have short : ¬8 < f.words.length := Nat.not_lt.mpr (length_le_of_allowed allowed)
  have header := readCounted_insertBits f.headerBits
    (insertBits 10 f.bodyBits ++ (List.replicate 6 true ++ rest)) 0 1 (length_headerBits f)
  have body := readCounted_insertBits f.bodyBits (List.replicate 6 true ++ rest) 10
    (1 + (insertBits 0 f.headerBits).length) (length_bodyBits f)
  have origin : Fin.ofNat 8 f.origin.val = f.origin := Fin.ofNat_val_eq_self f.origin
  rw [lineBits_eq, List.cons_append, List.append_assoc, List.append_assoc]
  simp only [receive, header, length, short, if_false, Nat.zero_add, body, bodyBits_payload, bodyBits_check, ne_eq,
    not_true_eq_false, readEnd_recessive, headerBits_class, headerBits_origin, wordsOfBits_bitsOfWords,
    BitVec.ofNat_toNat, BitVec.setWidth_eq, allowed, if_true, origin]

end Sys2Proof
end

section
/-!
PROOFS. A QUERY of every item at the responder (R154, R157): which command an item makes is the one whose meaning
answers with `answerOf`, and the table of R157 is then read once for all items.
-/

namespace Sys2Proof.Machine

section Responder

variable {s u : State} {origin : Station} {item : BitVec 4} {q : QueryPayload} {a : Answer}

/-- The command of each item asks for that item's answer, R158. -/
theorem exec_commandOfQuery (s : State) (origin : Station) (item : BitVec 4) (q : QueryPayload) :
    exec (commandOfQuery origin item q) s = .next (s.query origin item q (answerOf item q)) := by
  obtain ⟨⟨number, below⟩⟩ := item
  interval_cases number <;> rfl

/-- A QUERY that is not withheld is taken by the responder in the state it reaches, R152, R157. -/
theorem exec_query_delivered (item : BitVec 4) (q : QueryPayload) (reaches : s.Reaches u origin classQuery) :
    exec (commandOfQuery origin item q) s = .next (u.takeQuery item q (answerOf item q u)) :=
  (exec_commandOfQuery s origin item q).trans
    (congrArg Host.Outcome.next (frameArrives_delivered reaches (q.words item) _))

theorem takeQuery_ignored (ignored : q.target.toNat ≠ u.loader.station.val ∨ u.st = .joining ∨ u.link.mute = true) :
    u.takeQuery item q a = u := by
  unfold State.takeQuery
  split
  · rfl
  · next target => exact if_pos (ignored.resolve_left target)

theorem takeQuery_answering (target : q.target.toNat = u.loader.station.val) (st : u.st ≠ .joining)
    (mute : u.link.mute = false) : u.takeQuery item q a
      = if 4 ≤ u.link.queue.length then u.onCounters fun k => { k with repliesDropped := bump 65535 k.repliesDropped }
        else u.onLink fun l => { l with queue := l.queue ++ [a.reply item q] } := by
  have answers : ¬(u.st = .joining ∨ u.link.mute = true) := by simp [st, mute]
  rw [State.takeQuery, if_neg (not_not.mpr target), if_neg answers]

end Responder

/-- Settles O54. -/
theorem queryAnswered : Obligations.QueryAnswered := by
  unfold Obligations.QueryAnswered
  intro origin item q s u reaches
  rw [exec_query_delivered item q reaches]
  refine ⟨fun ignored => ?_, fun target st mute full => ?_, fun target st mute room => ?_⟩
  · rw [takeQuery_ignored ignored]
  · rw [takeQuery_answering target st mute, if_pos full]
    rfl
  · rw [takeQuery_answering target st mute, if_neg (Nat.not_le.mpr room)]
    rfl

end Sys2Proof.Machine
end

section
/-!
PROOFS. The words of the replies (R158 to R161): every packed word is the number that its fields make at the places
section 11.5 gives them (R169), a field's value being below the width of its field.
-/

namespace Sys2Proof.Machine

section Widths

theorem StationState.code_lt (st : StationState) : st.code < 2 ^ 4 := by
  cases st <;> decide

theorem ResetKind.code_lt (kind : ResetKind) : kind.code < 2 ^ 2 := by
  cases kind <;> decide

theorem OutcomeSource.code_lt (source : OutcomeSource) : source.code < 2 ^ 2 := by
  cases source <;> decide

theorem OutcomeCode.code_lt (code : OutcomeCode) : code.code < 2 ^ 5 := by
  cases code <;> decide

theorem Cause.code_lt (c : Cause) : c.code < 2 ^ 8 := by
  cases c <;> decide

theorem Action.code_lt (action : Action) : action.code < 2 ^ 2 := by
  cases action <;> decide

theorem Contributor.code_lt (c : Contributor) : c.code < 2 ^ 3 := by
  cases c <;> decide

theorem PeerKind.code_lt (kind : PeerKind) : kind.code < 2 ^ 2 := by
  cases kind <;> decide

theorem EntryState.code_lt (entry : EntryState) : entry.code < 2 ^ 2 := by
  cases entry <;> decide

theorem OwnPart.code_lt (part : OwnPart) : part.code < 2 ^ 2 := by
  cases part <;> decide

/-- The origin of a record, a station or 8, takes four bits, R161. -/
theorem originCode_lt (origin : Option Station) : originCode origin < 2 ^ 4 := by
  cases origin with
  | none => decide
  | some n => exact Nat.lt_trans n.isLt (by decide)

/-- The slot state of a record is not EMPTY. -/
theorem slotCode_lt (r : TripRecord) : r.slotCode < 2 ^ 2 := by
  unfold TripRecord.slotCode
  split <;> decide

end Widths

section Latched

variable {s : State}

theorem mem_latchedTripCauses {c : Cause} :
    c ∈ s.latchedTripCauses ↔ s.actionOf c = .trip ∧ (s.causeField c).latched = true := by
  simp [State.latchedTripCauses, mem_causes]

/-- With no latched TRIP-action cause STATUS names none, R159. -/
theorem lowestLatched_none (unlatched : ∀ c, s.actionOf c = .trip → (s.causeField c).latched = false) :
    s.lowestLatched = 0 := by
  have none : s.latchedTripCauses = [] := List.eq_nil_iff_forall_not_mem.mpr fun c inside => by
    obtain ⟨trips, latched⟩ := mem_latchedTripCauses.mp inside
    exact Bool.false_ne_true ((unlatched c trips).symm.trans latched)
  rw [State.lowestLatched, none]

/-- The first of the latched TRIP-action causes has the lowest code, since they stand in the order of their codes. -/
theorem lowestLatched_least {c : Cause} (trips : s.actionOf c = .trip) (latched : (s.causeField c).latched = true)
    (least : ∀ d, s.actionOf d = .trip → (s.causeField d).latched = true → c.code ≤ d.code) :
    s.lowestLatched = c.code := by
  have sorted : s.latchedTripCauses.Pairwise fun x y => x.code < y.code := List.Pairwise.filter _ (by decide)
  have inside := mem_latchedTripCauses.mpr ⟨trips, latched⟩
  cases causes : s.latchedTripCauses with
  | nil => simp [causes] at inside
  | cons first rest =>
    obtain ⟨firstTrips, firstLatched⟩ := mem_latchedTripCauses.mp (causes ▸ List.mem_cons_self : first ∈ _)
    have below : c.code ≤ first.code := least first firstTrips firstLatched
    have above : first.code ≤ c.code := by
      rw [causes] at sorted inside
      rcases List.mem_cons.mp inside with rfl | later
      · exact Nat.le_refl _
      · exact Nat.le_of_lt ((List.pairwise_cons.mp sorted).1 c later)
    rw [State.lowestLatched, causes]
    exact Nat.le_antisymm above below

theorem lowestLatched_lt (s : State) : s.lowestLatched < 2 ^ 8 := by
  unfold State.lowestLatched
  split
  · next c _ _ => exact c.code_lt
  · decide

end Latched

section Packing

theorem word_eq_ofNat {w : Word} {n : Nat} (number : w.toNat = n) : w = BitVec.ofNat 16 n := by
  rw [← number, BitVec.ofNat_toNat, BitVec.setWidth_eq]

/-- The last outcome as STATUS shows it: source, code and tag, R159. While it is empty all are 0 (log 46). -/
def outcomeNumber (outcome : Option LastOutcome) : Nat :=
  match outcome with
  | some o => 16384 * o.source.code + 256 * o.code.code + o.tag.toNat
  | none => 0

variable (s : State)

theorem statusWords_eq : s.statusWords =
    [BitVec.ofNat 16 (4096 * s.st.code + 256 * s.loader.resetCause.code + s.loader.haltMark.toNat),
     s.cause.g, s.clock.timeMark.extractLsb' 16 16, s.clock.timeMark.extractLsb' 0 16,
     BitVec.ofNat 16 (outcomeNumber s.seq.lastOutcome),
     BitVec.ofNat 16 (256 * s.lowestLatched + 16 * s.alertPresent.toNat + 8 * s.clampCausePresent.toNat
       + 4 * s.tripCauseLatched.toNat + 2 * s.link.mute.toNat + (s.causeField .selftestFail).latched.toNat)] := by
  simp only [State.statusWords, State.ready, longWords, Bool.not_not, List.cons_append, List.nil_append,
    List.cons.injEq, true_and, and_true]
  refine ⟨word_eq_ofNat ?_, word_eq_ofNat ?_, word_eq_ofNat ?_⟩
  · have := s.st.code_lt
    have := s.loader.resetCause.code_lt
    simp only [toNat_append_add, BitVec.toNat_ofNat, BitVec.toNat_ofBool]
    omega
  · cases s.seq.lastOutcome with
    | none => rfl
    | some o =>
      have := o.source.code_lt
      have := o.code.code_lt
      simp only [outcomeNumber, toNat_append_add, BitVec.toNat_ofNat]
      omega
  · have := lowestLatched_lt s
    simp only [toNat_append_add, BitVec.toNat_ofNat, BitVec.toNat_ofBool]
    omega

theorem causeWords_eq (c : Cause) (count : (s.causeField c).count ≤ 255) : s.causeWords c =
    [BitVec.ofNat 16 (32768 * (s.causeField c).present.toNat + 16384 * (s.causeField c).latched.toNat
      + 4096 * (s.actionOf c).code + (s.causeField c).count), BitVec.ofNat 16 (s.cause.actions.level c)] := by
  refine congrArg (· :: _) (word_eq_ofNat ?_)
  have := (s.actionOf c).code_lt
  simp only [toNat_append_add, BitVec.toNat_ofNat, BitVec.toNat_ofBool]
  omega

theorem peerWords_eq (e : PeerEntry) (silence : e.silence ≤ 10) : e.words =
    [BitVec.ofNat 16 (16384 * e.kind.code + 4096 * e.entry.code + 2048 * e.foreign.toNat
      + 1024 * e.share.isSome.toNat + e.silence), BitVec.ofNat 16 e.nonRunning, BitVec.ofNat 16 e.heard] := by
  refine congrArg (· :: _) (word_eq_ofNat ?_)
  have := e.kind.code_lt
  have := e.entry.code_lt
  simp only [toNat_append_add, BitVec.toNat_ofNat, BitVec.toNat_ofBool]
  omega

/-- Part 2 of ALLOWANCE, the clamp record, R159. -/
theorem allowanceWords_two : s.allowanceWords 2 =
    [BitVec.ofNat 16 (32768 * s.limiter.clamp.active.toNat + 256 * s.limiter.clamp.origin.val
      + s.limiter.clamp.causeCode.toNat), BitVec.ofNat 16 s.limiter.clamp.level,
     BitVec.ofNat 16 s.limiter.clamp.remaining] := by
  refine congrArg (· :: _) (word_eq_ofNat ?_)
  have := s.limiter.clamp.origin.isLt
  simp only [toNat_append_add, BitVec.toNat_ofNat, BitVec.toNat_ofBool]
  omega

/-- Part 0 of a history entry, R160. -/
theorem entryPart_zero (e : HistoryEntry) : e.part 0 =
    [e.timeMark.extractLsb' 16 16, e.timeMark.extractLsb' 0 16,
     BitVec.ofNat 16 (4096 * e.state.code + e.limiting.code), BitVec.ofNat 16 e.speed] := by
  refine congrArg (e.timeMark.extractLsb' 16 16 :: e.timeMark.extractLsb' 0 16 :: · :: _) (word_eq_ofNat ?_)
  have := e.state.code_lt
  have := e.limiting.code_lt
  simp only [toNat_append_add, BitVec.toNat_ofNat]
  omega

variable {counter : Nat} {r : TripRecord}

/-- Part 0 of RECORD_HEAD, R161. -/
theorem headWords_zero (ok : r.Ok counter) : r.headWords 0 =
    [BitVec.ofNat 16 (16384 * r.slotCode + 8192 * r.keep.toNat + 2048 * r.ownPart.code + 128 * originCode r.origin
      + 64 * r.confirmed.toNat + 32 * r.tailCut.toNat),
     BitVec.ofNat 16 (256 * r.firstCause.code + r.stateAtTrip.code), BitVec.ofInt 16 r.detail,
     BitVec.ofNat 16 (1024 * r.history.length + 32 * r.tail.length + r.coOrigins.length % 8)] := by
  obtain ⟨history, tail, -⟩ := ok
  simp only [TripRecord.headWords, signedWord, List.cons.injEq, true_and, and_true]
  refine ⟨word_eq_ofNat ?_, word_eq_ofNat ?_, word_eq_ofNat ?_⟩
  · have := slotCode_lt r
    have := r.ownPart.code_lt
    have := originCode_lt r.origin
    simp only [toNat_append_add, BitVec.toNat_ofNat, BitVec.toNat_ofBool]
    omega
  · have := r.firstCause.code_lt
    have := r.stateAtTrip.code_lt
    simp only [toNat_append_add, BitVec.toNat_ofNat]
    omega
  · simp only [toNat_append_add, BitVec.toNat_ofNat]
    omega

/-- Part 1 of RECORD_HEAD, R161. -/
theorem headWords_one (ok : r.Ok counter) : r.headWords 1 =
    [r.timeMark.extractLsb' 16 16, r.timeMark.extractLsb' 0 16,
     BitVec.ofNat 16 (256 * r.subsequent.length + r.overflow)] := by
  obtain ⟨-, -, -, -, subsequent, overflow, -⟩ := ok
  refine congrArg (r.timeMark.extractLsb' 16 16 :: r.timeMark.extractLsb' 0 16 :: [·]) (word_eq_ofNat ?_)
  simp only [toNat_append_add, BitVec.toNat_ofNat]
  omega

/-- Part 1 of RECORD_SNAP, R161. -/
theorem snapshotWords_one (x : Snapshot) (stage : x.stage ≤ 3) (percent : x.overloadPercent ≤ 100) : x.words 1 =
    [BitVec.ofNat 16 x.vibRms, BitVec.ofNat 16 x.vibPeak,
     BitVec.ofNat 16 (8192 * x.limiting.code + 2048 * x.stage + x.overloadPercent)] := by
  refine congrArg (word x.vibRms :: word x.vibPeak :: [·]) (word_eq_ofNat ?_)
  have := x.limiting.code_lt
  simp only [toNat_append_add, BitVec.toNat_ofNat]
  omega

/-- The cause code of a co-origin takes the low five bits of its byte, R161 (log 31). -/
def CoOrigin.number (c : CoOrigin) : Nat :=
  32 * c.station.val + c.causeCode.toNat % 32

theorem coOriginByte_toNat (c : CoOrigin) : c.byte.toNat = c.number := by
  have := c.station.isLt
  simp only [CoOrigin.byte, CoOrigin.number, toNat_append_add, BitVec.toNat_ofNat, BitVec.extractLsb'_toNat,
    Nat.shiftRight_zero]
  omega

theorem causeByte_toNat (x : Subsequent) : (BitVec.ofNat 8 x.cause.code : Byte).toNat = x.cause.code := by
  rw [BitVec.toNat_ofNat, Nat.mod_eq_of_lt x.cause.code_lt]

/-- A byte of a list has the number of its entry, 0 where there is none. -/
theorem getD_map_toNat {α : Type} {byte : α → Byte} {number : α → Nat} (same : ∀ x, (byte x).toNat = number x)
    (list : List α) (k : Nat) : ((list.map byte).getD k 0).toNat = (list[k]?).elim 0 number := by
  rw [List.getD_eq_getElem?_getD, List.getElem?_map]
  cases list[k]? with
  | none => rfl
  | some x => exact same x

variable {bytes : List Byte} {number : Nat → Nat} (numbers : ∀ k, (bytes.getD k 0).toNat = number k) (i : Nat)
include numbers

/-- Two bytes of a list in a word, the first in the high byte, R161. -/
theorem bytePair_eq : bytePair bytes i = BitVec.ofNat 16 (256 * number i + number (i + 1)) := by
  refine word_eq_ofNat ?_
  rw [bytePair, toNat_append_add, numbers, numbers]
  omega

/-- A byte of a list alone in the high byte of a word, R161. -/
theorem byteAlone_eq : bytes.getD i 0 ++ 0#8 = BitVec.ofNat 16 (256 * number i) := by
  refine word_eq_ofNat ?_
  rw [toNat_append_add, numbers, BitVec.toNat_ofNat]
  omega

end Packing

section Lists

variable {r : TripRecord} {number : Nat → Nat}

/-- Part 0 of RECORD_LIST, the co-origins, R161. -/
theorem listWords_zero (numbers : ∀ k, (r.coOrigins[k]?).elim 0 CoOrigin.number = number k) : r.listWords 0 = some
    [BitVec.ofNat 16 (256 * number 0 + number 1), BitVec.ofNat 16 (256 * number 2 + number 3),
     BitVec.ofNat 16 (256 * number 4 + number 5), BitVec.ofNat 16 (256 * number 6)] := by
  have bytes k := (getD_map_toNat coOriginByte_toNat r.coOrigins k).trans (numbers k)
  rw [TripRecord.listWords, bytePair_eq bytes, bytePair_eq bytes, bytePair_eq bytes, byteAlone_eq bytes]

/-- Part 1 of RECORD_LIST, the codes of the subsequent causes, R161. -/
theorem listWords_one (numbers : ∀ k, (r.subsequent[k]?).elim 0 (fun x => x.cause.code) = number k) :
    r.listWords 1 = some
      [BitVec.ofNat 16 (256 * number 0 + number 1), BitVec.ofNat 16 (256 * number 2 + number 3)] := by
  have bytes k := (getD_map_toNat causeByte_toNat r.subsequent k).trans (numbers k)
  rw [TripRecord.listWords, bytePair_eq bytes, bytePair_eq bytes]

end Lists

end Sys2Proof.Machine
end

section
/-!
PROOFS. What each item of a QUERY reports (R158 to R161): the status by the row that holds for the index, the sub-index
and the record or entry they name, and the data of the part asked for.
-/

namespace Sys2Proof.Machine

section Ranges

variable {q : QueryPayload} {indices subs : Nat × Nat} {a : Answer}

theorem ranged_inside (index : indices.1 ≤ q.index.toNat ∧ q.index.toNat ≤ indices.2)
    (sub : subs.1 ≤ q.sub.toNat ∧ q.sub.toNat ≤ subs.2) : ranged q indices subs a = a :=
  if_pos ⟨index.1, index.2, sub⟩

theorem ranged_outside (outside : q.index.toNat < indices.1 ∨ indices.2 < q.index.toNat
    ∨ q.sub.toNat < subs.1 ∨ subs.2 < q.sub.toNat) : ranged q indices subs a = .indexRange :=
  if_neg (by omega)

/-- The items 0 and 11 to 15 are none, R158, R170. -/
theorem answerOf_undefined {item : BitVec 4} (s : State) (undefined : item = 0 ∨ 11 ≤ item.toNat) :
    answerOf item q s = .noSuchItem := by
  unfold answerOf
  split
  case h_11 => rfl
  all_goals bv_omega

end Ranges

section Tables

variable {q : QueryPayload} {s : State}

theorem answerStatus_words (index : q.index = 0) (sub : q.sub = 0) : answerStatus q s = .ok s.statusWords :=
  ranged_inside (by simp [index]) (by simp [sub])

theorem answerCause_code {c : Cause} (index : q.index.toNat = c.code) (sub : q.sub = 0) :
    answerCause q s = .ok (s.causeWords c) := by
  have codes : 1 ≤ c.code ∧ c.code ≤ 24 := by cases c <;> decide
  rw [answerCause, ranged_inside (index ▸ codes) (by simp [sub]), index, causeOfCode_code]

theorem answerPeer_part {n : Station} {part : Nat} (index : q.index.toNat = n.val) (asked : q.sub.toNat = part)
    (within : part ≤ 2) : answerPeer q s = (s.entry n).part part := by
  have number : Fin.ofNat 8 q.index.toNat = n := index ▸ Fin.ofNat_val_eq_self n
  rw [answerPeer, ranged_inside ⟨Nat.zero_le _, by omega⟩ ⟨Nat.zero_le _, asked ▸ within⟩, number, asked]

/-- Parts 1 and 2 of PEER are ABSENT until the entry has a SHARE, R158. -/
theorem peerPart_absent {e : PeerEntry} {sub : Nat} (part : sub = 1 ∨ sub = 2) (absent : e.share = none) :
    e.part sub = .absent [] := by
  rcases part with rfl | rfl <;> simp only [PeerEntry.part, absent]

theorem peerPart_share {e : PeerEntry} {p : SharePayload} (share : e.share = some p) :
    e.part 1 = .ok [p.word0, p.feedback, p.allowance, p.speed, p.g, p.signature]
      ∧ e.part 2 = .ok [p.word6, p.outcomeCode ++ p.outcomeTag] := by
  simp only [PeerEntry.part, share]
  exact ⟨rfl, rfl⟩

variable {part : Nat} {data : List Word}

theorem answerAllowance_part (index : q.index.toNat = part) (within : part ≤ 2) (sub : q.sub = 0)
    (words : s.allowanceWords part = data) : answerAllowance q s = .ok data := by
  rw [answerAllowance, ranged_inside ⟨Nat.zero_le _, index ▸ within⟩ (by simp [sub]), index, words]

theorem answerCounters_part (index : q.index.toNat = part) (within : part ≤ 1) (sub : q.sub = 0)
    (words : s.link.counters.part part = data) : answerCounters q s = .ok data := by
  rw [answerCounters, ranged_inside ⟨Nat.zero_le _, index ▸ within⟩ (by simp [sub]), index, words]

theorem answerHistory_absent (index : q.index.toNat ≤ 47) (sub : q.sub.toNat ≤ 2)
    (beyond : s.records.ring.length ≤ q.index.toNat) : answerHistory q s = .absent [] := by
  rw [answerHistory, ranged_inside ⟨Nat.zero_le _, index⟩ ⟨Nat.zero_le _, sub⟩, ringPart,
    List.getElem?_eq_none beyond]

theorem answerHistory_held {e : HistoryEntry} (index : q.index.toNat ≤ 47)
    (held : s.records.ring[q.index.toNat]? = some e) (asked : q.sub.toNat = part) (within : part ≤ 2)
    (words : e.part part = data) : answerHistory q s = .ok data := by
  rw [answerHistory, ranged_inside ⟨Nat.zero_le _, index⟩ ⟨Nat.zero_le _, asked ▸ within⟩, ringPart, held, asked]
  exact congrArg Answer.ok words

end Tables

/-! The four record items ask one slot for one part. -/
section RecordItems

variable {q : QueryPayload} {s : State} {i : Fin 8} {last : Nat} {r : TripRecord}
  {part : TripRecord → Option (List Word)}

theorem slot_of_index (index : q.index.toNat = i.val) : s.slot q.index.toNat = s.records.slots.get i := by
  rw [State.slot, index, Fin.ofNat_val_eq_self]

theorem recordItem_inside (index : q.index.toNat = i.val) (sub : q.sub.toNat ≤ last) :
    ranged q (0, 7) (0, last) (recordAnswer (s.slot q.index.toNat) part)
      = recordAnswer (s.records.slots.get i) part := by
  rw [ranged_inside ⟨Nat.zero_le _, by omega⟩ ⟨Nat.zero_le _, sub⟩, slot_of_index index]

/-- An EMPTY slot is ABSENT, without data, R158. -/
theorem recordItem_empty (index : q.index.toNat = i.val) (empty : s.records.slots.get i = none)
    (sub : q.sub.toNat ≤ last) :
    ranged q (0, 7) (0, last) (recordAnswer (s.slot q.index.toNat) part) = .absent [] := by
  rw [recordItem_inside index sub, empty, recordAnswer]

/-- A part that is filled follows the record's number and serial, R161. -/
theorem recordItem_filled {data : List Word} (index : q.index.toNat = i.val) (slot : s.records.slots.get i = some r)
    (sub : q.sub.toNat ≤ last) (filled : part r = some data) :
    ranged q (0, 7) (0, last) (recordAnswer (s.slot q.index.toNat) part) = .ok (r.ident ++ data) := by
  rw [recordItem_inside index sub, slot]
  simp only [recordAnswer, filled]

/-- A part that is not filled is ABSENT, with the record's number and serial, R158. -/
theorem recordItem_unfilled (index : q.index.toNat = i.val) (slot : s.records.slots.get i = some r)
    (sub : q.sub.toNat ≤ last) (unfilled : part r = none) :
    ranged q (0, 7) (0, last) (recordAnswer (s.slot q.index.toNat) part) = .absent r.ident := by
  rw [recordItem_inside index sub, slot]
  simp only [recordAnswer, unfilled]

variable {sub : Nat} {data : List Word} (index : q.index.toNat = i.val) (slot : s.records.slots.get i = some r)
include index slot

theorem answerRecordHead_filled (asked : q.sub.toNat = sub) (within : sub ≤ 1) (words : r.headWords sub = data) :
    answerRecordHead q s = .ok (r.ident ++ data) :=
  recordItem_filled index slot (asked ▸ within) (by rw [asked, words])

theorem answerRecordSnap_filled (asked : q.sub.toNat = sub) (within : sub ≤ 1) (words : r.snapshot.words sub = data) :
    answerRecordSnap q s = .ok (r.ident ++ data) :=
  recordItem_filled index slot (asked ▸ within) (by rw [asked, words])

theorem answerRecordList_filled (asked : q.sub.toNat = sub) (within : sub ≤ 5) (words : r.listWords sub = some data) :
    answerRecordList q s = .ok (r.ident ++ data) :=
  recordItem_filled index slot (asked ▸ within) (by rw [asked, words])

/-- A subsequent cause in full, or ABSENT where the record holds no such entry, R161. -/
theorem answerRecordList_subsequent {n : Nat} (few : n < 4) (asked : q.sub.toNat = n + 2) :
    (∀ x, r.subsequent[n]? = some x → answerRecordList q s = .ok (r.ident ++ x.words))
    ∧ (r.subsequent[n]? = none → answerRecordList q s = .absent r.ident) := by
  have words : r.listWords q.sub.toNat = (r.subsequent[n]?).map Subsequent.words := by rw [asked, TripRecord.listWords]
  refine ⟨fun x held => recordItem_filled index slot (by omega) ?_,
    fun beyond => recordItem_unfilled index slot (by omega) ?_⟩
  · rw [words, held, Option.map_some]
  · rw [words, beyond, Option.map_none]

theorem answerRecordEntry_absent (sub : q.sub.toNat ≤ 191) (absent : r.entryAt (q.sub.toNat % 64) = none) :
    answerRecordEntry q s = .absent r.ident :=
  recordItem_unfilled index slot sub (by rw [absent, Option.map_none])

theorem answerRecordEntry_held {e : HistoryEntry} (within : q.sub.toNat ≤ 191)
    (held : r.entryAt (q.sub.toNat % 64) = some e) (asked : q.sub.toNat / 64 = sub) (words : e.part sub = data) :
    answerRecordEntry q s = .ok (r.ident ++ data) :=
  recordItem_filled index slot within (by rw [held, Option.map_some, asked, words])

end RecordItems

/-- Settles O55. -/
theorem replyContents : Obligations.ReplyContents := by
  unfold Obligations.ReplyContents
  intro q s
  have first (sub : q.sub = 0) : q.sub.toNat = 0 := congrArg BitVec.toNat sub
  have second (sub : q.sub = 1) : q.sub.toNat = 1 := congrArg BitVec.toNat sub
  have initial (index : q.index = 0) : q.index.toNat = 0 := congrArg BitVec.toNat index
  refine ⟨fun item => answerOf_undefined s,
    -- STATUS
    fun outside => ranged_outside (by bv_omega),
    fun index sub => (answerStatus_words index sub).trans (congrArg Answer.ok (statusWords_eq s)),
    lowestLatched_none, fun c => lowestLatched_least,
    -- CAUSE
    fun outside => ranged_outside (by bv_omega),
    fun c index sub count => (answerCause_code index sub).trans (congrArg Answer.ok (causeWords_eq s c count)),
    -- PEER
    fun outside => ranged_outside (by omega),
    fun n index =>
      ⟨fun sub silence => (answerPeer_part index (first sub) (by decide)).trans
        (congrArg Answer.ok (peerWords_eq _ silence)),
      fun sub absent => (answerPeer_part index rfl (by omega)).trans (peerPart_absent sub absent),
      fun p share => ⟨fun sub => (answerPeer_part index sub (by decide)).trans (peerPart_share share).1,
        fun sub => (answerPeer_part index sub (by decide)).trans (peerPart_share share).2⟩⟩,
    -- ALLOWANCE
    fun outside => ranged_outside (by bv_omega),
    fun index sub => answerAllowance_part (initial index) (by decide) sub rfl,
    fun index sub => answerAllowance_part index (by decide) sub (allowanceWords_two s),
    -- COUNTERS
    fun outside => ranged_outside (by bv_omega),
    fun index sub => answerCounters_part (initial index) (by decide) sub rfl,
    fun index sub => answerCounters_part index (by decide) sub rfl,
    -- HISTORY
    fun outside => ranged_outside (by omega),
    fun index sub beyond => answerHistory_absent index sub beyond,
    fun e index held =>
      ⟨fun sub => answerHistory_held index held (first sub) (by decide) (entryPart_zero e),
      fun sub => answerHistory_held index held sub (by decide) rfl,
      fun sub => answerHistory_held index held sub (by decide) rfl⟩,
    -- the record items
    fun outside => ⟨ranged_outside (by omega), ranged_outside (by omega)⟩,
    fun outside => ranged_outside (by omega),
    fun outside => ranged_outside (by omega),
    fun i index empty => ⟨fun sub => ⟨recordItem_empty index empty sub, recordItem_empty index empty sub⟩,
      recordItem_empty index empty, recordItem_empty index empty⟩,
    fun i r index slot ok =>
      ⟨fun sub => answerRecordHead_filled index slot (first sub) (by decide) (headWords_zero ok),
      fun sub => answerRecordHead_filled index slot (second sub) (by decide) (headWords_one ok),
      fun sub => answerRecordSnap_filled index slot (first sub) (by decide) rfl,
      fun n few asked => answerRecordList_subsequent index slot few asked,
      fun sub stage percent =>
        answerRecordSnap_filled index slot (second sub) (by decide) (snapshotWords_one _ stage percent),
      ?_, ?_,
      fun sub => ⟨fun absent => answerRecordEntry_absent index slot sub absent, fun e held =>
        ⟨fun asked => answerRecordEntry_held index slot sub held asked (entryPart_zero e),
        fun asked => answerRecordEntry_held index slot sub held asked rfl,
        fun asked => answerRecordEntry_held index slot sub held asked rfl⟩⟩⟩⟩
  · intro byte sub
    refine answerRecordList_filled index slot (first sub) (by decide) (listWords_zero (number := byte) fun k => ?_)
    dsimp only [byte]
    cases r.coOrigins[k]? <;> rfl
  · intro byte sub
    refine answerRecordList_filled index slot (second sub) (by decide) (listWords_one (number := byte) fun k => ?_)
    dsimp only [byte]
    cases r.subsequent[k]? <;> rfl

end Sys2Proof.Machine
end

section
/-!
PROOFS. The settings guard and the supply monitor (R165, R168): the two outcomes of a guard expiry, an upset of the
stored settings, and the supply compared with the warning level and its hysteresis.
-/

namespace Sys2Proof.Machine

section SettingsGuard

variable {s : State}

/-- A CRC found as at the copy restarts the guard timer, R165. -/
theorem exec_guardTimer_agrees (runs : s.timers.guard.isSome = true) (agrees : s.cfg.crc = s.loader.guardWord) :
    exec .guardTimerExpiry s = .next (s.onTimers fun t => { t with guard := some s.cfg.sharePeriodUs }) :=
  congrArg Host.Outcome.next ((if_neg (running_not_isNone runs)).trans (if_pos agrees))

/-- Any other CRC stops the timer, and SETTINGS_GUARD is presented with the CRC found, R165. -/
theorem exec_guardTimer_differs (runs : s.timers.guard.isSome = true) (differs : s.cfg.crc ≠ s.loader.guardWord) :
    exec .guardTimerExpiry s = .next
      (((s.onTimers fun t => { t with guard := none }).onLoader
        fun l => { l with guardFound := some s.cfg.crc }).present .settingsGuard true s.cfg.crc.toNat) :=
  congrArg Host.Outcome.next ((if_neg (running_not_isNone runs)).trans (if_neg differs))

theorem exec_settingsUpset (i : Fin 64) (v : Word) (s : State) : exec (.settingsUpset i v) s = .next { s with
    loader := { s.loader with settings := s.loader.settings.map fun w => w.set i.val v } } :=
  rfl

end SettingsGuard

section SupplyMonitor

/-- Below the warning level SUPPLY_LOW holds; within 20 mV above it a SUPPLY_LOW that held holds on, R168. -/
theorem lowAfter_eq (level mv : Nat) (low : Bool) :
    lowAfter level mv low = (decide (mv < level) || (low && decide (mv < level + 20))) := by
  unfold lowAfter
  split
  case isTrue below => simp [below]
  case isFalse above =>
    split
    case isTrue clear => simp [above, Nat.not_lt.mpr clear]
    case isFalse near => simp [above, Nat.not_le.mp near]

/-- The supply measured and the comparison's result, R168. -/
def State.supplied (s : State) (mv : Nat) (low : Bool) : State :=
  { s with inputs := { s.inputs with supplyMillivolts := mv }, monitor := { s.monitor with supplyLow := low } }

variable (mv : Nat) {s : State}

/-- Before the settings are taken the level is noted and not compared, R168. -/
theorem exec_supplyCrossing_unset (unset : s.loader.settings = none) : exec (.supplyLevelCrossing mv) s
    = .next { s with inputs := { s.inputs with supplyMillivolts := mv } } :=
  congrArg Host.Outcome.next (if_pos (Option.isNone_iff_eq_none.mpr unset))

theorem exec_supplyCrossing_compared (taken : s.loader.settings ≠ none) {low : Bool}
    (compared : lowAfter s.cfg.warningLevel mv s.monitor.supplyLow = low) : exec (.supplyLevelCrossing mv) s
    = .next ((s.supplied mv low).present .supplyLow low s.cfg.supplyStep) := by
  subst compared
  exact congrArg Host.Outcome.next (if_neg (mt Option.isNone_iff_eq_none.mp taken))

end SupplyMonitor

/-- Settles O59, event by event; where nothing is presented, the supply measured and compared stands as it is. -/
theorem guardAndSupply : Obligations.GuardAndSupply := by
  unfold Obligations.GuardAndSupply
  refine ⟨fun s runs => ⟨exec_guardTimer_agrees runs, exec_guardTimer_differs runs⟩,
    fun i v s w taken => ?_, fun i v s unset => ?_, fun mv s => exec_supplyCrossing_unset mv,
    fun mv s low taken hysteresis => ?_⟩
  · rw [exec_settingsUpset, taken, Option.map_some]
  · rw [exec_settingsUpset, unset, Option.map_none, ← unset]
  · have crossed := exec_supplyCrossing_compared mv taken ((lowAfter_eq ..).trans hysteresis.symm)
    refine ⟨crossed, fun unjoined => crossed.trans (congrArg Host.Outcome.next ?_)⟩
    exact present_unjoined (s := s.supplied mv low) .supplyLow low s.cfg.supplyStep unjoined

end Sys2Proof.Machine
end

section
/-!
PROOFS. The frame of a received-frame command is read back as that command (R144, R152, R169, R170). A packed word is
the number its fields make at their places in section 11.3, so a field is read back as digits of that number; class by
class the payload is then read from its words, and the kind of an ORDER or the item of a QUERY names its command.
-/

namespace Sys2Proof

open Machine (toNat_append_add)

section Fields

variable {w : Word} {number lo n : Nat} (packed : w.toNat = number)
include packed

/-- The bits of a word from bit `lo` up are the digits of its number there, R169. -/
theorem wordField_eq {x : BitVec n} (digits : number / 2 ^ lo % 2 ^ n = x.toNat) : wordField w lo n = x := by
  subst packed
  exact BitVec.eq_of_toNat_eq (by rw [wordField, BitVec.extractLsb'_toNat, Nat.shiftRight_eq_div_pow, digits])

theorem wordBit_eq {b : Bool} (digit : number / 2 ^ lo % 2 = b.toNat) : wordBit w lo = b := by
  subst packed
  rw [wordBit, BitVec.getLsbD, Nat.testBit_eq_decide_div_mod_eq, digit]
  cases b <;> rfl

end Fields

section Payloads

theorem TripPayload.ofWords_words (p : TripPayload) : ofWords p.words = some p := by
  have packed : (p.causeCode ++ 0#4 ++ p.stateAtTrip : Word).toNat = 256 * p.causeCode.toNat + p.stateAtTrip.toNat := by
    simp only [toNat_append_add, BitVec.toNat_ofNat]
    omega
  rw [words, ofWords, wordField_eq packed (x := p.causeCode) (by omega),
    wordField_eq packed (x := p.stateAtTrip) (by omega)]

theorem ClampPayload.ofWords_words (p : ClampPayload) : ofWords p.words = some p := by
  have packed : (0#11 ++ p.causeCode : Word).toNat = p.causeCode.toNat := by
    simp only [toNat_append_add, BitVec.toNat_ofNat]
    omega
  rw [words, ofWords, wordField_eq packed (x := p.causeCode) (by omega)]

theorem OrderPayload.ofWords_words (kind : BitVec 4) (p : OrderPayload) : ofWords (p.words kind) = some (kind, p) := by
  have packed0 : (0#4 ++ p.target ++ 0#4 ++ kind : Word).toNat = 256 * p.target.toNat + kind.toNat := by
    simp only [toNat_append_add, BitVec.toNat_ofNat]
    omega
  have packed1 : (0#8 ++ p.tag : Word).toNat = p.tag.toNat := by
    simp only [toNat_append_add, BitVec.toNat_ofNat]
    omega
  rw [words, ofWords, wordField_eq packed0 (x := kind) (by omega), wordField_eq packed0 (x := p.target) (by omega),
    wordField_eq packed1 (x := p.tag) (by omega)]

theorem DemandPayload.ofWords_words (p : DemandPayload) : ofWords p.words = some p := by
  have packed : (0#6 ++ p.mode ++ p.sequence : Word).toNat = 256 * p.mode.toNat + p.sequence.toNat := by
    simp only [toNat_append_add, BitVec.toNat_ofNat]
    omega
  rw [words, ofWords, wordField_eq packed (x := p.mode) (by omega), wordField_eq packed (x := p.sequence) (by omega)]

theorem SharePayload.word0_toNat (p : SharePayload) : p.word0.toNat = 4096 * p.state.toNat + 1024 * p.intended.toNat
    + 512 * p.notReady.toNat + 128 * p.stage.toNat + 16 * p.limiting.toNat := by
  simp only [word0, toNat_append_add, BitVec.toNat_ofNat, BitVec.toNat_ofBool]
  omega

theorem SharePayload.word6_toNat (p : SharePayload) : p.word6.toNat = 256 * p.outcomeSource.toNat
    + 32 * p.alertPresent.toNat + 16 * p.clampCausePresent.toNat + 8 * p.tripCauseLatched.toNat
    + 4 * p.vibrationDerating.toNat + 2 * p.overloadLimiting.toNat + p.mutePending.toNat := by
  simp only [word6, toNat_append_add, BitVec.toNat_ofNat, BitVec.toNat_ofBool]
  omega

theorem SharePayload.ofWords_words (p : SharePayload) : ofWords p.words = some p := by
  have packed7 : (p.outcomeCode ++ p.outcomeTag : Word).toNat = 256 * p.outcomeCode.toNat + p.outcomeTag.toNat := by
    simp only [toNat_append_add]
    omega
  have word0 := p.word0_toNat
  have word6 := p.word6_toNat
  have notReady := p.notReady.toNat_le
  have alert := p.alertPresent.toNat_le
  have clamp := p.clampCausePresent.toNat_le
  have latched := p.tripCauseLatched.toNat_le
  have derating := p.vibrationDerating.toNat_le
  have limiting := p.overloadLimiting.toNat_le
  have mute := p.mutePending.toNat_le
  rw [words, ofWords, wordField_eq word0 (x := p.state) (by omega), wordField_eq word0 (x := p.intended) (by omega),
    wordBit_eq word0 (b := p.notReady) (by omega), wordField_eq word0 (x := p.stage) (by omega),
    wordField_eq word0 (x := p.limiting) (by omega), wordField_eq word6 (x := p.outcomeSource) (by omega),
    wordBit_eq word6 (b := p.alertPresent) (by omega), wordBit_eq word6 (b := p.clampCausePresent) (by omega),
    wordBit_eq word6 (b := p.tripCauseLatched) (by omega), wordBit_eq word6 (b := p.vibrationDerating) (by omega),
    wordBit_eq word6 (b := p.overloadLimiting) (by omega), wordBit_eq word6 (b := p.mutePending) (by omega),
    wordField_eq packed7 (x := p.outcomeCode) (by omega), wordField_eq packed7 (x := p.outcomeTag) (by omega)]

theorem QueryPayload.ofWords_words (item : BitVec 4) (p : QueryPayload) : ofWords (p.words item) = some (item, p) := by
  have packed0 : (p.target ++ item ++ p.tag : Word).toNat
      = 4096 * p.target.toNat + 256 * item.toNat + p.tag.toNat := by
    simp only [toNat_append_add]
    omega
  have packed1 : (p.index ++ p.sub : Word).toNat = 256 * p.index.toNat + p.sub.toNat := by
    simp only [toNat_append_add]
    omega
  rw [words, ofWords, wordField_eq packed0 (x := item) (by omega), wordField_eq packed0 (x := p.target) (by omega),
    wordField_eq packed0 (x := p.tag) (by omega), wordField_eq packed1 (x := p.index) (by omega),
    wordField_eq packed1 (x := p.sub) (by omega)]

theorem RollPayload.ofWords_words (p : RollPayload) : ofWords p.words = some p := by
  have packed : (p.state ++ 0#2 ++ p.resetCause ++ 0#7 ++ BitVec.ofBool p.haltMark : Word).toNat
      = 4096 * p.state.toNat + 256 * p.resetCause.toNat + p.haltMark.toNat := by
    simp only [toNat_append_add, BitVec.toNat_ofNat, BitVec.toNat_ofBool]
    omega
  have mark := p.haltMark.toNat_le
  rw [words, ofWords, wordField_eq packed (x := p.state) (by omega),
    wordField_eq packed (x := p.resetCause) (by omega), wordBit_eq packed (b := p.haltMark) (by omega)]

end Payloads

section Reading

/-- A frame of an allowed length that is the command `c`, R144, R169. -/
def Frame.ReadsAs (f : Frame) (c : Instr) : Prop :=
  lengthAllowed f.cls f.words.length = true ∧ commandOfFrame f = some c

variable (origin : Station)

theorem readsAs_trip (p : TripPayload) : Frame.ReadsAs ⟨classTrip, origin, p.words⟩ (.tripFrame origin p) :=
  ⟨rfl, congrArg (Option.map _) p.ofWords_words⟩

theorem readsAs_clamp (p : ClampPayload) : Frame.ReadsAs ⟨classClamp, origin, p.words⟩ (.clampFrame origin p) :=
  ⟨rfl, congrArg (Option.map _) p.ofWords_words⟩

theorem readsAs_order (kind : BitVec 4) (p : OrderPayload) :
    Frame.ReadsAs ⟨classOrder, origin, p.words kind⟩ (commandOfOrder origin kind p) :=
  ⟨rfl, congrArg (Option.map (Function.uncurry (commandOfOrder origin))) (p.ofWords_words kind)⟩

theorem readsAs_demand (p : DemandPayload) : Frame.ReadsAs ⟨classDemand, origin, p.words⟩ (.demandFrame origin p) :=
  ⟨rfl, congrArg (Option.map _) p.ofWords_words⟩

theorem readsAs_share (p : SharePayload) : Frame.ReadsAs ⟨classShare, origin, p.words⟩ (.shareFrame origin p) :=
  ⟨rfl, congrArg (Option.map _) p.ofWords_words⟩

theorem readsAs_query (item : BitVec 4) (p : QueryPayload) :
    Frame.ReadsAs ⟨classQuery, origin, p.words item⟩ (commandOfQuery origin item p) :=
  ⟨rfl, congrArg (Option.map (Function.uncurry (commandOfQuery origin))) (p.ofWords_words item)⟩

theorem readsAs_reply {words : List Word} (allowed : lengthAllowed classReply words.length = true) :
    Frame.ReadsAs ⟨classReply, origin, words⟩ (.replyFrame origin words) :=
  ⟨allowed, if_pos allowed⟩

theorem readsAs_roll (p : RollPayload) : Frame.ReadsAs ⟨classRoll, origin, p.words⟩ (.rollFrame origin p) :=
  ⟨rfl, congrArg (Option.map _) p.ofWords_words⟩

/-- A kind that is not one of the six codes is the undefined one, R41, R170. -/
theorem commandOfOrder_undefined {kind : BitVec 4} (undefinedKind : orderKindDefined kind = false) (p : OrderPayload) :
    commandOfOrder origin kind p = .orderUndefinedKind origin kind p := by
  unfold commandOfOrder
  split <;> simp_all [orderKindDefined]

/-- An item that is not one of the ten codes is the undefined one, R158, R170. -/
theorem commandOfQuery_undefined {item : BitVec 4} (undefinedItem : queryItemDefined item = false) (p : QueryPayload) :
    commandOfQuery origin item p = .queryNoSuchItem origin item p := by
  unfold commandOfQuery
  split <;> simp_all [queryItemDefined]

end Reading

/-- Settles O13, class by class; the kind of an ORDER and the item of a QUERY stand in their frames. -/
theorem commandFrameRoundTrip : Obligations.CommandFrameRoundTrip := by
  unfold Obligations.CommandFrameRoundTrip
  intro c f wellFormed frame
  cases c with
  | tripFrame origin p =>
    cases frame
    exact readsAs_trip origin p
  | clampFrame origin p =>
    cases frame
    exact readsAs_clamp origin p
  | demandFrame origin p =>
    cases frame
    exact readsAs_demand origin p
  | shareFrame origin p =>
    cases frame
    exact readsAs_share origin p
  | rollFrame origin p =>
    cases frame
    exact readsAs_roll origin p
  | replyFrame origin words =>
    cases frame
    exact readsAs_reply origin wellFormed
  | orderSelftest origin p | orderRestart origin p | clearTrip origin p | keepRecord origin p
  | releaseRecord origin p | discardRecords origin p =>
    cases frame
    exact readsAs_order origin _ p
  | orderUndefinedKind origin kind p =>
    cases frame
    rw [← commandOfOrder_undefined origin ((Bool.not_eq_true' _).mp wellFormed) p]
    exact readsAs_order origin kind p
  | queryStatus origin p | queryCause origin p | queryPeer origin p | queryAllowance origin p | queryCounters origin p
  | queryRecordHead origin p | queryRecordSnap origin p | queryRecordList origin p | queryRecordEntry origin p
  | queryHistory origin p =>
    cases frame
    exact readsAs_query origin _ p
  | queryNoSuchItem origin item p =>
    cases frame
    rw [← commandOfQuery_undefined origin ((Bool.not_eq_true' _).mp wellFormed) p]
    exact readsAs_query origin item p
  | _ => cases frame

end Sys2Proof
end

section
/-!
PROOFS. The outcome of a command and the queue (log 1, 40): an ordinary command lands, and a landing, start-up and the
resets leave the queue as it is. Where an event has no place the guard of its command leaves the whole state (log 3, 12,
36).
-/

namespace Sys2Proof.Machine

section Queue

variable {s t : State}

theorem lands_pending (h : Lands s t) : t.pending = s.pending := by
  obtain ⟨pending, -⟩ := chain_outer h.loose
  exact pending

theorem settle_pending (straps : BitVec 3) (s : State) :
    (landed s (execSettleTimeExpiry straps s)).pending = s.pending :=
  landed_settle (P := fun t => t.pending = s.pending) straps s rfl fun _ => rfl

/-- Start-up ends in a change of state, to FAULT_HALT or to JOINING, R164. -/
theorem read_pending (bytes : List Byte) (s : State) :
    (landed s (execParameterReadComplete bytes s)).pending = s.pending :=
  landed_read (P := fun t => t.pending = s.pending) bytes s rfl (fun _ => moveTo_pending _ _)
    fun _ _ => moveTo_pending _ _

/-- The own events taken while time passes come from no queue, log 2. -/
theorem pass_pending (n : Nat) (s : State) : (s.pass n).pending = s.pending :=
  pass_keeps (P := fun t => t.pending = s.pending) (fun _ _ lands kept => (lands_pending lands).trans kept)
    (fun straps u kept => (settle_pending straps u).trans kept) n s rfl

theorem endReset_pending (s : State) : s.endReset.pending = s.pending := by
  unfold State.endReset
  split <;> rfl

/-- No reset drops what waits, log 40. -/
theorem restart_pending (s : State) (kind : ResetKind) : (s.beginReset kind).endReset.pending = s.pending :=
  endReset_pending (s.beginReset kind)

/-- Two ways that both leave the queue. -/
theorem ite_pending {p : Prop} [Decidable p] {x y : State} (hx : x.pending = s.pending) (hy : y.pending = s.pending) :
    (if p then x else y).pending = s.pending := by
  split
  · exact hx
  · exact hy

/-- The outcome is a next state with the queue as it was. -/
def LeavesQueue (o : Out) (s : State) : Prop := ∃ t, o = .next t ∧ t.pending = s.pending

theorem Answers.leavesQueue {o : Out} (h : Answers o s) : LeavesQueue o s := by
  obtain ⟨t, answer, lands⟩ := h
  exact ⟨t, answer, lands_pending lands⟩

theorem orderRestart_leavesQueue (origin : Station) (p : OrderPayload) (s : State) :
    LeavesQueue (exec (.orderRestart origin p) s) s := by
  obtain ⟨u, lands, stays | ⟨-, resets⟩⟩ := answers_orderRestart s origin p
  · exact ⟨_, stays, lands_pending lands⟩
  · exact ⟨_, resets, (restart_pending u .restart).trans (lands_pending lands)⟩

theorem resetLinePulse_leavesQueue (us : Nat) (s : State) : LeavesQueue (exec (.resetLinePulse us) s) s := by
  have counted : (if 500 ≤ us ∧ us < 2000 then { s with free := s.free + 1 } else s).pending = s.pending :=
    ite_pending rfl rfl
  exact ⟨_, rfl, ite_pending ((restart_pending _ .resetLine).trans counted) counted⟩

theorem exec_leavesQueue (c : Instr) (s : State) : LeavesQueue (exec c s) s := by
  by_cases plain : ordinary c = true
  · exact (answers_ordinary s plain).leavesQueue
  cases c with
  | tachEdge edge n =>
    obtain ⟨t, answer, lands⟩ := answers_tachEdge s edge n
    exact ⟨t, answer, (lands_pending lands).trans (pass_pending n s)⟩
  | orderRestart origin p => exact orderRestart_leavesQueue origin p s
  | settleTimeExpiry straps => exact ⟨_, rfl, settle_pending straps s⟩
  | parameterReadComplete bytes => exact ⟨_, rfl, read_pending bytes s⟩
  | resetLinePulse us => exact resetLinePulse_leavesQueue us s
  | brownOut | clockLoss => exact ⟨_, rfl, ite_pending rfl rfl⟩
  | brownOutEnd | clockReturn => exact ⟨_, rfl, ite_pending rfl (endReset_pending _)⟩
  | _ => exact absurd rfl plain

end Queue

section NoPlace

variable {s : State}

/-- A command whose guard holds leaves the state. -/
theorem guarded_stays {p : Prop} [Decidable p] {x : State} (h : p) : (.next (if p then s else x) : Out) = .next s :=
  congrArg _ (if_pos h)

/-- A command whose condition fails leaves the state. -/
theorem unmet_stays {p : Prop} [Decidable p] {x : State} (h : ¬p) : (.next (if p then x else s) : Out) = .next s :=
  congrArg _ (if_neg h)

/-- The expiry of a timer that does not run, log 3. -/
theorem stopped_stays {timer : Option Nat} {x : State} (stopped : timer = none) :
    (.next (if timer.isNone = true then s else x) : Out) = .next s :=
  guarded_stays (Option.isNone_iff_eq_none.mpr stopped)

theorem settleTimeExpiry_stopped (straps : BitVec 3) (stopped : s.timers.settle = none) :
    exec (.settleTimeExpiry straps) s = .next s :=
  guarded_stays (.inl (Option.isNone_iff_eq_none.mpr stopped))

theorem clampHoldExpiry_inactive (inactive : s.limiter.clamp.active = false) : exec .clampHoldExpiry s = .next s :=
  guarded_stays (by simp [inactive])

/-- LOADING and FAULT_HALT have no place for the events of the converter and of the speed unit. -/
theorem conductionPeriodStart_idle (idle : s.st.blocksRun = false) : exec .conductionPeriodStart s = .next s :=
  guarded_stays (by simp [idle])

theorem conductionOnEnd_idle (idle : s.st.blocksRun = false) : exec .conductionOnEnd s = .next s :=
  unmet_stays (by simp [idle])

theorem standstill_noPlace (h : s.st.blocksRun = false ∨ s.speed.standstill = true) :
    exec .standstill s = .next s :=
  guarded_stays (by simpa using h)

theorem arbitrationLoss_empty (empty : s.link.transmitter = none) : exec .arbitrationLoss s = .next s :=
  guarded_stays (Option.isNone_iff_eq_none.mpr empty)

theorem echoFault_empty (empty : s.link.transmitter = none) : exec .echoFault s = .next s := by
  simp only [exec, execEchoFault, empty]

/-- A start finds the line not idle or a bit under way, R147, log 12. -/
theorem transmitStart_waits (waits : s.link.idle ≠ 10 ∨ s.link.bitMicros ≠ 0) :
    exec (.transmitStart .own) s = .next s := by
  refine unmet_stays fun startable => ?_
  simp only [Link.startable, Bool.and_eq_true, beq_iff_eq] at startable
  omega

end NoPlace

/-- Settles O1: the defining equation of a step on a queue that holds a command. -/
theorem stepRunsFrontCommand : Obligations.StepRunsFrontCommand :=
  fun _ _ _ => rfl

/-- Settles O3: the outcome and the queue command by command, then the guard of each event without a place. -/
theorem everyCommandAnswersNext : Obligations.EveryCommandAnswersNext := by
  unfold Obligations.EveryCommandAnswersNext
  refine ⟨exec_leavesQueue, fun s straps figures bytes =>
    ⟨settleTimeExpiry_stopped straps, stopped_stays, stopped_stays, stopped_stays, stopped_stays, stopped_stays,
      stopped_stays, stopped_stays, stopped_stays, stopped_stays, stopped_stays, stopped_stays, stopped_stays,
      stopped_stays, stopped_stays, stopped_stays, clampHoldExpiry_inactive, guarded_stays, fun idle => ?_,
      fun standing => standstill_noPlace (.inr standing), guarded_stays, fun empty => ?_, transmitStart_waits⟩⟩
  · exact ⟨conductionPeriodStart_idle idle, conductionOnEnd_idle idle, standstill_noPlace (.inl idle)⟩
  · exact ⟨arbitrationLoss_empty empty, echoFault_empty empty, exec_success_empty empty⟩

end Sys2Proof.Machine
end

section
/-!
PROOFS. ORDER SELFTEST and ORDER RESTART (R42, R43, R101, R166), and an ORDER that addresses another station (R41).
-/

namespace Sys2Proof.Machine

section Orders

variable {s u : State} {origin : Station} {p : OrderPayload}

/-- An ORDER for another station ends with its arrival, R41. -/
theorem orderArrives_other (kind : BitVec 4) (act : State → State) (reaches : s.Reaches u origin classOrder)
    (other : u.addressed p.target = false) : s.orderArrives origin kind p act = u :=
  (frameArrives_delivered reaches (p.words kind) _).trans (if_neg (by simp [other]))

/-- Every kind of ORDER arrives alike, R41, R170. -/
theorem exec_commandOfOrder (origin : Station) (kind : BitVec 4) (p : OrderPayload) :
    ∃ k act, ∀ s, exec (commandOfOrder origin kind p) s = .next (s.orderArrives origin k p act) := by
  unfold commandOfOrder
  split <;> exact ⟨_, _, fun _ => rfl⟩

theorem exec_orderSelftest (reaches : s.Reaches u origin classOrder) (addressed : u.addressed p.target = true) :
    exec (.orderSelftest origin p) s = .next (State.orderSelftest p u) :=
  congrArg Host.Outcome.next (orderArrives_addressed 1 _ reaches addressed)

theorem exec_orderRestart (reaches : s.Reaches u origin classOrder) (addressed : u.addressed p.target = true) :
    exec (.orderRestart origin p) s = .next (State.orderRestart p u) :=
  congrArg Host.Outcome.next (orderArrives_addressed 2 _ reaches addressed)

theorem takesRestart_iff (st : StationState) : st.takesRestart = true
    ↔ st = .stopped ∨ st = .tripped ∨ st = .standby ∨ st = .lockout := by
  cases st <;> simp [StationState.takesRestart]

/-- STOPPED left for SELFTEST, the answer given and the test's tag noted, R42. -/
def State.testOrdered (u : State) (p : OrderPayload) : State :=
  (u.answerOrder .taken p).onSeq fun q => { q with selftestTag := p.tag }

theorem testOrdered_leaves (st : u.st = .stopped) : (u.testOrdered p).st ≠ .selftest := by
  show u.st ≠ _
  rw [st]
  decide

/-- No loop trip is made at the entry to SELFTEST where nobody else drives the loop, R119. -/
theorem orderSelftest_taken (st : u.st = .stopped) (others : u.inputs.loopOthers = false) :
    State.orderSelftest p u = (u.testOrdered p).moveTo .selftest := by
  unfold State.orderSelftest
  rw [if_pos st]
  refine loopCheck_quiet ((u.testOrdered p).moveTo .selftest) ?_ ?_
  · rw [moveTo_lines (testOrdered_leaves st)]
    rfl
  · rw [moveTo_inputs]
    exact others

/-- The test as it is set up at the entry to SELFTEST, R92, R101, R102: the counts of windows and the allowance stay. -/
theorem onMove_selftest (v : VibWatch) (w : Settings) (old : StationState) : let t := v.onMove w old .selftest
    (t.count = 0 ∧ t.sumSquares = 0 ∧ t.peak = 0) ∧ t.phase = .high1 ∧ t.patternCount = 0 ∧ t.failMark = false
      ∧ t.amplitude = max (w.tripRms 3) (w.tripPeak 3) + max (w.tripRms 3) (w.tripPeak 3) / 8
      ∧ t.alertCount = v.alertCount ∧ t.tripCount = v.tripCount ∧ t.allowance = v.allowance :=
  ⟨onMove_ends rfl, rfl, rfl, rfl, rfl, rfl, rfl, rfl⟩

end Orders

/-- Settles O42: an ORDER that addresses this station is acted on in the state that it reaches, and another is not. -/
theorem selftestAndRestartOrdered : Obligations.SelftestAndRestartOrdered := by
  unfold Obligations.SelftestAndRestartOrdered
  refine ⟨fun origin p s u reaches addressed => ⟨fun st others => ?_, fun other => ?_⟩,
    fun origin p s u reaches addressed => ⟨fun takes => ?_, fun other => ?_⟩,
    fun origin kind p s u reaches number all => ?_⟩
  · have leaves := testOrdered_leaves (p := p) st
    obtain ⟨⟨count, sum, peak⟩, phase, pattern, mark, amplitude, alert, trip, allowance⟩ :=
      onMove_selftest u.vib u.cfg u.st
    have vib : ((u.testOrdered p).moveTo .selftest).vib = u.vib.onMove u.cfg u.st .selftest := moveTo_vib leaves
    rw [exec_orderSelftest reaches addressed, orderSelftest_taken st others]
    refine ⟨_, rfl, st_moveTo _ _, ?_⟩
    rw [moveTo_seq leaves, vib, moveTo_timers leaves]
    exact ⟨rfl, rfl, count, sum, peak, phase, pattern, mark, amplitude, alert, trip, allowance, rfl⟩
  · rw [exec_orderSelftest reaches addressed, State.orderSelftest, if_neg other, answerOrder_eq]
  · rw [exec_orderRestart reaches addressed, State.orderRestart, if_pos ((takesRestart_iff _).mpr takes)]
  · have refused : ¬u.st.takesRestart = true := by
      rw [takesRestart_iff]
      tauto
    rw [exec_orderRestart reaches addressed, State.orderRestart, if_neg refused, answerOrder_eq]
  · have other : u.addressed p.target = false := by simp [State.addressed, number, all]
    obtain ⟨k, act, arrives⟩ := exec_commandOfOrder origin kind p
    rw [arrives, orderArrives_other k act reaches other]

end Sys2Proof.Machine
end

section
/-!
PROOFS. The local inputs outside LOCKOUT (R38, R39, R109): an edge at a pin with its filter, and the filtered level.
-/

namespace Sys2Proof.Machine

section Edges

variable {s : State}

theorem exec_inputEdge_still {i : LocalInput} {level : Bool} (held : s.pin i = level) :
    exec (.localInputEdge i level) s = .next s :=
  guarded_stays held

/-- A pin that takes a new level, with its filter, R38; before the end of LOADING no filter runs (log 14). -/
theorem exec_inputEdge {i : LocalInput} {level : Bool} (moves : s.pin i ≠ level) :
    exec (.localInputEdge i level) s = .next { s with
      inputs := s.inputs.setPin i level
      timers := s.timers.setFilter i (if s.loader.settings = none then s.filter i
        else if level = s.filtered i then none else some 10000) } := by
  refine congrArg Host.Outcome.next ((if_neg moves).trans ?_)
  by_cases loading : s.loader.settings = none
  · have none : (s.onInputs (Inputs.setPin i level)).loader.settings.isNone = true := by simp [loading]
    rw [if_pos none, if_pos loading]
    cases i <;> rfl
  · have some : ¬(s.onInputs (Inputs.setPin i level)).loader.settings.isNone = true := by simp [loading]
    rw [if_neg some, if_neg loading]
    cases i <;> rfl

end Edges

section Filtered

variable {s : State}

/-- The filtered level of an input takes its pin's, R38. -/
def State.levelTaken (s : State) (i : LocalInput) : State :=
  (s.onTimers (Timers.setFilter i none)).onSeq (Sequencer.setFiltered i (s.pin i))

@[simp] theorem levelTaken_st (s : State) (i : LocalInput) : (s.levelTaken i).st = s.st := by
  cases i <;> rfl

theorem exec_lstopFiltered (runs : s.timers.lstopFilter.isSome = true) : exec (.localInputFiltered .lstop) s
    = .next ((s.levelTaken .lstop).present .localStop s.inputs.lstopPin 0).actOnFiltered :=
  congrArg Host.Outcome.next (if_neg (running_not_isNone runs))

theorem exec_maintFiltered (runs : s.timers.maintFilter.isSome = true) :
    exec (.localInputFiltered .maint) s = .next (s.levelTaken .maint).actOnFiltered :=
  congrArg Host.Outcome.next (if_neg (running_not_isNone runs))

/-- Outside TRIPPED the filtered levels start no lockout timer, and outside LOCKOUT they end none, R39, R40. -/
theorem actOnFiltered_elsewhere (tripped : s.st ≠ .tripped) (lockout : s.st ≠ .lockout) : s.actOnFiltered = s := by
  have judged : s.judgeLockout = s := if_pos tripped
  unfold State.actOnFiltered
  rw [judged]
  exact if_neg fun locked => lockout locked.1

/-- The entry to TRIPPED has judged the filtered levels already, R39. -/
theorem actOnFiltered_entered {u : State} (enters : u.st ≠ .tripped) :
    (u.moveTo .tripped).actOnFiltered = u.moveTo .tripped := by
  have st : (u.moveTo .tripped).st = .tripped := st_moveTo _ _
  have seq : (u.moveTo .tripped).seq = u.seq.onMove u.st .tripped := moveTo_seq enters
  have timer : (u.moveTo .tripped).timers.lockout
      = if u.seq.lstop = true ∧ u.seq.maint = true then some 1000000 else none := by
    rw [moveTo_timers enters]
    simp [Timers.onMove]
  have judged : (u.moveTo .tripped).judgeLockout = u.moveTo .tripped := by
    unfold State.judgeLockout
    rw [if_neg (by simp [st])]
    have levels : ((u.moveTo .tripped).seq.lstop && (u.moveTo .tripped).seq.maint) = (u.seq.lstop && u.seq.maint) := by
      rw [seq]
      rfl
    rw [levels]
    by_cases both : u.seq.lstop = true ∧ u.seq.maint = true
    · rw [if_pos (by simp [both]), if_neg (by simp [timer, both])]
    · rw [if_neg (by simpa using both)]
      rw [if_neg both] at timer
      unfold State.onTimers
      rw [← timer]
  unfold State.actOnFiltered
  rw [judged]
  exact if_neg fun locked => by simp [st] at locked

/-- LOCAL_STOP presented outside TRIPPED and LOCKOUT leaves nothing more for the filtered levels to do, R39. -/
theorem actOnFiltered_present {c : Cause} {cond : Bool} {detail : Int} (tripped : s.st ≠ .tripped)
    (lockout : s.st ≠ .lockout) : (s.present c cond detail).actOnFiltered = s.present c cond detail := by
  rcases present_outcome s c cond detail with same | ⟨u, new, trips, -, enters, moved⟩
  · exact actOnFiltered_elsewhere (by rwa [same.st]) (by rwa [same.st])
  · rw [moved]
    rcases trips with rfl | rfl
    · exact actOnFiltered_elsewhere (by simp) (by simp)
    · exact actOnFiltered_entered enters

end Filtered

/-- Settles O35: by input, and for the filtered levels by what LOCAL_STOP presented leads to. -/
theorem localInputs : Obligations.LocalInputs := by
  unfold Obligations.LocalInputs
  refine ⟨fun level s => ⟨exec_inputEdge (i := .lstop), exec_inputEdge (i := .maint),
    exec_inputEdge_still (i := .lstop), exec_inputEdge_still (i := .maint)⟩,
    fun s tripped lockout => ⟨fun runs => ?_, fun runs => ?_⟩⟩
  · rw [exec_lstopFiltered runs, actOnFiltered_present (by rwa [levelTaken_st]) (by rwa [levelTaken_st])]
    rfl
  · rw [exec_maintFiltered runs, actOnFiltered_elsewhere (by rwa [levelTaken_st]) (by rwa [levelTaken_st])]
    rfl

end Sys2Proof.Machine
end

section
/-!
PROOFS. LOCKOUT (R39, R40, R105, R123): the lockout timer, the entry by it, LOCAL_STOP presented where it makes no trip,
and the exit with what it clears.
-/

namespace Sys2Proof.Machine

section Entry

variable {s : State}

theorem exec_lockoutTimer (runs : s.timers.lockout.isSome = true) : exec .lockoutTimerExpiry s
    = .next (if s.st = .tripped then (s.onTimers fun t => { t with lockout := none }).moveTo .lockout
      else s.onTimers fun t => { t with lockout := none }) :=
  congrArg Host.Outcome.next (if_neg (running_not_isNone runs))

/-- TRIPPED left for LOCKOUT, R20, R39, R93. -/
theorem moveTo_lockout (st : s.st = .tripped) : let t := s.moveTo .lockout
    t.lines = { convEn := false, brkRel := false, loopDrive := false, fault := false } ∧ t.timers.lockout = none
      ∧ t.vib.count = 0 ∧ t.seq = { s.seq with station := .lockout } := by
  have leaves : s.st ≠ .lockout := by
    rw [st]
    decide
  dsimp only
  rw [moveTo_lines leaves, moveTo_timers leaves, moveTo_vib leaves, moveTo_seq leaves, st]
  exact ⟨rfl, rfl, rfl, rfl⟩

/-- The lockout timer runs while both filtered levels are active, R39. -/
theorem actOnFiltered_tripped (st : s.st = .tripped) : s.actOnFiltered = { s with timers := { s.timers with
    lockout := if s.seq.lstop = true ∧ s.seq.maint = true then some (s.timers.lockout.getD 1000000) else none } } := by
  have judged : s.judgeLockout = { s with timers := { s.timers with
      lockout := if s.seq.lstop = true ∧ s.seq.maint = true then some (s.timers.lockout.getD 1000000) else none } } := by
    unfold State.judgeLockout
    rw [if_neg (not_not.mpr st)]
    by_cases both : s.seq.lstop = true ∧ s.seq.maint = true
    · rw [if_pos (by simpa using both)]
      simp only [if_pos both]
      cases timer : s.timers.lockout with
      | none => rfl
      | some n =>
        show s = { s with timers := { s.timers with lockout := some n } }
        rw [← timer]
    · rw [if_neg (by simpa using both)]
      simp only [if_neg both]
      rfl
  unfold State.actOnFiltered
  rw [judged]
  exact if_neg fun locked => by
    have locked : s.st = .lockout := locked.1
    simp [st] at locked

end Entry

section LocalStop

variable {s : State}

/-- The field of a cause after its condition has been presented, R111. -/
def CauseField.presented (f : CauseField) (cond : Bool) : CauseField :=
  if cond = true ∧ f.present = false then { present := true, latched := true, count := min 255 (f.count + 1) }
  else { f with present := cond }

/-- A condition whose rise leaves no more than a change of the records. -/
theorem present_recorded {c : Cause} {detail : Int} {f : RecordStore → RecordStore} (cond : Bool)
    (joined : s.st.joined = true) (rises : s.rise c detail = (s.risen c).onRecords f) :
    s.present c cond detail = { s with
      cause := { s.cause with causes := s.cause.causes.set c ((s.causeField c).presented cond) }
      records := if cond = true ∧ (s.causeField c).present = false then f s.records else s.records } := by
  cases cond with
  | false =>
    rw [present_ceases s detail joined rfl]
    rfl
  | true =>
    cases present : (s.causeField c).present with
    | false =>
      rw [present_rises s detail joined rfl present, rises, risen_record]
      simp [CauseField.presented, present, State.onRecords]
    | true =>
      have same : { s.causeField c with present := true } = s.cause.causes.get c := by
        rw [← present]
        rfl
      rw [present_present s detail rfl present]
      simp only [CauseField.presented, present, Bool.true_eq_false, and_false, if_false, same, CauseSet.set_get]

end LocalStop

section Exit

variable {s : State} {c : Cause}

theorem get_unlatch (t : CauseSet) (c : Cause) :
    t.unlatch.get c = { t.get c with latched := (t.get c).latched && c.resetOnly } := by
  have fold (cs : List Cause) (t : CauseSet) : (cs.foldl (fun t c =>
      if c.resetOnly then t else t.set c { t.get c with latched := false }) t).get c
        = { t.get c with latched := (t.get c).latched && (c.resetOnly || !decide (c ∈ cs)) } := by
    induction cs generalizing t with
    | nil => simp
    | cons d cs ih =>
      rw [List.foldl_cons, ih]
      by_cases same : c = d
      · subst same
        cases only : c.resetOnly <;> simp
      · cases only : d.resetOnly <;> simp [CauseSet.get_set_ne _ _ same, same]
  refine (fold Cause.all t).trans ?_
  simp [mem_causes]

theorem get_readied (t : CauseSet) (c : Cause) :
    t.readied.get c = { t.get c with latched := decide (c ≠ .selftestFail) && (t.get c).latched } := by
  unfold CauseSet.readied
  by_cases same : c = .selftestFail
  · subst same
    simp
  · simp [CauseSet.get_set_ne _ _ same, same]

/-- LOCKOUT is left with both filtered levels inactive, R40. -/
theorem actOnFiltered_lockout (st : s.st = .lockout) :
    s.actOnFiltered = if s.seq.maint = false ∧ s.seq.lstop = false then s.lockoutExit else s := by
  have judged : s.judgeLockout = s := if_pos (by rw [st]; decide)
  unfold State.actOnFiltered
  rw [judged]
  simp only [st, true_and]

/-- The exit to TRIPPED, first row of R40: the latches stay but for that of SELFTEST_FAIL (R105, log 45). -/
theorem lockoutExit_tripped (st : s.st = .lockout) (only : ∃ c, c.resetOnly = true ∧ (s.causeField c).latched = true) :
    let t := s.lockoutExit
    t.st = .tripped ∧ t.lines = { convEn := false, brkRel := false, loopDrive := true, fault := true }
      ∧ t.seq = { s.seq with station := .tripped }
      ∧ (∀ c, (t.causeField c).latched = (decide (c ≠ .selftestFail) && (s.causeField c).latched)
          ∧ (t.causeField c).count = (s.causeField c).count
          ∧ (c ∉ Cause.ofStates → (t.causeField c).present = (s.causeField c).present))
      ∧ t.cause.g = s.cause.g ∧ t.records = s.records ∧ t.link = s.link := by
  have leaves : (s.onCauses CauseSet.readied).st ≠ .tripped := by
    show s.st ≠ _
    rw [st]
    decide
  have readied (c : Cause) : (s.onCauses CauseSet.readied).causeField c
      = { s.causeField c with latched := decide (c ≠ .selftestFail) && (s.causeField c).latched } := get_readied _ c
  unfold State.lockoutExit
  rw [if_pos ((resetOnlyLatched_iff s).mpr only)]
  refine ⟨st_moveTo _ _, (moveTo_lines leaves).trans rfl, ?_, fun c => ?_, moveTo_g _ _, moveTo_records _ _,
    moveTo_link _ _⟩
  · rw [moveTo_seq leaves]
    show s.seq.onMove s.st .tripped = _
    rw [st]
    rfl
  · obtain ⟨latched, count⟩ := moveTo_latched (s.onCauses CauseSet.readied) .tripped c
    rw [readied] at latched count
    refine ⟨latched, count, fun own => ?_⟩
    rw [moveTo_causeField_other _ _ own, readied]

/-- The state that the exit leads to, second and third rows of R40. -/
def State.exitState (s : State) : StationState :=
  if s.someOtherShows StationState.startingOrRunning then .standby else .stopped

/-- The station as it has left LOCKOUT for STANDBY or STOPPED, before the trips that may be made there, R40. -/
def State.lockoutLeft (s : State) : State :=
  (s.onCauses CauseSet.unlatch).moveTo s.exitState

theorem exitState_cases (s : State) : s.exitState = .standby ∨ s.exitState = .stopped := by
  unfold State.exitState
  split <;> simp

theorem lockoutExit_ready (none : ∀ c, c.resetOnly = true → (s.causeField c).latched = false) :
    s.lockoutExit
      = State.inFreeOrder State.exitRise s.lockoutLeft.exitRises.length s.lockoutLeft.exitRises s.lockoutLeft :=
  if_neg (by simp [resetOnlyLatched_false none])

/-- What the exit to STANDBY or STOPPED leaves: no latch, the counts as they were, the causes of the states ended. -/
theorem lockoutLeft_effects (st : s.st = .lockout) (none : ∀ c, c.resetOnly = true → (s.causeField c).latched = false) :
    let w := s.lockoutLeft
    w.st = s.exitState ∧ w.lines.loopDrive = false ∧ w.seq = { s.seq with station := s.exitState }
      ∧ w.speed = s.speed
      ∧ ∀ c, w.causeField c = { s.causeField c with
          latched := false, present := (s.causeField c).present && !decide (c ∈ Cause.ofStates) } := by
  have leaves : (s.onCauses CauseSet.unlatch).st ≠ s.exitState := by
    show s.st ≠ _
    rw [st]
    rcases exitState_cases s with exit | exit <;> rw [exit] <;> decide
  have quiet : s.exitState.cruising = false ∧ s.exitState.endedCauses = Cause.ofStates
      ∧ s.exitState.lines.loopDrive = false ∧ s.exitState ≠ .breakaway
      ∧ ∀ q : Sequencer, q.onMove .lockout s.exitState = { q with station := s.exitState } := by
    rcases exitState_cases s with exit | exit <;> rw [exit] <;>
      exact ⟨rfl, rfl, rfl, by decide, fun _ => rfl⟩
  obtain ⟨cruising, ended, drive, other, seq⟩ := quiet
  dsimp only
  refine ⟨st_moveTo _ _, ?_, ?_, ?_, fun c => ?_⟩
  · exact (congrArg Lines.loopDrive (moveTo_lines leaves)).trans drive
  · refine (moveTo_seq leaves).trans ?_
    show s.seq.onMove s.st _ = _
    rw [st, seq]
  · refine (moveTo_speed leaves).trans ?_
    rw [if_neg other]
    rfl
  · have unlatched : (s.onCauses CauseSet.unlatch).causeField c = { s.causeField c with latched := false } := by
      refine (get_unlatch _ c).trans ?_
      cases only : c.resetOnly with
      | false => rw [Bool.and_false]; rfl
      | true =>
        have latch : (s.cause.causes.get c).latched = false := none c only
        rw [latch]
        rfl
    refine (moveTo_causeField_quiet leaves cruising c).trans ?_
    rw [unlatched, ended]
    simp

end Exit

end Sys2Proof.Machine
end

section
/-!
PROOFS. The trips made at the exit from LOCKOUT (R119, R123; log 26): each of the causes still present, and the loop,
taken once in some order, the first of them making the trip and every later one a subsequent cause (R122).
-/

namespace Sys2Proof.Machine

section Exits

variable (w : State)

theorem none_mem_exitRises : none ∈ w.exitRises ↔ w.loopSensed = true := by
  simp [State.exitRises]

theorem some_mem_exitRises (c : Cause) :
    some c ∈ w.exitRises ↔ w.actionOf c = .trip ∧ (w.causeField c).present = true := by
  simp [State.exitRises, mem_causes]

theorem exitRises_nodup : w.exitRises.Nodup := by
  have causes : (Cause.all.filter fun c => w.actionOf c == .trip && (w.causeField c).present).Nodup :=
    List.Nodup.filter _ (by decide)
  refine List.Nodup.append ?_ (causes.map (Option.some_injective _)) ?_
  · split <;> simp
  · split <;> simp

end Exits

section Trips

/-- A loop trip made in `w`, with its wait, R119. -/
def LoopTripped (w u : State) : Prop :=
  u.cause.g = w.cause.g ∧ u.cause.context = some (w.tripContext none none false .follower)
    ∧ (u.causeField .loop).latched = true ∧ u.timers.loopWait = some (w.cfg.loopWait * 1000)

/-- An origin trip made in `w`, R114. -/
def OriginTripped (w u : State) : Prop :=
  u.cause.g = successor w.cause.g
    ∧ u.cause.context = some (w.tripContext (some (successor w.cause.g)) (some w.loader.station) false .origin)
    ∧ u.timers.loopWait = none

/-- From `w`, where a trip can be made, the exit's rises `done` have led to `u`. -/
structure ExitTrip (w : State) (done : List (Option Cause)) (u : State) : Prop where
  st : u.st = tripTarget w.st w.speed.standstill
  lines : u.lines = u.st.lines
  stopped : u.Stopped
  actions : u.cause.actions = w.cause.actions
  relatched : ∀ c, some c ∈ done → c ≠ .loop → (u.causeField c).latched = true
    ∧ (u.causeField c).count = min 255 ((w.causeField c).count + 1)
  others : ∀ c, some c ∉ done → c ≠ .loop → (u.causeField c).latched = (w.causeField c).latched
    ∧ (u.causeField c).count = (w.causeField c).count
  trip : (none ∈ done ∧ LoopTripped w u) ∨ ((∃ c, some c ∈ done) ∧ OriginTripped w u)

variable {w u : State} {done : List (Option Cause)}

theorem loopTrip_others (s : State) {c : Cause} (other : c ≠ .loop) :
    (s.loopTrip.causeField c).latched = (s.causeField c).latched
      ∧ (s.loopTrip.causeField c).count = (s.causeField c).count := by
  have begun : s.loopBegun.causeField c = s.causeField c := by
    rw [loopBegun_eq]
    exact latchCount_causeField_ne s other
  have moved := tripMove_latched s.loopBegun c
  rwa [begun] at moved

theorem loopTrip_actions (s : State) : s.loopTrip.cause.actions = s.cause.actions := by
  rw [loopTrip_begun, onTimers_cause, tripMove_actions, loopBegun_eq]

/-- The loop taken first, R119. -/
theorem exitTrip_loop (can : w.st.canTrip = true) : ExitTrip w [none] w.loopTrip := by
  obtain ⟨context, g, loop, -⟩ := loopTrip_cause w
  obtain ⟨loopWait, st, lines, stopped⟩ := loopTrip_stops w can
  exact ⟨st, lines, stopped, loopTrip_actions w, by simp, fun c _ other => loopTrip_others w other,
    .inl ⟨by simp, g, context, by rw [loop], loopWait⟩⟩

/-- The latches after a cause is taken, beside those of the causes taken before it. -/
theorem relatch {c : Cause} {before after : State} (fresh : some c ∉ done)
    (taken : (after.causeField c).latched = true ∧ (after.causeField c).count = min 255 ((before.causeField c).count + 1))
    (rest : ∀ d, d ≠ c → (after.causeField d).latched = (before.causeField d).latched
      ∧ (after.causeField d).count = (before.causeField d).count)
    (relatched : ∀ d, some d ∈ done → d ≠ .loop → (before.causeField d).latched = true
      ∧ (before.causeField d).count = min 255 ((w.causeField d).count + 1))
    (others : ∀ d, some d ∉ done → d ≠ .loop → (before.causeField d).latched = (w.causeField d).latched
      ∧ (before.causeField d).count = (w.causeField d).count) :
    (∀ d, some d ∈ some c :: done → d ≠ .loop → (after.causeField d).latched = true
      ∧ (after.causeField d).count = min 255 ((w.causeField d).count + 1))
    ∧ ∀ d, some d ∉ some c :: done → d ≠ .loop → (after.causeField d).latched = (w.causeField d).latched
      ∧ (after.causeField d).count = (w.causeField d).count := by
  constructor
  · intro d taken' notLoop
    by_cases same : d = c
    · subst same
      rw [taken.1, taken.2, (others d fresh notLoop).2]
      exact ⟨rfl, rfl⟩
    · have earlier : some d ∈ done := by simpa [same] using taken'
      rw [(rest d same).1, (rest d same).2]
      exact relatched d earlier notLoop
  · intro d untaken notLoop
    simp only [List.mem_cons, Option.some.injEq, not_or] at untaken
    rw [(rest d untaken.1).1, (rest d untaken.1).2]
    exact others d untaken.2 notLoop

/-- What latching and counting a cause does to the latches, said of a state that keeps them. -/
theorem latchCount_then {s t : State} {c : Cause} (kept : ∀ d, (t.causeField d).latched = ((s.latchCount c).causeField d).latched
      ∧ (t.causeField d).count = ((s.latchCount c).causeField d).count) :
    ((t.causeField c).latched = true ∧ (t.causeField c).count = min 255 ((s.causeField c).count + 1))
    ∧ ∀ d, d ≠ c → (t.causeField d).latched = (s.causeField d).latched
      ∧ (t.causeField d).count = (s.causeField d).count := by
  constructor
  · rw [(kept c).1, (kept c).2, latchCount_causeField]
    exact ⟨rfl, rfl⟩
  · intro d other
    rw [(kept d).1, (kept d).2, latchCount_causeField_ne s other]
    exact ⟨rfl, rfl⟩

/-- A cause taken first, R123. -/
theorem exitTrip_origin {c : Cause} (can : w.st.canTrip = true) (action : w.actionOf c = .trip) :
    ExitTrip w [some c] (w.exitRise (some c)) := by
  have can' : (w.latchCount c).st.canTrip = true := can
  have trips : w.exitRise (some c) = (w.latchCount c).originTrip c (w.detailOf c) := by
    have action : (w.latchCount c).actionOf c = .trip := action
    simp [State.exitRise, State.actOnRise, action, can']
  rw [trips]
  obtain ⟨st, stopped, loopWait, g, context, -⟩ := originTrip_effects (w.latchCount c) c (w.detailOf c) can'
  obtain ⟨-, -, -, lines, -, actions, -⟩ := originTrip_blocks (w.latchCount c) c (w.detailOf c) can'
  obtain ⟨taken, rest⟩ := latchCount_then (s := w) (originTrip_latched (w.latchCount c) c (w.detailOf c))
  obtain ⟨relatched, others⟩ := relatch (w := w) (done := []) (by simp) taken rest (by simp) fun _ _ _ => ⟨rfl, rfl⟩
  exact ⟨st, lines, stopped, actions, relatched, others, .inr ⟨⟨c, by simp⟩, g, context, loopWait⟩⟩

/-- The loop is no more to a tripped station, R118. -/
theorem ExitTrip.loop (h : ExitTrip w done u) : ExitTrip w (none :: done) (u.exitRise none) := by
  have still : u.exitRise none = u := by
    refine if_neg ?_
    rw [h.st, tripTarget]
    split <;> simp [StationState.canTrip]
  rw [still]
  refine ⟨h.st, h.lines, h.stopped, h.actions, fun c taken => h.relatched c (by simpa using taken),
    fun c untaken => h.others c (by simpa using untaken), ?_⟩
  rcases h.trip with ⟨-, loop⟩ | ⟨⟨c, taken⟩, origin⟩
  · exact .inl ⟨by simp, loop⟩
  · exact .inr ⟨⟨c, by simp [taken]⟩, origin⟩

/-- A cause taken after the trip is a subsequent cause, R122. -/
theorem ExitTrip.cause {c : Cause} (h : ExitTrip w done u) (fresh : some c ∉ done) (action : w.actionOf c = .trip) :
    ExitTrip w (some c :: done) (u.exitRise (some c)) := by
  have tripped : u.st.canTrip = false ∧ u.st.isTripped = true ∧ u.st ≠ .clearing := by
    rw [h.st, tripTarget]
    split <;> simp [StationState.canTrip, StationState.isTripped]
  obtain ⟨cannot, isTripped, notClearing⟩ := tripped
  have subsequent : u.exitRise (some c) = (u.latchCount c).subsequentCause c none := by
    have action : (u.latchCount c).actionOf c = .trip := by
      rw [← action]
      exact congrArg (ActionTable.action · c) h.actions
    have cannot : (u.latchCount c).st.canTrip = false := cannot
    have isTripped : (u.latchCount c).st.isTripped = true := isTripped
    simp [State.exitRise, State.actOnRise, action, cannot, isTripped]
  have stays : Stays (u.latchCount c) ((u.latchCount c).subsequentCause c none) :=
    stays_subsequentCause _ c none notClearing
  obtain ⟨taken, rest⟩ := latchCount_then stays.latched
  obtain ⟨relatched, others⟩ := relatch fresh taken rest h.relatched h.others
  rw [subsequent]
  have loopWait : ((u.latchCount c).subsequentCause c none).timers.loopWait = u.timers.loopWait := by
    rw [stays.timers]
    rfl
  refine ⟨stays.st.trans h.st, ?_, stays.stopped h.stopped, ?_, relatched, others, ?_⟩
  · rw [stays.lines, stays.st]
    exact h.lines
  · rw [stays.cause]
    exact h.actions
  · unfold LoopTripped OriginTripped
    rw [stays.g, stays.context, loopWait]
    rcases h.trip with ⟨loopTaken, g, context, loop, wait⟩ | ⟨-, origin⟩
    · refine .inl ⟨by simp [loopTaken], g, context, ?_, wait⟩
      by_cases same : c = .loop
      · exact same ▸ taken.1
      · rw [(rest .loop (Ne.symm same)).1]
        exact loop
    · exact .inr ⟨⟨c, by simp⟩, origin⟩

/-- What the rises taken so far have led to: before the first of them nothing but free choices. -/
def ExitTaken (w : State) : List (Option Cause) → State → Prop
  | [], u => ∃ n, u = { w with free := n }
  | x :: done, u => ExitTrip w (x :: done) u

theorem exitTrip_free {n : Nat} (h : ExitTrip { w with free := n } done u) : ExitTrip w done u :=
  ⟨h.st, h.lines, h.stopped, h.actions, h.relatched, h.others, h.trip⟩

/-- All of them taken, in whatever order, log 26. -/
theorem exitRises_trip (can : w.st.canTrip = true) (rises : w.exitRises ≠ []) :
    ExitTrip w w.exitRises (State.inFreeOrder State.exitRise w.exitRises.length w.exitRises w) := by
  have each : ∀ x ∈ w.exitRises, ∀ done u, x ∉ done → ExitTaken w done u → ExitTaken w (x :: done) (u.exitRise x) := by
    intro x due done u fresh taken
    cases done with
    | nil =>
      obtain ⟨n, rfl⟩ := taken
      cases x with
      | none =>
        have sensed : ({ w with free := n } : State).loopSensed = true := (none_mem_exitRises w).mp due
        have trips : State.exitRise none { w with free := n } = ({ w with free := n } : State).loopTrip :=
          if_pos (Bool.and_eq_true_iff.mpr ⟨can, sensed⟩)
        rw [trips]
        exact exitTrip_free (exitTrip_loop (w := { w with free := n }) can)
      | some c =>
        exact exitTrip_free (exitTrip_origin (w := { w with free := n }) can ((some_mem_exitRises w c).mp due).1)
    | cons y done =>
      cases x with
      | none => exact ExitTrip.loop taken
      | some c => exact ExitTrip.cause taken fresh ((some_mem_exitRises w c).mp due).1
  have free : ∀ done u n, ExitTaken w done u → ExitTaken w done { u with free := n } := by
    intro done u n taken
    cases done with
    | nil =>
      obtain ⟨m, rfl⟩ := taken
      exact ⟨n, rfl⟩
    | cons x done => exact ⟨taken.st, taken.lines, taken.stopped, taken.actions, taken.relatched, taken.others, taken.trip⟩
  obtain ⟨all, perm, result⟩ := inFreeOrder_perm (P := ExitTaken w) w.exitRises []
    (by simpa using exitRises_nodup w) each free ⟨w.free, rfl⟩
  rw [List.append_nil] at perm
  cases all with
  | nil => exact absurd perm.symm.eq_nil rises
  | cons x done =>
    have h : ExitTrip w (x :: done) _ := result
    refine ⟨h.st, h.lines, h.stopped, h.actions, fun c taken => h.relatched c (perm.mem_iff.mpr taken),
      fun c untaken => h.others c (mt perm.mem_iff.mp untaken), ?_⟩
    rcases h.trip with ⟨taken, loop⟩ | ⟨⟨c, taken⟩, origin⟩
    · exact .inl ⟨perm.mem_iff.mp taken, loop⟩
    · exact .inr ⟨⟨c, perm.mem_iff.mp taken⟩, origin⟩

end Trips

end Sys2Proof.Machine
end

section
/-!
PROOFS. LOCAL_INPUT_FILTERED in LOCKOUT (R38 to R40, R123), and the statement of LOCKOUT assembled.
-/

namespace Sys2Proof.Machine

section Off

variable {s : State} {i : LocalInput}

/-- The input's filter has run out with its pin inactive, and the other filtered level is inactive. -/
def State.LastOff (s : State) (i : LocalInput) : Prop :=
  (i = .lstop → s.timers.lstopFilter.isSome = true ∧ s.inputs.lstopPin = false ∧ s.seq.maint = false)
    ∧ (i = .maint → s.timers.maintFilter.isSome = true ∧ s.inputs.maintPin = false ∧ s.seq.lstop = false)

/-- Both filtered levels are inactive and LOCAL_STOP has ceased with LSTOP's, R38, R109. -/
def State.levelsOff (s : State) (i : LocalInput) : State :=
  match i with
  | .lstop => (s.levelTaken .lstop).cease .localStop
  | .maint => s.levelTaken .maint

theorem exec_lastOff (st : s.st = .lockout) (off : s.LastOff i) :
    exec (.localInputFiltered i) s = .next (s.levelsOff i).lockoutExit := by
  obtain ⟨lstop, maint⟩ := off
  cases i with
  | lstop =>
    obtain ⟨runs, pin, other⟩ := lstop rfl
    have locked : (s.levelsOff .lstop).st = .lockout := st
    have joined : (s.levelTaken .lstop).st.joined = true := by rw [levelTaken_st, st]; rfl
    rw [exec_lstopFiltered runs, present_ceases _ 0 joined pin]
    exact congrArg Host.Outcome.next ((actOnFiltered_lockout locked).trans (if_pos ⟨other, pin⟩))
  | maint =>
    obtain ⟨runs, pin, other⟩ := maint rfl
    have locked : (s.levelsOff .maint).st = .lockout := st
    rw [exec_maintFiltered runs]
    exact congrArg Host.Outcome.next ((actOnFiltered_lockout locked).trans (if_pos ⟨pin, other⟩))

/-- What the filtered level taken leaves as it was. -/
theorem levelsOff_blocks (s : State) (i : LocalInput) : let x := s.levelsOff i
    x.st = s.st ∧ x.cause.g = s.cause.g ∧ x.records = s.records ∧ x.link = s.link ∧ x.inputs = s.inputs
      ∧ x.cfg = s.cfg ∧ x.loader = s.loader ∧ x.speed = s.speed ∧ x.exitState = s.exitState
      ∧ x.cause.actions = s.cause.actions := by
  cases i <;> exact ⟨rfl, rfl, rfl, rfl, rfl, rfl, rfl, rfl, rfl, rfl⟩

theorem levelsOff_causeField (s : State) (i : LocalInput) (c : Cause) : (s.levelsOff i).causeField c
    = { s.causeField c with
        present := (s.causeField c).present && !decide (i = .lstop ∧ c = .localStop) } := by
  cases i with
  | lstop =>
    refine (get_foldl_cease s.cause.causes [.localStop] c).trans ?_
    simp [State.causeField]
  | maint =>
    show s.causeField c = _
    simp

theorem levelsOff_seq (off : s.LastOff i) : (s.levelsOff i).seq.lstop = false ∧ (s.levelsOff i).seq.maint = false
    ∧ (i = .lstop → (s.levelsOff i).seq = { s.seq with lstop := false })
    ∧ (i = .maint → (s.levelsOff i).seq = { s.seq with maint := false }) := by
  obtain ⟨lstop, maint⟩ := off
  cases i with
  | lstop =>
    obtain ⟨-, pin, other⟩ := lstop rfl
    have seq : (s.levelsOff .lstop).seq = { s.seq with lstop := s.inputs.lstopPin } := rfl
    rw [seq, pin]
    exact ⟨rfl, other, fun _ => rfl, fun no => nomatch no⟩
  | maint =>
    obtain ⟨-, pin, other⟩ := maint rfl
    have seq : (s.levelsOff .maint).seq = { s.seq with maint := s.inputs.maintPin } := rfl
    rw [seq, pin]
    exact ⟨other, rfl, (fun no => nomatch no), fun _ => rfl⟩

end Off

section Leaves

variable {s : State} {i : LocalInput}

/-- The exit to TRIPPED, R40 and R105. -/
theorem lastOff_tripped (st : s.st = .lockout) (off : s.LastOff i)
    (only : ∃ c, c.resetOnly = true ∧ (s.causeField c).latched = true) :
    ∃ t, exec (.localInputFiltered i) s = .next t
      ∧ t.st = .tripped ∧ t.lines = { convEn := false, brkRel := false, loopDrive := true, fault := true }
      ∧ t.seq.lstop = false ∧ (i = .lstop → (t.causeField .localStop).present = false)
      ∧ (∀ c, (t.causeField c).latched = (decide (c ≠ .selftestFail) && (s.causeField c).latched)
          ∧ (t.causeField c).count = (s.causeField c).count)
      ∧ t.cause.g = s.cause.g ∧ t.records = s.records ∧ t.link = s.link := by
  obtain ⟨st', g', records', link', -⟩ := levelsOff_blocks s i
  have latched : ∃ c, c.resetOnly = true ∧ ((s.levelsOff i).causeField c).latched = true := by
    obtain ⟨c, only, latched⟩ := only
    exact ⟨c, only, by rw [levelsOff_causeField]; exact latched⟩
  obtain ⟨tripped, lines, seq, causes, g, records, link⟩ := lockoutExit_tripped (st'.trans st) latched
  refine ⟨_, exec_lastOff st off, tripped, lines, ?_, fun lstop => ?_, fun c => ?_, g.trans g', records.trans records',
    link.trans link'⟩
  · rw [seq]
    exact (levelsOff_seq off).1
  · obtain ⟨-, -, present⟩ := causes .localStop
    rw [present (by decide), levelsOff_causeField]
    simp [lstop]
  · obtain ⟨latched, count, -⟩ := causes c
    rw [latched, count, levelsOff_causeField]
    exact ⟨rfl, rfl⟩

variable (s i) in
/-- The causes that the exit takes again, R123: TRIP-action causes still present that belong to no state. -/
def State.stillThere (c : Cause) : Prop :=
  s.actionOf c = .trip ∧ (s.causeField c).present = true ∧ (i = .lstop → c ≠ .localStop) ∧ c ∉ Cause.ofStates

section Ready

variable (st : s.st = .lockout) (ready : ∀ c, c.resetOnly = true → (s.causeField c).latched = false)
include st ready

theorem levelsOff_ready : (s.levelsOff i).st = .lockout
    ∧ ∀ c, c.resetOnly = true → ((s.levelsOff i).causeField c).latched = false := by
  refine ⟨(levelsOff_blocks s i).1.trans st, fun c only => ?_⟩
  rw [levelsOff_causeField]
  exact ready c only

/-- The station as it has left LOCKOUT, before a trip, R40. -/
theorem left_effects : let w := (s.levelsOff i).lockoutLeft
    w.st = s.exitState ∧ w.lines.loopDrive = false ∧ w.seq = { (s.levelsOff i).seq with station := s.exitState }
      ∧ (w.speed = s.speed ∧ w.inputs = s.inputs ∧ w.cfg = s.cfg ∧ w.loader = s.loader)
      ∧ (∀ c, (w.causeField c).latched = false ∧ (w.causeField c).count = (s.causeField c).count)
      ∧ (∀ c, (w.causeField c).present = ((s.causeField c).present && !decide (i = .lstop ∧ c = .localStop)
          && !decide (c ∈ Cause.ofStates)))
      ∧ w.cause.actions = s.cause.actions ∧ w.cause.g = s.cause.g ∧ w.records = s.records ∧ w.link = s.link := by
  obtain ⟨st', ready'⟩ := levelsOff_ready (i := i) st ready
  obtain ⟨-, g, records, link, inputs, cfg, loader, speed, exit, actions⟩ := levelsOff_blocks s i
  obtain ⟨left, lines, seq, speed', causes⟩ := lockoutLeft_effects st' ready'
  rw [exit] at left seq
  dsimp only
  refine ⟨left, lines, seq, ⟨speed'.trans speed, (moveTo_inputs _ _).trans inputs, (moveTo_cfg _ _).trans cfg,
    (moveTo_loader _ _).trans loader⟩, fun c => ?_, fun c => ?_, (moveTo_actions _ _).trans actions,
    (moveTo_g _ _).trans g, (moveTo_records _ _).trans records, (moveTo_link _ _).trans link⟩
  · rw [causes, levelsOff_causeField]
    exact ⟨rfl, rfl⟩
  · rw [causes, levelsOff_causeField]

theorem left_sensed : (s.levelsOff i).lockoutLeft.loopSensed = s.inputs.loopOthers := by
  obtain ⟨-, lines, -, ⟨-, inputs, -⟩, -⟩ := left_effects (i := i) st ready
  simp [State.loopSensed, lines, inputs]

theorem some_mem_left (c : Cause) :
    some c ∈ (s.levelsOff i).lockoutLeft.exitRises ↔ s.stillThere i c := by
  obtain ⟨-, -, -, -, -, present, actions, -⟩ := left_effects (i := i) st ready
  have action : (s.levelsOff i).lockoutLeft.actionOf c = s.actionOf c := congrArg (ActionTable.action · c) actions
  rw [some_mem_exitRises, action, present]
  simp only [State.stillThere, Bool.and_eq_true, Bool.not_eq_true', decide_eq_false_iff_not]
  tauto

/-- The exit with nothing left to take, R40. -/
theorem lastOff_calm (off : s.LastOff i) (gone : ∀ c, ¬s.stillThere i c) (others : s.inputs.loopOthers = false) :
    ∃ t, exec (.localInputFiltered i) s = .next t
      ∧ t.st = s.exitState
      ∧ (∀ c, (t.causeField c).latched = false ∧ (t.causeField c).count = (s.causeField c).count)
      ∧ (i = .lstop → (t.causeField .localStop).present = false)
      ∧ t.seq = { (s.levelsOff i).seq with station := t.st }
      ∧ t.cause.g = s.cause.g ∧ t.records = s.records ∧ t.link = s.link := by
  obtain ⟨left, -, seq, -, causes, present, -, g, records, link⟩ := left_effects (i := i) st ready
  obtain ⟨-, ready'⟩ := levelsOff_ready (i := i) st ready
  have empty : (s.levelsOff i).lockoutLeft.exitRises = [] := by
    refine List.eq_nil_iff_forall_not_mem.mpr fun x => ?_
    cases x with
    | none =>
      rw [none_mem_exitRises, left_sensed st ready, others]
      decide
    | some c =>
      rw [some_mem_left st ready]
      exact gone c
  refine ⟨_, (exec_lastOff st off).trans (congrArg Host.Outcome.next (lockoutExit_ready ready')), ?_⟩
  rw [empty]
  refine ⟨left, causes, fun lstop => ?_, ?_, g, records, link⟩
  · exact (present .localStop).trans (by simp [lstop])
  · exact seq.trans (congrArg (fun st => { (s.levelsOff i).seq with station := st }) left.symm)

/-- The exit with something to take: a trip made in the state just entered, R119, R123, log 26. -/
theorem lastOff_trips (off : s.LastOff i) (due : s.inputs.loopOthers = true ∨ ∃ c, s.stillThere i c) :
    ∃ t, exec (.localInputFiltered i) s = .next t
      ∧ ExitTrip (s.levelsOff i).lockoutLeft (s.levelsOff i).lockoutLeft.exitRises t := by
  obtain ⟨left, -⟩ := left_effects (i := i) st ready
  obtain ⟨-, ready'⟩ := levelsOff_ready (i := i) st ready
  have can : (s.levelsOff i).lockoutLeft.st.canTrip = true := by
    rw [left]
    rcases exitState_cases s with exit | exit <;> rw [exit] <;> rfl
  have rises : (s.levelsOff i).lockoutLeft.exitRises ≠ [] := by
    rcases due with loop | ⟨c, still⟩
    · exact List.ne_nil_of_mem ((none_mem_exitRises _).mpr ((left_sensed st ready).trans loop))
    · exact List.ne_nil_of_mem ((some_mem_left st ready c).mpr still)
  exact ⟨_, (exec_lastOff st off).trans (congrArg Host.Outcome.next (lockoutExit_ready ready')),
    exitRises_trip can rises⟩

end Ready

end Leaves

section Stays

variable {s : State}

/-- LSTOP's filtered level taken in LOCKOUT with one of the two still active, R38, R40, R111. -/
theorem lockout_lstop_stays (st : s.st = .lockout) (runs : s.timers.lstopFilter.isSome = true)
    (active : s.inputs.lstopPin = true ∨ s.seq.maint = true) : exec (.localInputFiltered .lstop) s = .next { s with
      timers := { s.timers with lstopFilter := none }
      seq := { s.seq with lstop := s.inputs.lstopPin }
      cause := { s.cause with
        causes := s.cause.causes.set .localStop ((s.causeField .localStop).presented s.inputs.lstopPin) } } := by
  have joined : (s.levelTaken .lstop).st.joined = true := by rw [levelTaken_st, st]; rfl
  have rises : (s.levelTaken .lstop).rise .localStop 0 = ((s.levelTaken .lstop).risen .localStop).onRecords id :=
    rise_lockout _ 0 rfl ((levelTaken_st s .lstop).trans st)
  rw [exec_lstopFiltered runs, present_recorded s.inputs.lstopPin joined rises, actOnFiltered_lockout (by exact st)]
  refine congrArg Host.Outcome.next ((if_neg fun off => ?_).trans ?_)
  · rcases active with pin | other
    · exact absurd (pin.symm.trans off.2) (by decide)
    · exact absurd (other.symm.trans off.1) (by decide)
  · simp only [id, ite_self]
    rfl

/-- MAINT's filtered level taken in LOCKOUT with one of the two still active, R38, R40. -/
theorem lockout_maint_stays (st : s.st = .lockout) (runs : s.timers.maintFilter.isSome = true)
    (active : s.inputs.maintPin = true ∨ s.seq.lstop = true) : exec (.localInputFiltered .maint) s = .next { s with
      timers := { s.timers with maintFilter := none }, seq := { s.seq with maint := s.inputs.maintPin } } := by
  rw [exec_maintFiltered runs, actOnFiltered_lockout ((levelTaken_st s .maint).trans st)]
  refine congrArg Host.Outcome.next (if_neg fun off => ?_)
  rcases active with pin | other
  · exact absurd (pin.symm.trans off.1) (by decide)
  · exact absurd (other.symm.trans off.2) (by decide)

/-- MAINT's filtered level taken in TRIPPED, R39. -/
theorem tripped_maint (st : s.st = .tripped) (runs : s.timers.maintFilter.isSome = true) :
    exec (.localInputFiltered .maint) s = .next { s with
      seq := { s.seq with maint := s.inputs.maintPin }
      timers := { s.timers with
        maintFilter := none
        lockout := if s.seq.lstop = true ∧ s.inputs.maintPin = true then some (s.timers.lockout.getD 1000000)
          else none } } := by
  rw [exec_maintFiltered runs, actOnFiltered_tripped ((levelTaken_st s .maint).trans st)]
  rfl

/-- The records after LOCAL_STOP has been presented in TRIPPED, R122. -/
def State.localStopRecords (s : State) : RecordStore :=
  if s.inputs.lstopPin = true ∧ (s.causeField .localStop).present = false then
    if s.cause.context.isSome then s.records.onCurrent (TripRecord.addSubsequent s.clock.timeMark .localStop none)
    else s.records
  else s.records

/-- LSTOP's filtered level taken in TRIPPED, with LOCAL_STOP, R39, R111, R122. -/
theorem tripped_lstop (st : s.st = .tripped) (runs : s.timers.lstopFilter.isSome = true) :
    exec (.localInputFiltered .lstop) s = .next { s with
      seq := { s.seq with lstop := s.inputs.lstopPin }
      timers := { s.timers with
        lstopFilter := none
        lockout := if s.inputs.lstopPin = true ∧ s.seq.maint = true then some (s.timers.lockout.getD 1000000)
          else none }
      cause := { s.cause with
        causes := s.cause.causes.set .localStop ((s.causeField .localStop).presented s.inputs.lstopPin) }
      records := s.localStopRecords } := by
  have st' : (s.levelTaken .lstop).st = .tripped := (levelTaken_st s .lstop).trans st
  have joined : (s.levelTaken .lstop).st.joined = true := by rw [st']; rfl
  rw [exec_lstopFiltered runs,
    present_recorded s.inputs.lstopPin joined (rise_recorded _ 0 (c := .localStop) rfl (.inr st')),
    actOnFiltered_tripped (by exact st)]
  rfl

end Stays

/-- Settles O36: by the state in which the filtered level is taken, and in LOCKOUT by what the exit finds. -/
theorem lockout : Obligations.Lockout := by
  unfold Obligations.Lockout
  refine ⟨fun s runs => ⟨fun st => ?_, fun other => ?_⟩, fun s st => ⟨tripped_maint st, fun runs => ?_⟩,
    ⟨fun s st runs => ⟨lockout_lstop_stays st runs, fun pin other only => ?_, fun pin other ready gone loop => ?_⟩,
      fun s st runs pin => ?_, fun s st runs pin => ⟨fun other => ?_, fun other only => ?_, fun other ready gone loop => ?_⟩,
      fun i s target still st lstop maint ready at' stands due => ?_⟩⟩
  · obtain ⟨lines, timer, count, seq⟩ := moveTo_lockout (s := s.onTimers fun t => { t with lockout := none }) st
    rw [exec_lockoutTimer runs, if_pos st]
    exact ⟨_, rfl, st_moveTo _ _, lines, timer, count, seq, fun c => (moveTo_latched _ _ c).1, moveTo_g _ _,
      moveTo_context _ _, moveTo_records _ _, moveTo_link _ _⟩
  · rw [exec_lockoutTimer runs, if_neg other]
    rfl
  · refine ⟨_, tripped_lstop st runs, rfl, ?_, fun some pin absent => ?_, fun quiet => ?_, rfl⟩
    · show (s.cause.causes.set .localStop _).get .localStop = _
      rw [CauseSet.get_set_self]
      rfl
    · exact (if_pos ⟨pin, absent⟩).trans (if_pos some)
    · refine if_neg fun rises => ?_
      rcases quiet with pin | present
      · exact absurd (pin.symm.trans rises.1) (by decide)
      · exact absurd (present.symm.trans rises.2) (by decide)
  · have off : s.LastOff .lstop := ⟨fun _ => ⟨runs, pin, other⟩, fun no => nomatch no⟩
    obtain ⟨t, taken, tripped, lines, level, stop, rest⟩ := lastOff_tripped st off only
    exact ⟨t, taken, tripped, lines, level, stop rfl, rest⟩
  · have off : s.LastOff .lstop := ⟨fun _ => ⟨runs, pin, other⟩, fun no => nomatch no⟩
    have calm : ∀ c, ¬s.stillThere .lstop c := by
      rintro c ⟨action, present, apart, -⟩
      exact absurd (gone c (apart rfl) action) (by simp [present])
    obtain ⟨t, taken, left, causes, stop, seq, rest⟩ := lastOff_calm st ready off calm loop
    rw [(levelsOff_seq off).2.2.1 rfl] at seq
    exact ⟨t, taken, left, causes, stop rfl, seq, rest⟩
  · rw [lockout_maint_stays st runs (.inl pin), pin]
  · rw [lockout_maint_stays st runs (.inr other), pin]
  · have off : s.LastOff .maint := ⟨(fun no => nomatch no), fun _ => ⟨runs, pin, other⟩⟩
    obtain ⟨t, taken, tripped, lines, -, -, rest⟩ := lastOff_tripped st off only
    exact ⟨t, taken, tripped, lines, rest⟩
  · have off : s.LastOff .maint := ⟨(fun no => nomatch no), fun _ => ⟨runs, pin, other⟩⟩
    have calm : ∀ c, ¬s.stillThere .maint c := by
      rintro c ⟨action, present, -⟩
      exact absurd (gone c action) (by simp [present])
    obtain ⟨t, taken, left, causes, -, seq, rest⟩ := lastOff_calm st ready off calm loop
    rw [(levelsOff_seq off).2.2.2 rfl] at seq
    exact ⟨t, taken, left, causes, seq, rest⟩
  · have same (c : Cause) : still c ↔ s.stillThere i c := stands c
    have due : s.inputs.loopOthers = true ∨ ∃ c, s.stillThere i c := due.imp id fun ⟨c, h⟩ => ⟨c, (same c).mp h⟩
    obtain ⟨t, taken, trip⟩ := lastOff_trips st ready ⟨lstop, maint⟩ due
    obtain ⟨left, -, -, ⟨speed, -, cfg, loader⟩, causes, -, -, g, -, -⟩ := left_effects (i := i) st ready
    have target : (s.levelsOff i).lockoutLeft.st = target := left.trans at'.symm
    have mem (c : Cause) : some c ∈ (s.levelsOff i).lockoutLeft.exitRises ↔ still c :=
      (some_mem_left st ready c).trans (same c).symm
    refine ⟨t, taken, ?_, trip.lines, trip.stopped, fun c h apart => ?_, fun c h apart => ?_, ?_⟩
    · rw [trip.st, target, speed]
    · obtain ⟨latched, count⟩ := trip.relatched c ((mem c).mpr h) apart
      rw [latched, count, (causes c).2]
      exact ⟨rfl, rfl⟩
    · obtain ⟨latched, count⟩ := trip.others c (mt (mem c).mp h) apart
      rw [latched, count]
      exact causes c
    · have made := trip.trip
      unfold LoopTripped OriginTripped State.tripContext at made
      rw [g, cfg, loader, target] at made
      dsimp only
      rcases made with ⟨loop, loopTrip⟩ | ⟨⟨c, h⟩, number, context, wait⟩
      · refine ⟨.inl loopTrip, fun _ => loopTrip, fun quiet => ?_⟩
        rw [none_mem_exitRises, left_sensed st ready, quiet] at loop
        cases loop
      · have originTrip := And.intro number (And.intro (number.symm ▸ context) wait)
        exact ⟨.inr originTrip, fun none => absurd ((mem c).mp h) (none c), fun _ => originTrip⟩

end Sys2Proof.Machine
end

section
/-!
PROOFS. The demand timer and the start window (R27, R30): DEMAND_LOSS where the station starts or runs, and the start
ended unconfirmed.
-/

namespace Sys2Proof.Machine

section DemandLoss

variable {s u t : State}

/-- What the state changes of R27 leave of the demand and of every record. -/
def State.KeepsDemand (u t : State) : Prop :=
  t.timers.demand = u.timers.demand ∧ t.seq.lastOutcome = u.seq.lastOutcome
    ∧ t.causeField .demandLoss = u.causeField .demandLoss
    ∧ t.cause.g = u.cause.g ∧ t.records = u.records ∧ t.link = u.link

theorem keepsDemand_refl (u : State) : u.KeepsDemand u := ⟨rfl, rfl, rfl, rfl, rfl, rfl⟩

theorem keepsDemand_moveTo (new : StationState) (h : u.KeepsDemand t) : u.KeepsDemand (t.moveTo new) := by
  obtain ⟨demand, outcome, field, g, records, link⟩ := h
  have timer : (t.moveTo new).timers.demand = t.timers.demand :=
    moveTo_cases (P := fun t' => t'.timers.demand = _) t new (fun _ => rfl) fun _ => rfl
  have answer : (t.moveTo new).seq.lastOutcome = t.seq.lastOutcome :=
    moveTo_cases (P := fun t' => t'.seq.lastOutcome = _) t new (fun _ => rfl) fun _ => rfl
  exact ⟨timer.trans demand, answer.trans outcome, (moveTo_causeField_other t new (by decide)).trans field,
    (moveTo_g t new).trans g, (moveTo_records t new).trans records, (moveTo_link t new).trans link⟩

/-- STARTING is left for STOPPED; no loop trip where nobody else drives the loop, R27, R119. -/
theorem loseDemand_starting (st : u.st = .starting) (others : u.inputs.loopOthers = false) :
    u.loseDemand = u.moveTo .stopped := by
  unfold State.loseDemand
  rw [st]
  exact enterStopped_quiet (by rw [st]; decide) others

theorem loseDemand_decel (st : u.st = .decel) : u.loseDemand = u := by
  unfold State.loseDemand
  rw [st]

/-- DECEL is entered, and at standstill left for STOPPED at the same event, R33; no loop trip where nobody else drives
the loop, R119. -/
theorem enterDecel_quiet (others : u.inputs.loopOthers = false) : u.enterDecel
    = if u.speed.standstill then (u.moveTo .decel).moveTo .stopped else u.moveTo .decel := by
  show (if (u.moveTo .decel).speed.standstill then (u.moveTo .decel).enterStopped else u.moveTo .decel) = _
  rw [moveTo_standstill, enterStopped_quiet (by rw [st_moveTo]; decide) (by rw [moveTo_inputs, others])]

/-- BREAKAWAY, RUN and CREEP are left for DECEL, and at standstill on to STOPPED, R27, R33. -/
theorem loseDemand_driving (runs : u.st.startingOrRunning = true) (starting : u.st ≠ .starting) (decel : u.st ≠ .decel)
    (others : u.inputs.loopOthers = false) : u.loseDemand
      = if u.speed.standstill then (u.moveTo .decel).moveTo .stopped else u.moveTo .decel := by
  have driving : u.st = .breakaway ∨ u.st = .run ∨ u.st = .creep := by
    cases st : u.st <;> simp_all [StationState.startingOrRunning]
  have enters : u.loseDemand = u.enterDecel := by
    unfold State.loseDemand
    rcases driving with st | st | st <;> rw [st]
  rw [enters, enterDecel_quiet others]

theorem loseDemand_keeps (runs : u.st.startingOrRunning = true) (others : u.inputs.loopOthers = false) :
    u.KeepsDemand u.loseDemand := by
  by_cases starting : u.st = .starting
  · rw [loseDemand_starting starting others]
    exact keepsDemand_moveTo _ (keepsDemand_refl u)
  by_cases decel : u.st = .decel
  · rw [loseDemand_decel decel]
    exact keepsDemand_refl u
  have slows : u.KeepsDemand (u.moveTo .decel) := keepsDemand_moveTo _ (keepsDemand_refl u)
  rw [loseDemand_driving runs starting decel others]
  split
  · exact keepsDemand_moveTo _ slows
  · exact slows

theorem loseDemand_st (runs : u.st.startingOrRunning = true) (others : u.inputs.loopOthers = false) : u.loseDemand.st
    = if u.st = .starting then .stopped else if u.st = .decel then .decel
      else if u.speed.standstill then .stopped else .decel := by
  by_cases starting : u.st = .starting
  · rw [loseDemand_starting starting others, if_pos starting, st_moveTo]
  by_cases decel : u.st = .decel
  · rw [loseDemand_decel decel, if_neg starting, if_pos decel, decel]
  rw [loseDemand_driving runs starting decel others, if_neg starting, if_neg decel, apply_ite State.st,
    st_moveTo, st_moveTo]

/-- The demand timer's expiry where the station starts or runs is DEMAND_LOSS, an alert, R27, R111. -/
theorem exec_demandTimer (runs : s.timers.demand.isSome = true) (active : s.st.startingOrRunning = true)
    (absent : (s.causeField .demandLoss).present = false) : exec .demandTimerExpiry s
      = .next ((s.onTimers fun t => { t with demand := none }).risen .demandLoss).loseDemand := by
  have joined : s.st.joined = true := by
    cases st : s.st <;> simp_all [StationState.startingOrRunning, StationState.joined]
  refine congrArg Host.Outcome.next ((if_neg (running_not_isNone runs)).trans ((if_pos active).trans ?_))
  rw [present_rises _ 0 (by exact joined) rfl (by exact absent), rise_alert _ 0 rfl]

/-- STARTING left for STOPPED ends the start window and empties the confirmation set, R28, R115. -/
theorem moveTo_startEnds (st : u.st = .starting) : (u.moveTo .stopped).seq = { u.seq with
      station := .stopped, confirmation := [] }
    ∧ (u.moveTo .stopped).timers.startWindow = none ∧ (u.moveTo .stopped).vib.allowance = u.cfg.ratedCeiling := by
  have leaves : u.st ≠ .stopped := by rw [st]; decide
  rw [moveTo_seq leaves, moveTo_timers leaves, moveTo_vib leaves]
  simp [Sequencer.onMove, Timers.onMove, VibWatch.onMove, st]

/-- The start window's expiry in STARTING, R30. -/
theorem exec_startWindow (runs : s.timers.startWindow.isSome = true) (st : s.st = .starting)
    (others : s.inputs.loopOthers = false) : exec .startWindowExpiry s
      = .next (((s.onTimers fun t => { t with startWindow := none }).writeMarked .startNotConfirmed).moveTo .stopped) := by
  refine congrArg Host.Outcome.next ((if_neg (running_not_isNone runs)).trans ((if_pos st).trans ?_))
  refine enterStopped_quiet ?_ others
  show s.st ≠ .stopped
  rw [st]
  decide

end DemandLoss

/-- Settles O32: DEMAND_LOSS is an alert, so the expiry is one rise and the state change of R27's table; the start
window's expiry is one move to STOPPED. -/
theorem demandAndStartTimers : Obligations.DemandAndStartTimers := by
  unfold Obligations.DemandAndStartTimers
  refine ⟨⟨fun s runs idle => ?_, fun s runs active others absent => ?_⟩, fun s runs other => ?_,
    fun s mark runs st marked others => ?_⟩
  · exact congrArg Host.Outcome.next
      ((if_neg (running_not_isNone runs)).trans (if_neg fun active => nomatch active.symm.trans idle))
  · have expires := exec_demandTimer runs active absent
    have fields := risen_causeField (s := s.onTimers fun t => { t with demand := none }) .demandLoss
    generalize same : (s.onTimers fun t => { t with demand := none }).risen .demandLoss = u at expires fields
    have st : u.st = s.st := by rw [← same]; rfl
    have still : u.speed = s.speed := by rw [← same]; rfl
    have quiet : u.inputs.loopOthers = false := by rw [← same]; exact others
    have active' : u.st.startingOrRunning = true := by rw [st]; exact active
    obtain ⟨demand, outcome, field, g, records, link⟩ := loseDemand_keeps active' quiet
    refine ⟨_, expires, demand.trans (by rw [← same]; rfl), outcome.trans (by rw [← same]; rfl), field.trans fields, ?_,
      fun starting => ?_, g.trans (by rw [← same]; rfl), records.trans (by rw [← same]; rfl),
      link.trans (by rw [← same]; rfl), fun decel => ?_⟩
    · rw [loseDemand_st active' quiet, st, still]
    · rw [loseDemand_starting (st.trans starting) quiet]
      obtain ⟨seq, window, -⟩ := moveTo_startEnds (st.trans starting)
      exact ⟨by rw [seq], window⟩
    · rw [loseDemand_decel (st.trans decel), ← same]
      rfl
  · exact congrArg Host.Outcome.next ((if_neg (running_not_isNone runs)).trans (if_neg other))
  · obtain ⟨seq, window, vib⟩ := moveTo_startEnds
      (u := (s.onTimers fun t => { t with startWindow := none }).writeMarked .startNotConfirmed) st
    refine ⟨_, exec_startWindow runs st others, seq.trans ?_, window, vib, moveTo_g _ _, moveTo_records _ _,
      moveTo_link _ _⟩
    simp [State.writeMarked, State.writeOutcome, State.onSeq, State.onTimers, marked]

end Sys2Proof.Machine

end

section
/-!
PROOFS. STANDSTILL (R48, R33, R50, R70, R115): a change of speed within the limit, and what the flag leads to.
-/

namespace Sys2Proof.Machine

section WithinLimit

variable (s : State)

/-- A reselected band alters the limiter, the jam timer and the causes alone, R70. -/
theorem reselectBand_eq : s.reselectBand = { s with
    cause := { s.cause with causes := s.reselectBand.cause.causes }
    timers := { s.timers with jam := s.reselectBand.timers.jam }
    limiter := { s.limiter with
      band := s.reselectBand.limiter.band, bandValue := s.reselectBand.limiter.bandValue
      allowance := s.reselectBand.limiter.allowance, limiting := s.reselectBand.limiter.limiting } } := by
  unfold State.reselectBand
  split <;> rfl

theorem judgeJam_eq : s.judgeJam = { s with
    cause := { s.cause with causes := s.judgeJam.cause.causes }
    timers := { s.timers with jam := s.judgeJam.timers.jam } } := rfl

/-- A change of speed within the limit, R50, R70, R80. -/
theorem speedChanged_within (within : s.speed.speed ≤ s.cfg.overspeedLimit) : s.speedChanged = { s with
    cause := { s.cause with causes := s.speedChanged.cause.causes }
    timers := { s.timers with jam := s.speedChanged.timers.jam }
    limiter := { s.limiter with
      band := s.speedChanged.limiter.band, bandValue := s.speedChanged.limiter.bandValue
      allowance := s.speedChanged.limiter.allowance, limiting := s.speedChanged.limiter.limiting } } := by
  have judged : s.present .overspeed (decide (s.cfg.overspeedLimit < s.speed.speed)) 0
      = { s with cause := { s.cause with causes :=
          (s.present .overspeed (decide (s.cfg.overspeedLimit < s.speed.speed)) 0).cause.causes } } := by
    cases joined : s.st.joined with
    | false => rw [present_unjoined s _ _ 0 joined]
    | true =>
      rw [present_ceases s 0 joined (by simpa using within)]
      rfl
  unfold State.speedChanged
  rw [judgeJam_eq, reselectBand_eq, judged]

/-- What a change of speed leaves, with OVERSPEED and the band as the speed gives them, R50, R70. -/
theorem speedChanged_carries : Carries [] s.overspeedJudged s.speedChanged :=
  (carries_reselectBand _ _).trans (carries_judgeJam _ _)

theorem speedChanged_speed : s.speedChanged.speed = s.speed :=
  (speedChanged_carries s).speed.trans (carries_present s _ _ _).speed

theorem speedChanged_band : s.speedChanged.limiter.band = s.cfg.bandOf s.speed.speed := by
  have judged := carries_present s .overspeed (decide (s.cfg.overspeedLimit < s.speed.speed)) 0
  rw [(speedChanged_carries s).band]
  show Settings.bandOf (State.cfg (s.present _ _ _)) (State.speed (s.present _ _ _)).speed = _
  rw [judged.cfg, judged.speed]

theorem speedChanged_overspeed (joined : s.st.joined = true) :
    (s.speedChanged.causeField .overspeed).present = decide (s.cfg.overspeedLimit < s.speed.speed) := by
  rw [(speedChanged_carries s).field .overspeed (by decide) (by decide)]
  exact present_field s _ 0 joined (by decide)

end WithinLimit

section Standstill

variable (s : State)

theorem carries_loopTrip : Carries [.loop] s s.loopTrip := by
  have readings : s.loopBegun.readings = s.readings := by
    rw [loopBegun_eq]
    rfl
  have begun : Carries [.loop] s s.loopBegun := by
    have same (c) (hc : c ∉ [Cause.loop]) : s.loopBegun.causeField c = s.causeField c := by
      rw [loopBegun_eq]
      exact latchCount_causeField_ne s (by simpa using hc)
    exact ⟨readings, fun c hc => by rw [same c hc]; exact ⟨rfl, rfl⟩, fun c hc _ => same c hc⟩
  have moved : Carries [.loop] s s.loopBegun.tripMove := by
    refine tripMove_keeps (P := Carries [.loop] s) _ (fun h => h.trans (.of_readings rfl rfl))
      (fun u new trips h => h.trans (carries_moveTo u ?_)) begun
    rcases trips with rfl | rfl <;> decide
  rw [loopTrip_begun]
  exact moved.trans (.of_readings rfl rfl)

theorem carries_enterStopped : Carries [.loop] s s.enterStopped := by
  have stopped : Carries [.loop] s (s.moveTo .stopped) := carries_moveTo s (by decide)
  unfold State.enterStopped State.loopCheck
  split
  · exact stopped.trans (carries_loopTrip _)
  · exact stopped

theorem carries_standstillReached : Carries [.loop] s s.standstillReached := by
  unfold State.standstillReached
  split
  · exact carries_enterStopped s
  · exact carries_moveTo s (by decide)
  · exact .refl _ s

theorem standstillReached_elsewhere (decel : s.st ≠ .decel) (trip : s.st ≠ .tripDecel) : s.standstillReached = s := by
  unfold State.standstillReached
  split <;> simp_all

/-- The speed unit at the standstill flag, R48. -/
def State.stoodStill (s : State) : State :=
  s.onSpeed fun u =>
    { u with capture := min 16777215 (max u.capture (s.cfg.standstillTime * 1000)), standstill := true, speed := 0 }

variable {s}

theorem exec_standstill (runs : s.st.blocksRun = true) (turning : s.speed.standstill = false) :
    exec .standstill s = .next s.stoodStill.speedChanged.standstillReached :=
  congrArg Host.Outcome.next (if_neg (by simp [runs, turning]))

end Standstill

/-- Settles O16: a change of speed to 0, within every limit, and then the state change of the flag. -/
theorem standstillReached : Obligations.StandstillReached := by
  unfold Obligations.StandstillReached
  refine ⟨fun s idle => standstill_noPlace idle, fun s runs turning => ⟨_, exec_standstill runs turning, ?_⟩⟩
  have slows := speedChanged_within s.stoodStill (Nat.zero_le _)
  have speed := speedChanged_speed s.stoodStill
  have band := speedChanged_band s.stoodStill
  have overspeed := speedChanged_overspeed s.stoodStill
  have st : s.stoodStill.speedChanged.st = s.st := by rw [slows]; rfl
  have inputs : s.stoodStill.speedChanged.inputs = s.inputs := by rw [slows]; rfl
  have reached := carries_standstillReached s.stoodStill.speedChanged
  refine ⟨reached.speed.trans speed, fun joined => ?_, reached.band.trans band, fun decel quiet => ?_, fun trips => ?_,
    fun decel trip => ?_⟩
  · rw [reached.field .overspeed (by decide) (by decide), overspeed joined]
    exact decide_eq_false (Nat.not_lt_zero _)
  · have leaves : s.stoodStill.speedChanged.st ≠ .stopped := by rw [st, decel]; decide
    have stops : s.stoodStill.speedChanged.standstillReached = s.stoodStill.speedChanged.moveTo .stopped := by
      unfold State.standstillReached
      rw [st, decel]
      exact enterStopped_quiet leaves (by rw [inputs, quiet])
    rw [stops]
    exact ⟨st_moveTo _ _, moveTo_lines leaves⟩
  · have leaves : s.stoodStill.speedChanged.st ≠ .tripped := by rw [st, trips]; decide
    have moves : s.stoodStill.speedChanged.standstillReached = s.stoodStill.speedChanged.moveTo .tripped := by
      unfold State.standstillReached
      rw [st, trips]
    rw [moves]
    exact ⟨st_moveTo _ _, moveTo_lines leaves⟩
  · rw [standstillReached_elsewhere _ (by rw [st]; exact decel) (by rw [st]; exact trip), speed]
    exact slows

end Sys2Proof.Machine

end

section
/-!
PROOFS. The end of breakaway by local rotation (R32, R47, R59, R76): the accepted edge, and the mode entered.
-/

namespace Sys2Proof.Machine

section ModeEntered

variable {s : State} (st : s.st = .breakaway)
include st

/-- The regulator carried over the end of breakaway, R59. -/
theorem modeEntered_reg : let t := s.modeEntered
    t.reg.setpoint = s.speed.speed * 1000 ∧ t.reg.integral = min s.reg.reference t.limiter.allowance
      ∧ t.reg.demand = t.reg.integral ∧ t.reg.prevAllowance = t.limiter.allowance
      ∧ t.reg.reference = s.reg.reference := by
  have carried : s.reg.onMove s.st (s.modeFor s.seq.intended).state s.speed.speed s.modeEntered.limiter.allowance
      = s.reg.fromBreakaway s.speed.speed s.modeEntered.limiter.allowance := by
    unfold Regulator.onMove
    rw [st]
    cases s.modeFor s.seq.intended <;> rfl
  have reg : s.modeEntered.reg = { s.reg.fromBreakaway s.speed.speed s.modeEntered.limiter.allowance with
      trim := s.modeEntered.reg.trim } := by
    rw [← carried]
    exact moveTo_reg (modeEntered_leaves st)
  dsimp only
  rw [reg]
  exact ⟨rfl, rfl, rfl, rfl, rfl⟩

theorem modeEntered_stageTimer : s.modeEntered.timers.stage = none :=
  (congrArg Timers.stage (moveTo_timers (modeEntered_leaves st))).trans (if_neg (mode_ne_breakaway _))

/-- The intended mode follows the mode entered, R24, R32. -/
theorem modeEntered_intended : s.modeEntered.seq.intended
    = if s.seq.intended = .run ∧ s.cfg.minRun ≤ s.count then .run else .creep := by
  have intended : s.modeEntered.seq.intended = s.modeFor s.seq.intended := by
    refine (congrArg Sequencer.intended (moveTo_seq (modeEntered_leaves st))).trans ?_
    unfold Sequencer.onMove
    cases s.modeFor s.seq.intended <;> rfl
  rw [intended]
  unfold State.modeFor
  by_cases few : s.count < s.cfg.minRun
  · cases s.seq.intended <;> simp [few, Nat.not_le.mpr few]
  · cases s.seq.intended <;> simp [few, Nat.not_lt.mp few]

/-- The list stands over the end of breakaway, R16, R17. -/
theorem modeEntered_participants (list : s.ParticipantsOk) :
    s.modeEntered.peers.participants = s.peers.participants :=
  Regroups.participants ⟨modeEntered_leaves st, by rw [st]; rfl, mode_participating _, list⟩

end ModeEntered

section EdgeWithin

variable {u : State}

/-- What a change of speed within the limit leaves as it stands. -/
theorem speedChanged_blocks (within : u.speed.speed ≤ u.cfg.overspeedLimit) : let w := u.speedChanged
    w.st = u.st ∧ w.seq = u.seq ∧ w.peers = u.peers ∧ w.reg = u.reg ∧ w.cfg = u.cfg ∧ w.loader = u.loader := by
  dsimp only
  rw [speedChanged_within u within]
  exact ⟨rfl, rfl, rfl, rfl, rfl, rfl⟩

theorem speedChanged_participantsOk (within : u.speed.speed ≤ u.cfg.overspeedLimit) (list : u.ParticipantsOk) :
    u.speedChanged.ParticipantsOk := by
  obtain ⟨st, seq, peers, reg, cfg, loader⟩ := speedChanged_blocks within
  have entry (n : Station) : u.speedChanged.entry n = u.entry n := by
    unfold State.entry
    rw [peers]
  have ready : u.speedChanged.ready = u.ready := by
    have judged := carries_present u .overspeed (decide (u.cfg.overspeedLimit < u.speed.speed)) 0
    have latched := ((speedChanged_carries u).latched .selftestFail (by decide)).1.trans
      (judged.latched .selftestFail (by decide)).1
    exact congrArg (! ·) latched
  exact participants_congr st (by rw [loader]) ready (fun n _ => by rw [entry]) (by rw [peers]) list

/-- An accepted edge within the limit that completes the rotation, R32, R47, R76. -/
theorem tachEdge_turns {edge : Edge} (st : u.st = .breakaway) (kind : u.cfg.edgeQualifies edge = true)
    (apart : 50 ≤ u.speed.capture) (turned : u.cfg.rotationEdges ≤ u.edgeAccepted.speed.stageEdges)
    (within : u.edgeAccepted.speed.speed ≤ u.cfg.overspeedLimit) (list : u.ParticipantsOk)
    (enough : u.cfg.minCreep ≤ u.count) : u.tachEdge edge = u.edgeAccepted.speedChanged.modeEntered := by
  obtain ⟨st', -, peers, -, cfg, -⟩ := speedChanged_blocks (u := u.edgeAccepted) within
  rw [tachEdge_accepted u edge (by rw [st]; rfl) kind apart]
  refine (if_pos ⟨st'.trans st, ?_⟩).trans (leaveBreakaway_enough (st'.trans st) ?_ ?_)
  · exact speedChanged_participantsOk (u := u.edgeAccepted) within list
  · rw [cfg, State.count, peers]
    exact enough
  · rw [cfg, speedChanged_speed]
    exact turned

end EdgeWithin

/-- Settles O15: the edge's speed is within the limit, and the mode is entered with enough participants. -/
theorem rotationEndsBreakaway : Obligations.RotationEndsBreakaway := by
  unfold Obligations.RotationEndsBreakaway
  intro edge elapsed v s u passed st kind apart turned speed within list enough
  have accepted : u.edgeAccepted.speed.speed = v := speed.symm
  have within : u.edgeAccepted.speed.speed ≤ u.edgeAccepted.cfg.overspeedLimit := by rw [accepted]; exact within
  obtain ⟨st', seq, peers, reg, cfg, -⟩ := speedChanged_blocks within
  have st' : u.edgeAccepted.speedChanged.st = .breakaway := st'.trans st
  have list' := speedChanged_participantsOk (u := u.edgeAccepted) within list
  obtain ⟨setpoint, integral, demand, prev, reference⟩ := modeEntered_reg st'
  have count : u.edgeAccepted.speedChanged.count = u.count := by
    unfold State.count
    rw [peers]
    rfl
  have minRun : u.edgeAccepted.speedChanged.cfg.minRun = u.cfg.minRun := by rw [cfg]; rfl
  have intended : u.edgeAccepted.speedChanged.seq.intended = u.seq.intended := by rw [seq]; rfl
  have runs : exec (.tachEdge edge elapsed) s = .next u.edgeAccepted.speedChanged.modeEntered := by
    rw [← tachEdge_turns st kind apart turned within list enough, passed]
    rfl
  refine ⟨_, runs, ?_, ?_, modeEntered_stage st', modeEntered_stageTimer st', ?_, ?_, demand, prev, ?_,
    (modeEntered_participants st' list').trans (by rw [peers]; rfl)⟩
  · rw [modeEntered_st, modeFor_state, intended, minRun, count]
  · rw [modeEntered_intended st', intended, minRun, count]
  · rw [setpoint, speedChanged_speed, accepted]
  · rw [integral, reg]
    rfl
  · rw [reference, reg]
    rfl

end Sys2Proof.Machine

end

section
/-!
PROOFS. PATTERN_SAMPLE (R42, R102, R103, R105): a sample of the pattern, a completed test window, and the verdict.
-/

namespace Sys2Proof.Machine

section Pattern

variable {s : State} {figures : Option Figures} {f : Figures}

/-- One pattern sample in the accumulators, before a full window is completed, R102. -/
def State.patternTaken (s : State) : State :=
  (s.onVib fun v => { (v.take v.patternValue) with patternCount := v.patternCount + 1 }).onTimers
    fun t => { t with pattern := some 100 }

theorem natAbs_patternValue {v : VibWatch} (tests : v.phase ≠ .none) :
    v.patternValue.natAbs = if v.phase = .zero then 0 else v.amplitude := by
  unfold VibWatch.patternValue
  cases phase : v.phase with
  | none => exact absurd phase tests
  | zero => rfl
  | high1 => dsimp only; split <;> simp
  | high2 => dsimp only; split <;> simp

theorem patternTaken_eq (tests : s.vib.phase ≠ .none) {x : Nat}
    (sample : x = if s.vib.phase = .zero then 0 else s.vib.amplitude) :
    s.patternTaken = { s with
      vib := { s.vib with count := s.vib.count + 1, sumSquares := s.vib.sumSquares + x ^ 2,
                          peak := max s.vib.peak x, patternCount := s.vib.patternCount + 1 }
      timers := { s.timers with pattern := some 100 } } := by
  have size : s.vib.patternValue.natAbs = x := (natAbs_patternValue tests).trans sample.symm
  have taken : s.vib.take s.vib.patternValue = { s.vib with
      count := s.vib.count + 1, sumSquares := s.vib.sumSquares + x ^ 2, peak := max s.vib.peak x } := by
    unfold VibWatch.take
    rw [size, Nat.pow_two]
  exact congrArg (fun v : VibWatch => { s with
    vib := { v with patternCount := s.vib.patternCount + 1 }, timers := { s.timers with pattern := some 100 } }) taken

theorem exec_pattern_open (st : s.st = .selftest) (tests : s.vib.phase ≠ .none) (room : s.vib.patternCount < 255) :
    exec (.patternSample figures) s = .next s.patternTaken := by
  have guard : ¬(s.st ≠ .selftest ∨ s.vib.phase = .none) := by simp [st, tests]
  have short : ¬256 ≤ s.patternTaken.vib.patternCount := by
    show ¬256 ≤ s.vib.patternCount + 1
    omega
  exact congrArg Host.Outcome.next ((if_neg guard).trans (if_neg short))

theorem exec_pattern_full (st : s.st = .selftest) (tests : s.vib.phase ≠ .none) (full : s.vib.patternCount = 255) :
    exec (.patternSample figures) s
      = .next (s.patternTaken.completeTestWindow (figures.getD s.patternTaken.vib.figures)) := by
  have guard : ¬(s.st ≠ .selftest ∨ s.vib.phase = .none) := by simp [st, tests]
  have complete : 256 ≤ s.patternTaken.vib.patternCount := by
    show 256 ≤ s.vib.patternCount + 1
    omega
  exact congrArg Host.Outcome.next ((if_neg guard).trans (if_pos complete))

/-- A completed window of a HIGH phase, R102, R103. -/
theorem completeTestWindow_high (tests : s.vib.phase ≠ .none) (high : s.vib.phase ≠ .zero) :
    s.completeTestWindow f = { s with vib := { s.vib with
      count := 0, sumSquares := 0, peak := 0, patternCount := 0
      phase := if s.vib.phase = .high1 then .high2 else .zero
      failMark := s.vib.failMark || !(decide (s.cfg.tripRms 3 ≤ f.rms) && decide (s.cfg.tripPeak 3 ≤ f.peak)) } } := by
  refine (if_neg high).trans ?_
  unfold State.onVib VibWatch.emptied
  cases phase : s.vib.phase with
  | none => exact absurd phase tests
  | zero => exact absurd phase high
  | high1 => rfl
  | high2 => rfl

/-- The end of the ZERO window, before the verdict is reported, R102, R103. -/
def State.testEnded (s : State) (failed : Bool) : State :=
  s.onVib fun v => { v.emptied with failMark := failed, patternCount := 0, phase := .none }

/-- Whether the test is passed with the figures of its ZERO window, R102. -/
def State.testPassed (s : State) (f : Figures) : Bool :=
  !(s.vib.failMark || !(f.rms == 0 && f.peak == 0))

theorem testPassed_iff : s.testPassed f = true ↔ s.vib.failMark = false ∧ f.rms = 0 ∧ f.peak = 0 := by
  simp [State.testPassed]

theorem completeTestWindow_zero (zero : s.vib.phase = .zero) :
    s.completeTestWindow f = (s.testEnded (!s.testPassed f)).selftestReport (s.testPassed f) := by
  have failed : (s.vib.failMark || !(f.rms == 0 && f.peak == 0)) = !s.testPassed f := (Bool.not_not _).symm
  unfold State.completeTestWindow
  simp only [zero, criterionMet, failed, Bool.not_not, if_true]
  rfl

theorem isqrt_square {n : Nat} (small : n < 2 ^ 17) : isqrt (n ^ 2) = n := by
  have bound : n ^ 2 < 2 ^ 34 := Nat.pow_lt_pow_left small (by decide)
  obtain ⟨low, high⟩ := isqrt_spec bound
  exact Nat.le_antisymm ((Nat.pow_le_pow_iff_left (by decide)).mp low)
    (Nat.lt_succ_iff.mp ((Nat.pow_lt_pow_iff_left (by decide)).mp high))

/-- The figures of a sound HIGH window are the amplitude, R94, R102. -/
theorem patternTaken_figures (tests : s.vib.phase ≠ .none) (high : s.vib.phase ≠ .zero) (small : s.vib.amplitude < 2 ^ 17)
    (sum : s.vib.sumSquares = 255 * s.vib.amplitude ^ 2) (peak : s.vib.peak = s.vib.amplitude) :
    s.patternTaken.vib.figures = ⟨s.vib.amplitude, s.vib.amplitude⟩ := by
  have mean : (255 * s.vib.amplitude ^ 2 + s.vib.amplitude ^ 2) / 256 = s.vib.amplitude ^ 2 := by omega
  rw [patternTaken_eq tests (if_neg high).symm]
  unfold VibWatch.figures
  dsimp only
  rw [sum, peak, mean, isqrt_square small, Nat.max_self]

/-- The figures of a sound ZERO window, R94, R102. -/
theorem patternTaken_silent (zero : s.vib.phase = .zero) (sum : s.vib.sumSquares = 0) (peak : s.vib.peak = 0) :
    s.patternTaken.vib.figures = ⟨0, 0⟩ := by
  rw [patternTaken_eq (x := 0) (by rw [zero]; decide) (if_pos zero).symm]
  unfold VibWatch.figures
  dsimp only
  rw [sum, peak]
  rfl

/-- The amplitude meets the criterion of a HIGH window, R101, R102. -/
theorem patternAmplitude_meets (w : Settings) :
    w.tripRms 3 ≤ w.patternAmplitude ∧ w.tripPeak 3 ≤ w.patternAmplitude := by
  unfold Settings.patternAmplitude
  dsimp only
  omega

end Pattern

section Verdict

variable {s : State} (st : s.st = .selftest) (others : s.inputs.loopOthers = false)

/-- The test noted as done, R42. -/
def State.tested (s : State) : State :=
  s.onSeq fun q => { q with selftestDone := true }

/-- The verdict at the cause unit, R42, R105. -/
def State.judgedTest (s : State) (passed : Bool) : State :=
  if passed then s.tested.setCause .selftestFail { s.causeField .selftestFail with present := false, latched := false }
  else s.tested.present .selftestFail true 0

/-- The verdict taken by the cause unit and the sequencer, before the test is left, R42, R105. -/
def State.verdictTaken (s : State) (passed : Bool) : State :=
  (s.judgedTest passed).writeOutcome .order (if passed then .selftestPassed else .selftestFailed)
    (s.judgedTest passed).seq.selftestTag

theorem judgedTest_passed : (s.judgedTest true).causeField .selftestFail
    = { s.causeField .selftestFail with present := false, latched := false } := by
  show (s.cause.causes.set .selftestFail _).get .selftestFail = _
  rw [CauseSet.get_set_self]

section Failed

include st

/-- SELFTEST_FAIL is an alert, R111. -/
theorem judgedTest_failed : s.judgedTest false
    = if (s.causeField .selftestFail).present = true then s.tested else s.tested.risen .selftestFail := by
  have joined : s.tested.st.joined = true := by
    show s.st.joined = true
    rw [st]
    rfl
  show s.tested.present .selftestFail true 0 = _
  split
  · next present => exact present_present _ 0 rfl present
  · next absent => rw [present_rises _ 0 joined rfl (Bool.eq_false_iff.mpr absent), rise_alert _ 0 rfl]

theorem judgedTest_field : (s.judgedTest false).causeField .selftestFail
    = if (s.causeField .selftestFail).present = true then s.causeField .selftestFail
      else { present := true, latched := true, count := min 255 ((s.causeField .selftestFail).count + 1) } := by
  rw [judgedTest_failed st]
  split
  · rfl
  · exact risen_causeField s.tested .selftestFail

/-- The verdict alters the cause set alone, R105. -/
theorem judgedTest_eq (passed : Bool) : s.judgedTest passed = { s.tested with
    cause := { s.cause with causes := (s.judgedTest passed).cause.causes } } := by
  cases passed with
  | true => rfl
  | false =>
    rw [judgedTest_failed st]
    split <;> rfl

theorem verdictTaken_eq (passed : Bool) : s.verdictTaken passed = { s with
    seq := { s.seq with
      selftestDone := true
      lastOutcome := some ⟨.order, if passed then .selftestPassed else .selftestFailed, s.seq.selftestTag⟩ }
    cause := { s.cause with causes := (s.judgedTest passed).cause.causes } } := by
  unfold State.verdictTaken
  rw [judgedTest_eq st]
  rfl

end Failed

/-- The state the test is left for, R42. -/
def State.testTarget (s : State) : StationState :=
  if s.someOtherShows StationState.startingOrRunning then .standby else .stopped

theorem testTarget_ne (s : State) : s.testTarget ≠ .selftest ∧ s.testTarget.cruising = false := by
  unfold State.testTarget
  split <;> exact ⟨by decide, rfl⟩

include st others

/-- The test is left at once; no loop trip where nobody else drives the loop, R42, R119. -/
theorem selftestReport_eq (passed : Bool) :
    s.selftestReport passed = (s.verdictTaken passed).moveTo s.testTarget := by
  have taken := verdictTaken_eq st passed
  have shows : (s.verdictTaken passed).someOtherShows StationState.startingOrRunning
      = s.someOtherShows StationState.startingOrRunning := by
    rw [taken]
    rfl
  have quiet : (s.verdictTaken passed).inputs.loopOthers = false := by
    rw [taken]
    exact others
  have st' : (s.verdictTaken passed).st = .selftest := by
    rw [taken]
    exact st
  show (if (s.verdictTaken passed).someOtherShows StationState.startingOrRunning
    then (s.verdictTaken passed).enterStandby else (s.verdictTaken passed).enterStopped) = _
  have checked (new : StationState) (leaves : new ≠ .selftest) (undriven : new.lines.loopDrive = false) :
      ((s.verdictTaken passed).moveTo new).loopCheck = (s.verdictTaken passed).moveTo new := by
    refine loopCheck_quiet _ ?_ (by rw [moveTo_inputs, quiet])
    rw [moveTo_lines (by rw [st']; exact leaves.symm), undriven]
  unfold State.testTarget
  rw [shows]
  split
  · exact checked .standby (by decide) rfl
  · exact checked .stopped (by decide) rfl

/-- What the end of the test leaves, R42, R103, R105. -/
theorem selftestReport_leaves (passed : Bool) : let t := s.selftestReport passed
    t.seq.selftestDone = true
      ∧ t.seq.lastOutcome = some ⟨.order, if passed then .selftestPassed else .selftestFailed, s.seq.selftestTag⟩
      ∧ t.causeField .selftestFail = (s.judgedTest passed).causeField .selftestFail
      ∧ t.st = s.testTarget ∧ t.vib.phase = .none ∧ t.vib.count = 0 ∧ t.vib.patternCount = 0
      ∧ t.timers.pattern = none := by
  have taken := verdictTaken_eq st passed
  obtain ⟨leaves, idle⟩ := testTarget_ne s
  have st' : (s.verdictTaken passed).st = .selftest := by
    rw [taken]
    exact st
  have moves : (s.verdictTaken passed).st ≠ s.testTarget := by
    rw [st']
    exact leaves.symm
  have ends : windowEnds (s.verdictTaken passed).st s.testTarget = true := by simp [windowEnds, st']
  dsimp only
  rw [selftestReport_eq st others]
  refine ⟨?_, (moveTo_answers _ idle).2.trans ?_, moveTo_causeField_other _ _ (by decide), st_moveTo _ _, ?_, ?_, ?_, ?_⟩
  · rw [moveTo_seq moves, taken]
    rfl
  · rw [taken]
  · rw [moveTo_vib moves]
    simp [VibWatch.onMove, leaves, st']
  · rw [moveTo_vib moves, (onMove_ends ends).1]
  · rw [moveTo_vib moves, onMove_patternCount, if_pos (.inr st')]
  · rw [moveTo_timers moves]
    exact if_neg leaves

end Verdict

/-- Settles O23: by the phase of the window and whether the sample completes it. -/
theorem selftestPattern : Obligations.SelftestPattern := by
  unfold Obligations.SelftestPattern
  refine ⟨fun figures s x st tests sample => ⟨fun room => ?_, fun full high f given => ?_,
    fun full high sound amplitude sum peak => ?_⟩, fun figures f s st zero full others given => ?_⟩
  · rw [exec_pattern_open st tests room, patternTaken_eq tests sample]
  · rw [exec_pattern_full st tests full, given, completeTestWindow_high (by exact tests) (by exact high)]
    rfl
  · obtain ⟨rms, top⟩ := patternAmplitude_meets s.cfg
    have small : s.vib.amplitude < 2 ^ 17 := by
      have bound := patternAmplitude_le s.cfg
      omega
    have met : (decide (s.cfg.tripRms 3 ≤ s.vib.amplitude) && decide (s.cfg.tripPeak 3 ≤ s.vib.amplitude)) = true := by
      simp [amplitude, rms, top]
    have marked : (s.vib.failMark
        || !(decide (s.cfg.tripRms 3 ≤ s.vib.amplitude) && decide (s.cfg.tripPeak 3 ≤ s.vib.amplitude)))
        = s.vib.failMark := by
      rw [met]
      exact Bool.or_false _
    rw [exec_pattern_full st tests full, sound, Option.getD_none, patternTaken_figures tests high small sum peak,
      completeTestWindow_high (by exact tests) (by exact high)]
    exact congrArg (fun mark => Host.Outcome.next { s with
      vib := { s.vib with count := 0, sumSquares := 0, peak := 0, patternCount := 0,
                          phase := if s.vib.phase = TestPhase.high1 then .high2 else .zero, failMark := mark }
      timers := { s.timers with pattern := some 100 } }) marked
  · have formed : figures.getD s.patternTaken.vib.figures = f := by
      rcases given with given | ⟨sound, sum, peak, rms, top⟩
      · rw [given, Option.getD_some]
      · obtain ⟨fRms, fPeak⟩ := f
        obtain rfl : fRms = 0 := rms
        obtain rfl : fPeak = 0 := top
        rw [sound, Option.getD_none, patternTaken_silent zero sum peak]
    have tests : s.vib.phase ≠ .none := by rw [zero]; decide
    have reported : exec (.patternSample figures) s
        = .next ((s.patternTaken.testEnded (!s.testPassed f)).selftestReport (s.testPassed f)) := by
      rw [exec_pattern_full st tests full, formed, completeTestWindow_zero (by exact zero)]
      rfl
    obtain ⟨done, outcome, field, target, phase, count, pattern, timer⟩ :=
      selftestReport_leaves (s := s.patternTaken.testEnded (!s.testPassed f)) st others (s.testPassed f)
    refine ⟨_, reported, done, ⟨fun passed => ?_, fun fails => ?_⟩, target, phase, count, pattern, timer⟩
    · rw [outcome, field, testPassed_iff.mpr passed]
      exact ⟨rfl, judgedTest_passed⟩
    · have failed : s.testPassed f = false := Bool.eq_false_iff.mpr (mt testPassed_iff.mp fails)
      rw [outcome, field, failed, judgedTest_field (by exact st)]
      exact ⟨rfl, fun present => if_pos present, fun absent => if_neg (Bool.eq_false_iff.mp absent)⟩

end Sys2Proof.Machine

end

section
/-!
PROOFS. What every DEMAND does (R22, R55, R70): the ceiling, the speed target, the demand timer and DEMAND_LOSS, which
stand over whatever the DEMAND leads to.
-/

namespace Sys2Proof.Machine

section StartingEntered

/-- STARTING as it is entered: every other participant to confirm, and the start window running, R28. -/
def State.startingEntered (s : State) : State :=
  ((s.moveTo .starting).onSeq fun q => { q with confirmation := (s.moveTo .starting).others }).onTimers
    fun t => { t with startWindow := some (3 * s.cfg.sharePeriodUs) }

theorem enterStarting_eq (s : State) : s.enterStarting
    = if s.startingEntered.seq.confirmation.isEmpty then s.startingEntered.enterBreakaway else s.startingEntered := by
  unfold State.startingEntered
  rw [← moveTo_cfg s .starting]
  rfl

end StartingEntered

section KeepsNoted

variable {w t : State}

/-- What R22 has written stands from `w` to `t`. -/
structure KeepsNoted (w t : State) : Prop where
  ceiling : t.limiter.ceiling = w.limiter.ceiling
  target : t.reg.speedTarget = w.reg.speedTarget
  timer : t.timers.demand = w.timers.demand
  loss : t.causeField .demandLoss = w.causeField .demandLoss

namespace KeepsNoted

theorem refl (w : State) : KeepsNoted w w := ⟨rfl, rfl, rfl, rfl⟩

variable (h : KeepsNoted w t)
include h

theorem onSeq (f) : KeepsNoted w (t.onSeq f) := ⟨h.ceiling, h.target, h.timer, h.loss⟩

theorem answerDemand (c p) : KeepsNoted w (t.answerDemand c p) :=
  ⟨h.ceiling, h.target, h.timer, h.loss⟩

theorem cause {c : Cause} (v : CauseField) (other : c ≠ .demandLoss) : KeepsNoted w (t.setCause c v) :=
  ⟨h.ceiling, h.target, h.timer, (CauseSet.get_set_ne _ _ other.symm).trans h.loss⟩

theorem moveTo (new : StationState) : KeepsNoted w (t.moveTo new) := by
  by_cases same : t.st = new
  · rw [moveTo_eq t same]
    exact h
  · have target : (t.moveTo new).reg.speedTarget = t.reg.speedTarget := by
      rw [moveTo_reg same]
      unfold Regulator.onMove
      split <;> split <;> rfl
    refine ⟨?_, target.trans h.target, ?_, (moveTo_causeField_other t new (by decide)).trans h.loss⟩
    · rw [moveTo_limiter same]
      exact h.ceiling
    · rw [moveTo_timers same]
      exact h.timer

theorem tripMove : KeepsNoted w t.tripMove :=
  tripMove_keeps (P := KeepsNoted w) t (fun k => ⟨k.ceiling, k.target, k.timer, k.loss⟩)
    (fun _ new _ k => k.moveTo new) h

theorem originTrip (c detail) : KeepsNoted w (t.originTrip c detail) := by
  have timer : (t.originBegun c detail).timers.demand = t.timers.demand := by
    simp [State.originBegun, State.setG, State.beginTrip, State.openRecord, State.composeTrip]
  have limiter : (t.originBegun c detail).limiter = t.limiter := by
    simp [State.originBegun, State.setG, State.beginTrip, State.openRecord, State.composeTrip]
  have reg : (t.originBegun c detail).reg = t.reg := by
    simp [State.originBegun, State.setG, State.beginTrip, State.openRecord, State.composeTrip]
  have loss : (t.originBegun c detail).causeField .demandLoss = t.causeField .demandLoss :=
    congrArg (CauseSet.get · _) (originBegun_causes t c detail)
  exact (KeepsNoted.mk (by rw [limiter, h.ceiling]) (by rw [reg, h.target]) (timer.trans h.timer)
    (loss.trans h.loss)).tripMove

theorem loopTrip : KeepsNoted w t.loopTrip := by
  have begun : KeepsNoted w t.loopBegun := by
    refine ⟨?_, ?_, ?_, ?_⟩ <;> rw [loopBegun_eq]
    · exact h.ceiling
    · exact h.target
    · exact h.timer
    · exact (latchCount_causeField_ne t (by decide)).trans h.loss
  rw [loopTrip_begun]
  exact ⟨begun.tripMove.ceiling, begun.tripMove.target, begun.tripMove.timer, begun.tripMove.loss⟩

theorem loopCheck : KeepsNoted w t.loopCheck := by
  unfold State.loopCheck
  split
  · exact h.loopTrip
  · exact h

/-- GROUP_SHORT has the action trip, R35, R109. -/
theorem checkGroupShort : KeepsNoted w t.checkGroupShort := by
  have risen : KeepsNoted w (t.risen .groupShort) :=
    ⟨h.ceiling, h.target, h.timer, (risen_causeField_ne t (by decide)).trans h.loss⟩
  refine present_cases t (P := KeepsNoted w) .groupShort _ 0 h (fun _ _ => h.cause _ (by decide)) fun _ _ _ => ?_
  refine rise_trip_cases t (P := KeepsNoted w) 0 rfl (fun _ => risen.originTrip _ _) ?_ risen
  refine subsequentCause_cases _ (P := KeepsNoted w) _ none fun u recorded => ?_
  have kept : KeepsNoted w u := by
    rcases recorded with rfl | rfl
    · exact risen
    · exact ⟨risen.ceiling, risen.target, risen.timer, risen.loss⟩
  exact ⟨kept, fun _ => kept.moveTo _⟩

theorem enterStopped : KeepsNoted w t.enterStopped := (h.moveTo _).loopCheck

theorem enterMode (m) : KeepsNoted w (t.enterMode m) := (h.moveTo _).checkGroupShort

theorem enterDecel : KeepsNoted w t.enterDecel := by
  unfold State.enterDecel
  dsimp only
  split
  · exact (h.moveTo _).enterStopped
  · exact h.moveTo _

theorem enterBreakaway : KeepsNoted w t.enterBreakaway := by
  unfold State.enterBreakaway
  dsimp only
  split
  · exact (h.moveTo _).checkGroupShort.enterMode _
  · exact (h.moveTo _).checkGroupShort

theorem enterStarting : KeepsNoted w t.enterStarting := by
  have moved := h.moveTo .starting
  have waits : KeepsNoted w t.startingEntered := ⟨moved.ceiling, moved.target, moved.timer, moved.loss⟩
  rw [enterStarting_eq]
  split
  · exact waits.enterBreakaway
  · exact waits

theorem demandStop (p) : KeepsNoted w (t.demandStop p) := by
  unfold State.demandStop
  split
  · exact (h.answerDemand _ _).enterStopped
  · exact (h.answerDemand _ _).enterDecel
  · exact (h.answerDemand _ _).enterDecel
  · exact (h.answerDemand _ _).enterDecel
  · exact h

theorem demandStart (m p) : KeepsNoted w (t.demandStart m p) := by
  unfold State.demandStart
  split
  · exact h.answerDemand _ _
  split
  · exact h.answerDemand _ _
  split
  · exact h.answerDemand _ _
  · exact (((h.onSeq _).onSeq _).answerDemand _ _).enterStarting

theorem demandResume (m p) : KeepsNoted w (t.demandResume m p) := by
  unfold State.demandResume
  split
  · exact h.answerDemand _ _
  split
  · exact h.answerDemand _ _
  split
  · exact h.answerDemand _ _
  · exact ((h.onSeq _).answerDemand _ _).enterMode _

theorem demandChange (m p) : KeepsNoted w (t.demandChange m p) := by
  unfold State.demandChange
  dsimp only
  split
  · exact h.answerDemand _ _
  · exact (h.answerDemand _ _).enterMode _

theorem demandGo (m p) : KeepsNoted w (t.demandGo m p) := by
  have marked : KeepsNoted w (t.mark p) := h.onSeq _
  have ite {c : Prop} [Decidable c] {a b : State} (ha : KeepsNoted w a) (hb : KeepsNoted w b) :
      KeepsNoted w (if c then a else b) := by
    split
    · exact ha
    · exact hb
  unfold State.demandGo
  split
  case h_1 => exact h.demandStart m p
  case h_2 => exact h.demandResume m p
  case h_3 | h_4 => exact ite marked ((marked.onSeq _).answerDemand _ _)
  case h_5 | h_6 => exact ite marked (marked.demandChange m p)
  case h_7 => exact h.answerDemand _ _
  case h_14 | h_15 => exact h
  all_goals exact marked

end KeepsNoted

theorem takeDemand_keepsNoted (u : State) (p : DemandPayload) : KeepsNoted (u.noteDemand p) (u.takeDemand p) := by
  unfold State.takeDemand
  dsimp only
  split
  · exact (KeepsNoted.refl _).demandStop p
  · exact (KeepsNoted.refl _).demandGo _ p

end KeepsNoted

section Noted

variable {s u : State} {origin : Station} {p : DemandPayload}

theorem exec_demandFrame (reaches : s.Reaches u origin classDemand) :
    exec (.demandFrame origin p) s = .next (u.takeDemand p) :=
  congrArg Host.Outcome.next (frameArrives_delivered reaches p.words fun s => s.takeDemand p)

/-- The ceiling of a DEMAND in hand, before the allowance follows, R70. -/
def State.ceilingTaken (u : State) (p : DemandPayload) : State :=
  u.onLimiter fun l => { l with ceiling := p.ceiling.toNat }

/-- The speed target, the demand timer and the end of DEMAND_LOSS, R22, R55. -/
def State.demandWritten (r : State) (target time : Nat) : State :=
  ((r.onReg fun r => { r with speedTarget := target }).onTimers fun t => { t with demand := some time }).cease .demandLoss

theorem noteDemand_written (u : State) (p : DemandPayload) : u.noteDemand p
    = (u.ceilingTaken p).recompute.demandWritten (min p.speedTarget.toNat u.cfg.maxSpeed)
        (u.cfg.demandTimeout * 1000) := rfl

theorem noteDemand_loss (u : State) (p : DemandPayload) : ((u.noteDemand p).causeField .demandLoss).present = false := by
  show ((CauseSet.cease _ .demandLoss).get .demandLoss).present = false
  rw [CauseSet.get_cease]

theorem noteDemand_selftestFail (u : State) (p : DemandPayload) :
    (u.noteDemand p).causeField .selftestFail = u.causeField .selftestFail :=
  (CauseSet.get_set_ne _ _ (by decide)).trans ((stays_recompute (u.ceilingTaken p)).causeField .selftestFail (by decide))

theorem noteDemand_ready (u : State) (p : DemandPayload) : (u.noteDemand p).ready = u.ready :=
  congrArg (fun f : CauseField => !f.latched) (noteDemand_selftestFail u p)

theorem demandWritten_blocks (r : State) (target time : Nat) : let w := r.demandWritten target time
    w.st = r.st ∧ w.seq = r.seq ∧ w.peers = r.peers ∧ w.loader = r.loader ∧ w.cfg = r.cfg ∧ w.speed = r.speed
      ∧ w.inputs = r.inputs := ⟨rfl, rfl, rfl, rfl, rfl, rfl, rfl⟩

/-- What R22 leaves of the other blocks. -/
theorem noteDemand_blocks (u : State) (p : DemandPayload) : let w := u.noteDemand p
    w.st = u.st ∧ w.seq = u.seq ∧ w.peers = u.peers ∧ w.loader = u.loader ∧ w.cfg = u.cfg ∧ w.speed = u.speed
      ∧ w.inputs = u.inputs := by
  have kept := stays_recompute (u.ceilingTaken p)
  obtain ⟨st, seq, peers, loader, cfg, speed, inputs⟩ := demandWritten_blocks (u.ceilingTaken p).recompute
    (min p.speedTarget.toNat u.cfg.maxSpeed) (u.cfg.demandTimeout * 1000)
  rw [noteDemand_written]
  exact ⟨st.trans kept.st, seq.trans kept.seq, peers.trans kept.peers, loader.trans kept.loader, cfg.trans kept.cfg,
    speed.trans kept.speed, inputs.trans kept.inputs⟩

theorem noteDemand_participantsOk (list : u.ParticipantsOk) : (u.noteDemand p).ParticipantsOk := by
  obtain ⟨st, -, peers, loader, -, -, -⟩ := noteDemand_blocks u p
  have entry (n : Station) : (u.noteDemand p).entry n = u.entry n := by
    unfold State.entry
    rw [peers]
  exact participants_congr st (by rw [loader]) (noteDemand_ready u p) (fun n _ => by rw [entry]) (by rw [peers]) list

theorem recompute_limiter (s : State) : s.recompute.limiter = { s.limiter with
    allowance := s.recompute.limiter.allowance, limiting := s.recompute.limiter.limiting } := rfl

/-- Where the jam conditions are not watched, R80. -/
theorem recompute_still {s : State} (still : s.st.cruising = false) : s.recompute = { s with
    limiter := { s.limiter with allowance := s.recompute.limiter.allowance, limiting := s.recompute.limiter.limiting }
    timers := { s.timers with jam := none }
    cause := { s.cause with causes := s.cause.causes.cease .jam } } := by
  have idle : s.weighed.jamHolds = false := by
    show (s.st.cruising && _) = false
    rw [still]
    rfl
  exact judgeJam_idle _ idle

theorem noteDemand_idle (still : u.st.cruising = false) : u.noteDemand p = { u with
    limiter := { u.limiter with
      ceiling := p.ceiling.toNat, allowance := (u.noteDemand p).limiter.allowance
      limiting := (u.noteDemand p).limiter.limiting }
    reg := { u.reg with speedTarget := min p.speedTarget.toNat u.cfg.maxSpeed }
    timers := { u.timers with demand := some (u.cfg.demandTimeout * 1000), jam := none }
    cause := { u.cause with causes := (u.cause.causes.cease .jam).cease .demandLoss } } := by
  have calm : (u.ceilingTaken p).recompute = _ := recompute_still still
  rw [noteDemand_written, calm]
  rfl

theorem demandMode_isSome_iff (code : BitVec 2) : (demandMode code).isSome = true ↔ code = 1 ∨ code = 2 := by
  revert code
  decide

/-- In the states that take nothing from a DEMAND but its mark, R26. -/
theorem takeDemand_marks (row : u.st = .joining ∨ u.st = .tripDecel ∨ u.st = .tripped ∨ u.st = .clearing
    ∨ u.st = .standby ∨ u.st = .lockout) : u.takeDemand p
      = if p.mode = 1 ∨ p.mode = 2 then (u.noteDemand p).mark p else u.noteDemand p := by
  obtain ⟨st, -⟩ := noteDemand_blocks u p
  unfold State.takeDemand
  dsimp only
  cases mode : demandMode p.mode with
  | none =>
    rw [if_neg (mt (demandMode_isSome_iff _).mpr (by simp [mode]))]
    unfold State.demandStop
    rcases row with row | row | row | row | row | row <;> rw [st, row]
  | some m =>
    rw [if_pos ((demandMode_isSome_iff _).mp (by simp [mode]))]
    unfold State.demandGo
    rcases row with row | row | row | row | row | row <;> rw [st, row]

end Noted

/-- Settles O39: what R22 writes stands over whatever the DEMAND leads to. -/
theorem demandNoted : Obligations.DemandNoted := by
  unfold Obligations.DemandNoted
  intro origin p s u reaches runs
  obtain ⟨ceiling, target, timer, loss⟩ := takeDemand_keepsNoted u p
  refine ⟨_, exec_demandFrame reaches, ceiling, target, timer, ?_, fun row => ?_⟩
  · rw [loss]
    exact noteDemand_loss u p
  · have still : u.st.cruising = false := by rcases row with row | row | row | row | row | row <;> rw [row] <;> rfl
    have blocks := noteDemand_idle (p := p) still
    rw [takeDemand_marks row]
    split
    · rw [blocks]
      rfl
    · exact blocks

end Sys2Proof.Machine

end

section
/-!
PROOFS. A DEMAND RUN or CREEP in STOPPED (R23, R28): the answers that leave the state, and STARTING or BREAKAWAY entered.
-/

namespace Sys2Proof.Machine

section Rows

variable {u : State} {p : DemandPayload} {m : Mode}

theorem takeDemand_stop (mode : demandMode p.mode = none) : u.takeDemand p = (u.noteDemand p).demandStop p := by
  unfold State.takeDemand
  rw [mode]

theorem takeDemand_go (mode : demandMode p.mode = some m) : u.takeDemand p = (u.noteDemand p).demandGo m p := by
  unfold State.takeDemand
  rw [mode]

theorem demandGo_stopped (st : u.st = .stopped) : u.demandGo m p = u.demandStart m p := by
  unfold State.demandGo
  rw [st]

theorem modeFor_eq (u : State) (m : Mode) : u.modeFor m = if m = .run ∧ u.cfg.minRun ≤ u.count then .run else .creep := by
  unfold State.modeFor
  by_cases few : u.count < u.cfg.minRun
  · cases m <;> simp [few, Nat.not_le.mpr few]
  · cases m <;> simp [few, Nat.not_lt.mp few]

/-- The answers of R23 and R25 that refuse a start or a resumption; `go` is what is not refused. -/
def State.gated (w : State) (p : DemandPayload) (go : State) : State :=
  if w.seq.startMark = some p.sequence then w.answerDemand .staleDemand p
  else if !w.ready then w.answerDemand .notReady p
  else if w.count < w.cfg.minCreep then w.answerDemand .tooFew p
  else go

theorem noteDemand_count (u : State) (p : DemandPayload) : (u.noteDemand p).count = u.count := by
  obtain ⟨-, -, peers, -⟩ := noteDemand_blocks u p
  unfold State.count
  rw [peers]

theorem noteDemand_others (u : State) (p : DemandPayload) : (u.noteDemand p).others = u.others := by
  obtain ⟨-, -, peers, loader, -⟩ := noteDemand_blocks u p
  unfold State.others
  rw [peers, loader]

theorem noteDemand_modeFor (u : State) (p : DemandPayload) (m : Mode) : (u.noteDemand p).modeFor m
    = if m = .run ∧ u.cfg.minRun ≤ u.count then .run else .creep := by
  obtain ⟨-, -, -, -, cfg, -⟩ := noteDemand_blocks u p
  rw [modeFor_eq, cfg, noteDemand_count]

/-- The rows of R23's answers, in their order. -/
theorem gated_rows (u : State) (p : DemandPayload) (go : State) : let t := (u.noteDemand p).gated p go
    (u.seq.startMark = some p.sequence →
        t.seq = { u.seq with lastOutcome := some ⟨.demand, .staleDemand, p.sequence⟩ })
      ∧ (u.seq.startMark ≠ some p.sequence → (u.causeField .selftestFail).latched = true →
        t.seq = { u.seq with lastOutcome := some ⟨.demand, .notReady, p.sequence⟩ })
      ∧ (u.seq.startMark ≠ some p.sequence → (u.causeField .selftestFail).latched = false → u.count < u.cfg.minCreep →
        t.seq = { u.seq with lastOutcome := some ⟨.demand, .tooFew, p.sequence⟩ })
      ∧ (u.seq.startMark ≠ some p.sequence → (u.causeField .selftestFail).latched = false → u.cfg.minCreep ≤ u.count →
        t = go) := by
  obtain ⟨-, seq, -, -, cfg, -⟩ := noteDemand_blocks u p
  have answers (c : OutcomeCode) : ((u.noteDemand p).answerDemand c p).seq
      = { u.seq with lastOutcome := some ⟨.demand, c, p.sequence⟩ } := by
    rw [← seq]
    rfl
  have latched : (u.noteDemand p).ready = !(u.causeField .selftestFail).latched := noteDemand_ready u p
  dsimp only
  unfold State.gated
  rw [seq, latched, cfg, noteDemand_count, Bool.not_not]
  refine ⟨fun stale => ?_, fun fresh fails => ?_, fun fresh sound few => ?_, fun fresh sound enough => ?_⟩
  · rw [if_pos stale, answers]
  · rw [if_neg fresh, if_pos fails, answers]
  · rw [if_neg fresh, if_neg (Bool.eq_false_iff.mp sound), if_pos few, answers]
  · rw [if_neg fresh, if_neg (Bool.eq_false_iff.mp sound), if_neg (Nat.not_lt.mpr enough)]

end Rows

section Starts

variable {x : State}

theorem startingEntered_st (x : State) : x.startingEntered.st = .starting := st_moveTo x .starting

variable (st : x.st = .stopped)
include st

theorem stopped_leaves : x.st ≠ .starting := by
  rw [st]
  decide

theorem startingEntered_participantsOk : x.startingEntered.ParticipantsOk :=
  participants_congr (s := x.moveTo .starting) rfl rfl rfl (fun _ _ => rfl) rfl
    (moveTo_participantsOk (stopped_leaves st))

variable (list : x.ParticipantsOk)
include list

theorem starting_regroups : Regroups x .starting := ⟨stopped_leaves st, by rw [st]; rfl, rfl, list⟩

theorem startingEntered_peers : x.startingEntered.peers.participants = x.peers.participants :=
  (starting_regroups st list).participants

theorem startingEntered_seq : x.startingEntered.seq = { x.seq with station := .starting, confirmation := x.others } := by
  have others : (x.moveTo .starting).others = x.others := by
    unfold State.others
    rw [(starting_regroups st list).participants, moveTo_loader]
  show { (x.moveTo .starting).seq with confirmation := (x.moveTo .starting).others } = _
  rw [others, moveTo_seq (stopped_leaves st)]
  simp [Sequencer.onMove]

theorem enterStarting_waits (others : x.others ≠ []) : x.enterStarting = x.startingEntered := by
  rw [enterStarting_eq, startingEntered_seq st list]
  exact if_neg (by simpa using others)

/-- With nobody else to confirm, BREAKAWAY is entered at once, R28. -/
theorem enterStarting_alone (others : x.others = []) (enough : x.cfg.minCreep ≤ x.count) :
    x.enterStarting = x.startingEntered.breakawayEntered := by
  have loader : x.startingEntered.loader = x.loader := moveTo_loader x .starting
  have alone : x.startingEntered.someOtherShows StationState.regulating = false := by
    have none : x.startingEntered.others = [] := by
      unfold State.others
      rw [startingEntered_peers st list, loader]
      exact others
    unfold State.someOtherShows
    rw [none]
    rfl
  have enough' : x.startingEntered.cfg.minCreep ≤ x.startingEntered.count := by
    unfold State.cfg State.count
    rw [startingEntered_peers st list, loader]
    exact enough
  rw [enterStarting_eq, startingEntered_seq st list]
  refine (if_pos (by simp [others])).trans ?_
  rw [enterBreakaway_enough (startingEntered_st x) (startingEntered_participantsOk st) enough', alone]
  rfl

end Starts

section Breakaway

variable {s : State} (st : s.st = .starting)
include st

/-- The first stage as BREAKAWAY is entered, R75, and the lines of the state. -/
theorem breakawayEntered_first : s.breakawayEntered.limiter.stageValue = s.cfg.stageLevel 1
    ∧ s.breakawayEntered.timers.stage = some (s.cfg.stageTime * 1000) ∧ s.breakawayEntered.speed.stageEdges = 0
    ∧ s.breakawayEntered.lines = StationState.lines .breakaway := by
  have leaves : s.st ≠ .breakaway := by rw [st]; decide
  refine ⟨?_, ?_, ?_, moveTo_lines leaves⟩
  · exact congrArg Limiter.stageValue (moveTo_limiter leaves)
  · exact congrArg Timers.stage (moveTo_timers leaves)
  · exact congrArg SpeedUnit.stageEdges (moveTo_speed leaves)

end Breakaway

section Started

variable {w : State} {p : DemandPayload} {m : Mode}

/-- A start ordered and answered, before STARTING is entered, R23. -/
def State.startOrdered (w : State) (m : Mode) (p : DemandPayload) : State :=
  ((w.intend (w.modeFor m)).mark p).answerDemand (startOutcome m (w.modeFor m)) p

theorem demandStart_gated : w.demandStart m p = w.gated p (w.startOrdered m p).enterStarting := rfl

end Started

/-- Settles O40. -/
theorem demandStarts : Obligations.DemandStarts := by
  unfold Obligations.DemandStarts
  intro origin p m entered s u reaches st list mode enters
  obtain ⟨st', seq, peers, loader, cfg, -, -⟩ := noteDemand_blocks u p
  have st' : (u.noteDemand p).st = .stopped := st'.trans st
  have takes : exec (.demandFrame origin p) s = .next ((u.noteDemand p).demandStart m p) := by
    rw [exec_demandFrame reaches, takeDemand_go mode, demandGo_stopped st']
  obtain ⟨stale, fails, few, starts⟩ := gated_rows u p ((u.noteDemand p).startOrdered m p).enterStarting
  rw [demandStart_gated] at takes
  refine ⟨_, takes, stale, fails, few, fun fresh sound enough => ?_⟩
  rw [starts fresh sound enough]
  have ordered : ((u.noteDemand p).startOrdered m p).seq = { u.seq with
      startMark := some p.sequence, intended := entered
      lastOutcome := some ⟨.demand, startOutcome m entered, p.sequence⟩ } := by
    rw [enters, ← noteDemand_modeFor u p m, ← seq]
    rfl
  have list' : ((u.noteDemand p).startOrdered m p).ParticipantsOk :=
    participants_congr (s := u.noteDemand p) rfl rfl rfl (fun _ _ => rfl) rfl (noteDemand_participantsOk list)
  have cfg' : ((u.noteDemand p).startOrdered m p).cfg = u.cfg := cfg
  have enough' : ((u.noteDemand p).startOrdered m p).cfg.minCreep ≤ ((u.noteDemand p).startOrdered m p).count := by
    rw [cfg']
    exact enough.trans (noteDemand_count u p).ge
  have others : ((u.noteDemand p).startOrdered m p).others = u.others := noteDemand_others u p
  have stopped : ((u.noteDemand p).startOrdered m p).st = .stopped := st'
  generalize (u.noteDemand p).startOrdered m p = x at ordered list' cfg' enough' others stopped ⊢
  have entersSeq := startingEntered_seq stopped list'
  rw [ordered, others] at entersSeq
  have answer : startOutcome m entered = if m = entered then .taken else .runAsCreep := rfl
  by_cases alone : u.others = []
  · have first := startingEntered_st x
    obtain ⟨value, timer, edges, lines⟩ := breakawayEntered_first first
    have cfg'' : x.startingEntered.cfg = u.cfg := (moveTo_cfg x .starting).trans cfg'
    have drivesSeq := breakawayEntered_seq first
    rw [entersSeq] at drivesSeq
    rw [enterStarting_alone stopped list' (others.trans alone) enough', drivesSeq]
    refine ⟨rfl, rfl, by rw [answer], fun some => absurd alone some, fun _ => ⟨?_, rfl, ?_⟩⟩
    · exact congrArg Sequencer.station drivesSeq
    · exact ⟨breakawayEntered_startWindow first, breakawayEntered_stage first, by rw [value, cfg''],
        by rw [timer, cfg''], edges, lines⟩
  · rw [enterStarting_waits stopped list' (by rw [others]; exact alone), entersSeq]
    refine ⟨rfl, rfl, by rw [answer], fun _ => ⟨startingEntered_st x, rfl, ?_⟩, fun none => absurd none alone⟩
    rw [← cfg']
    rfl

end Sys2Proof.Machine

end

section
/-!
PROOFS. A DEMAND in STARTING, BREAKAWAY, RUN, CREEP, DECEL and SELFTEST (R24 to R26): STOP, the mode followed, a change of
the intended mode, and a change of mode with its entry.
-/

namespace Sys2Proof.Machine

section Blocks

/-- What R22 leaves of the regulator, the stage and the windows. -/
theorem noteDemand_rest (u : State) (p : DemandPayload) : let w := u.noteDemand p
    w.reg.setpoint = u.reg.setpoint ∧ w.reg.integral = u.reg.integral ∧ w.timers.startWindow = u.timers.startWindow
      ∧ w.timers.stage = u.timers.stage ∧ w.limiter.stage = u.limiter.stage := by
  have kept := stays_recompute (u.ceilingTaken p)
  have limiter := recompute_limiter (u.ceilingTaken p)
  rw [noteDemand_written]
  generalize (u.ceilingTaken p).recompute = r at kept limiter
  have setpoint : r.reg.setpoint = u.reg.setpoint := congrArg Regulator.setpoint kept.reg
  have integral : r.reg.integral = u.reg.integral := congrArg Regulator.integral kept.reg
  have window : r.timers.startWindow = u.timers.startWindow := (congrArg Timers.startWindow kept.timers :)
  have timer : r.timers.stage = u.timers.stage := (congrArg Timers.stage kept.timers :)
  have stage : r.limiter.stage = u.limiter.stage := (congrArg Limiter.stage limiter :)
  exact ⟨setpoint, integral, window, timer, stage⟩

theorem noteDemand_followed (u : State) (p : DemandPayload) : (u.noteDemand p).followed = u.followed := by
  obtain ⟨st, seq, -⟩ := noteDemand_blocks u p
  unfold State.followed
  rw [st, seq]

/-- A change of the station state answers no DEMAND, R24. -/
theorem moveTo_answered (s : State) (new : StationState) : (s.moveTo new).seq.lastOutcome = s.seq.lastOutcome
    ∧ (s.moveTo new).seq.startMark = s.seq.startMark :=
  moveTo_cases (P := fun t => t.seq.lastOutcome = s.seq.lastOutcome ∧ t.seq.startMark = s.seq.startMark) s new
    (fun _ => ⟨rfl, rfl⟩) fun _ => ⟨rfl, rfl⟩

end Blocks

section Stop

variable {w : State} {p : DemandPayload} (others : w.inputs.loopOthers = false)
include others

theorem demandStop_starting (st : w.st = .starting) : let t := w.demandStop p
    t.st = .stopped ∧ t.timers.startWindow = none ∧ t.seq.confirmation = []
      ∧ t.seq.lastOutcome = some ⟨.demand, .taken, p.sequence⟩ ∧ t.seq.startMark = w.seq.startMark := by
  have leaves : (w.answerDemand .taken p).st ≠ .stopped := by
    show w.st ≠ _
    rw [st]
    decide
  have stops : w.demandStop p = (w.answerDemand .taken p).moveTo .stopped := by
    unfold State.demandStop
    rw [st]
    exact enterStopped_quiet leaves others
  obtain ⟨ends, window, -⟩ := moveTo_startEnds (u := w.answerDemand .taken p) st
  obtain ⟨outcome, mark⟩ := moveTo_answered (w.answerDemand .taken p) .stopped
  dsimp only
  rw [stops]
  exact ⟨st_moveTo _ _, window, congrArg Sequencer.confirmation ends, outcome, mark⟩

theorem demandStop_driving (row : w.st = .breakaway ∨ w.st = .run ∨ w.st = .creep) : let t := w.demandStop p
    t.st = (if w.speed.standstill then .stopped else .decel)
      ∧ t.seq.lastOutcome = some ⟨.demand, .taken, p.sequence⟩ ∧ t.seq.startMark = w.seq.startMark := by
  have slows : w.demandStop p = (w.answerDemand .taken p).enterDecel := by
    unfold State.demandStop
    rcases row with row | row | row <;> rw [row]
  have quick : w.demandStop p = if w.speed.standstill
      then ((w.answerDemand .taken p).moveTo .decel).moveTo .stopped else (w.answerDemand .taken p).moveTo .decel :=
    slows.trans (enterDecel_quiet others)
  obtain ⟨outcome, mark⟩ := moveTo_answered (w.answerDemand .taken p) .decel
  dsimp only
  rw [quick]
  split
  · obtain ⟨outcome', mark'⟩ := moveTo_answered ((w.answerDemand .taken p).moveTo .decel) .stopped
    exact ⟨st_moveTo _ _, outcome'.trans outcome, mark'.trans mark⟩
  · exact ⟨st_moveTo _ _, outcome, mark⟩

end Stop

section Modes

variable {u : State} {p : DemandPayload} {m : Mode}

/-- The mode that a DEMAND leads to, CREEP for want of participants, R23, R24. -/
def State.demanded (u : State) (m : Mode) : Mode :=
  if m = .run ∧ u.cfg.minRun ≤ u.count then .run else .creep

/-- The mode followed already is marked alone, R24. -/
theorem demandGo_followed {w : State} (followed : w.followed = some m)
    (row : w.st = .starting ∨ w.st = .breakaway ∨ w.st = .run ∨ w.st = .creep) : w.demandGo m p = w.mark p := by
  have same : (w.mark p).followed = some m := followed
  unfold State.demandGo
  rcases row with row | row | row | row <;> rw [row] <;> exact if_pos same

theorem demandGo_intended {w : State} (other : w.followed ≠ some m) (row : w.st = .starting ∨ w.st = .breakaway) :
    w.demandGo m p = (w.mark p).demandIntended m p := by
  have differs : (w.mark p).followed ≠ some m := other
  unfold State.demandGo
  rcases row with row | row <;> rw [row] <;> exact if_neg differs

theorem demandGo_change {w : State} (other : w.followed ≠ some m) (row : w.st = .run ∨ w.st = .creep) :
    w.demandGo m p = (w.mark p).demandChange m p := by
  have differs : (w.mark p).followed ≠ some m := other
  unfold State.demandGo
  rcases row with row | row <;> rw [row] <;> exact if_neg differs

theorem demandGo_decel {w : State} (st : w.st = .decel) : w.demandGo m p = w.demandResume m p := by
  unfold State.demandGo
  rw [st]

theorem demandGo_selftest {w : State} (st : w.st = .selftest) : w.demandGo m p = w.answerDemand .wrongState p := by
  unfold State.demandGo
  rw [st]

variable (mode : demandMode p.mode = some m)
include mode

theorem takeDemand_followed (followed : u.followed = some m)
    (row : u.st = .starting ∨ u.st = .breakaway ∨ u.st = .run ∨ u.st = .creep) :
    (u.takeDemand p).seq = { u.seq with startMark := some p.sequence } := by
  obtain ⟨st, seq, -⟩ := noteDemand_blocks u p
  rw [takeDemand_go mode, demandGo_followed ((noteDemand_followed u p).trans followed) (by rw [st]; exact row), ← seq]
  rfl

theorem takeDemand_intended (other : m ≠ u.seq.intended) (row : u.st = .starting ∨ u.st = .breakaway) :
    let t := u.takeDemand p
    t.seq = { u.seq with
        startMark := some p.sequence, intended := u.demanded m
        lastOutcome := some ⟨.demand, startOutcome m (u.demanded m), p.sequence⟩ }
      ∧ t.timers.startWindow = u.timers.startWindow ∧ t.timers.stage = u.timers.stage
      ∧ t.limiter.stage = u.limiter.stage := by
  obtain ⟨st, seq, -⟩ := noteDemand_blocks u p
  obtain ⟨-, -, window, timer, stage⟩ := noteDemand_rest u p
  have differs : (u.noteDemand p).followed ≠ some m := by
    rw [noteDemand_followed]
    unfold State.followed
    rcases row with row | row <;> rw [row] <;> exact fun same => other (Option.some.inj same).symm
  have entered : ((u.noteDemand p).mark p).modeFor m = u.demanded m := noteDemand_modeFor u p m
  have sets : u.takeDemand p = (((u.noteDemand p).mark p).intend (u.demanded m)).answerDemand
      (startOutcome m (u.demanded m)) p := by
    rw [takeDemand_go mode, demandGo_intended differs (by rw [st]; exact row), ← entered]
    rfl
  dsimp only
  rw [sets, ← seq]
  exact ⟨rfl, window, timer, stage⟩

end Modes

section Entry

variable {x : State} {m : Mode}

/-- RUN or CREEP entered with enough participants, other than from BREAKAWAY, R24, R35, R59. -/
theorem enterMode_rows (regroups : Regroups x m.state) (enough : x.cfg.minCreep ≤ x.count) (parked : x.st ≠ .starting)
    (turned : x.st ≠ .breakaway) : let t := x.enterMode m
    t.seq = { x.seq with station := m.state, intended := m }
      ∧ t.reg.setpoint = x.reg.setpoint ∧ t.reg.integral = x.reg.integral := by
  have enters : x.enterMode m = (x.moveTo m.state).cease .groupShort := regroups.checkGroupShort enough
  have convEn : m.state.lines.convEn = true := by cases m <;> rfl
  have carried : x.reg.onMove x.st m.state x.speed.speed (x.moveTo m.state).limiter.allowance = x.reg := by
    unfold Regulator.onMove
    rw [if_neg fun both => turned both.1, if_pos convEn]
  have reg : (x.moveTo m.state).reg = { x.reg with trim := (x.moveTo m.state).reg.trim } :=
    (moveTo_reg regroups.leaves).trans (by rw [carried])
  have seq : (x.moveTo m.state).seq = { x.seq with station := m.state, intended := m } := by
    rw [moveTo_seq regroups.leaves]
    cases m <;> simp [Sequencer.onMove, parked, Mode.state]
  dsimp only
  rw [enters]
  have setpoint : (x.moveTo m.state).reg.setpoint = x.reg.setpoint := (congrArg Regulator.setpoint reg :)
  have integral : (x.moveTo m.state).reg.integral = x.reg.integral := (congrArg Regulator.integral reg :)
  exact ⟨seq, setpoint, integral⟩

end Entry

section Changes

variable {u : State} {p : DemandPayload} {m : Mode}

/-- A change of mode, or a resumption, answered before the mode is entered, R24, R25. -/
def State.changeOrdered (u : State) (m : Mode) (p : DemandPayload) : State :=
  ((u.noteDemand p).mark p).answerDemand (startOutcome m (u.demanded m)) p

theorem changeOrdered_st (u : State) (m : Mode) (p : DemandPayload) : (u.changeOrdered m p).st = u.st := by
  obtain ⟨st, -⟩ := noteDemand_blocks u p
  exact st

theorem changeOrdered_seq (u : State) (m : Mode) (p : DemandPayload) : (u.changeOrdered m p).seq = { u.seq with
    startMark := some p.sequence, lastOutcome := some ⟨.demand, startOutcome m (u.demanded m), p.sequence⟩ } := by
  obtain ⟨-, seq, -⟩ := noteDemand_blocks u p
  rw [← seq]
  rfl

/-- The mode demanded is entered from RUN, CREEP or DECEL, R24, R25. -/
theorem changeOrdered_enters (row : u.st = .run ∨ u.st = .creep ∨ u.st = .decel) (differs : u.st ≠ (u.demanded m).state)
    (list : u.ParticipantsOk) (enough : u.cfg.minCreep ≤ u.count) :
    let t := (u.changeOrdered m p).enterMode (u.demanded m)
    t.seq = { u.seq with
        station := (u.demanded m).state, startMark := some p.sequence, intended := u.demanded m
        lastOutcome := some ⟨.demand, startOutcome m (u.demanded m), p.sequence⟩ }
      ∧ t.reg.setpoint = u.reg.setpoint ∧ t.reg.integral = u.reg.integral := by
  obtain ⟨-, -, -, -, cfg, -⟩ := noteDemand_blocks u p
  obtain ⟨setpoint, integral, -⟩ := noteDemand_rest u p
  have list' : (u.changeOrdered m p).ParticipantsOk :=
    participants_congr (s := u.noteDemand p) rfl rfl rfl (fun _ _ => rfl) rfl (noteDemand_participantsOk list)
  have enough' : (u.changeOrdered m p).cfg.minCreep ≤ (u.changeOrdered m p).count := by
    have cfg' : (u.changeOrdered m p).cfg = u.cfg := cfg
    have count' : (u.changeOrdered m p).count = u.count := noteDemand_count u p
    rw [cfg', count']
    exact enough
  have st := changeOrdered_st u m p
  have regroups : Regroups (u.changeOrdered m p) (u.demanded m).state :=
    ⟨by rw [st]; exact differs, by rw [st]; rcases row with row | row | row <;> rw [row] <;> rfl,
      mode_participating _, list'⟩
  obtain ⟨seq, setpoint', integral'⟩ := enterMode_rows regroups enough'
    (by rw [st]; rcases row with row | row | row <;> rw [row] <;> decide)
    (by rw [st]; rcases row with row | row | row <;> rw [row] <;> decide)
  rw [changeOrdered_seq] at seq
  exact ⟨seq, setpoint'.trans setpoint, integral'.trans integral⟩

/-- A change of mode in RUN or CREEP, R24. -/
theorem takeDemand_change (mode : demandMode p.mode = some m) (other : u.followed ≠ some m)
    (row : u.st = .run ∨ u.st = .creep) : u.takeDemand p
      = if u.st = (u.demanded m).state then u.changeOrdered m p
        else (u.changeOrdered m p).enterMode (u.demanded m) := by
  obtain ⟨st, -⟩ := noteDemand_blocks u p
  have entered : ((u.noteDemand p).mark p).modeFor m = u.demanded m := noteDemand_modeFor u p m
  rw [takeDemand_go mode, demandGo_change (by rw [noteDemand_followed]; exact other) (by rw [st]; exact row)]
  unfold State.demandChange
  rw [entered, ← changeOrdered_st u m p]
  rfl

/-- A DEMAND RUN or CREEP in DECEL, R25. -/
theorem takeDemand_resume (mode : demandMode p.mode = some m) (st : u.st = .decel) : u.takeDemand p
    = (u.noteDemand p).gated p ((u.changeOrdered m p).enterMode (u.demanded m)) := by
  obtain ⟨st', -⟩ := noteDemand_blocks u p
  have entered : (u.noteDemand p).modeFor m = u.demanded m := noteDemand_modeFor u p m
  rw [takeDemand_go mode, demandGo_decel (st'.trans st)]
  unfold State.demandResume State.changeOrdered
  rw [entered]
  rfl

end Changes

section Rows

variable {u : State} {p : DemandPayload}

theorem followed_run (st : u.st = .run) : u.followed = some .run := by
  unfold State.followed
  rw [st]

theorem followed_creep (st : u.st = .creep) : u.followed = some .creep := by
  unfold State.followed
  rw [st]

/-- CREEP demanded in RUN, or RUN in CREEP with enough participants, is entered, R24. -/
theorem takeDemand_enters {m : Mode} (mode : demandMode p.mode = some m) (other : u.followed ≠ some m)
    (row : u.st = .run ∨ u.st = .creep) (differs : u.st ≠ m.state) (entered : u.demanded m = m)
    (list : u.ParticipantsOk) (enough : u.cfg.minCreep ≤ u.count) : let t := u.takeDemand p
    t.st = m.state ∧ t.seq.intended = m ∧ t.seq.startMark = some p.sequence
      ∧ t.seq.lastOutcome = some ⟨.demand, .taken, p.sequence⟩ ∧ t.reg.setpoint = u.reg.setpoint := by
  have row' : u.st = .run ∨ u.st = .creep ∨ u.st = .decel := row.imp id .inl
  obtain ⟨seq, setpoint, -⟩ := changeOrdered_enters (m := m) (p := p) row' (by rw [entered]; exact differs) list enough
  have answer : startOutcome m m = .taken := if_pos rfl
  have station : ((u.changeOrdered m p).enterMode (u.demanded m)).st = (u.demanded m).state :=
    congrArg Sequencer.station seq
  dsimp only
  rw [takeDemand_change mode other row, if_neg (by rw [entered]; exact differs), station, setpoint, seq, entered, answer]
  exact ⟨rfl, rfl, rfl, rfl, rfl⟩

/-- RUN demanded in CREEP without enough participants: CREEP goes on, R24. -/
theorem takeDemand_stays (mode : demandMode p.mode = some .run) (st : u.st = .creep) (few : u.count < u.cfg.minRun) :
    (u.takeDemand p).seq = { u.seq with
      startMark := some p.sequence, lastOutcome := some ⟨.demand, .runAsCreep, p.sequence⟩ } := by
  have entered : u.demanded .run = .creep := if_neg fun both => Nat.not_le.mpr few both.2
  have differs : u.followed ≠ some .run := by rw [followed_creep st]; decide
  have same : u.st = (u.demanded .run).state := by rw [entered, st]; rfl
  rw [takeDemand_change mode differs (.inr st), if_pos same, changeOrdered_seq, entered]
  rfl

end Rows

/-- Settles O41: by the state in which the DEMAND is taken and the mode that it leads to. -/
theorem demandChangesMode : Obligations.DemandChangesMode := by
  unfold Obligations.DemandChangesMode
  refine ⟨fun origin p s u reaches list enough others => ⟨_, exec_demandFrame reaches, fun stop st => ?_,
    fun stop row => ?_, fun m mode followed row => takeDemand_followed mode followed row,
    fun m mode other row => takeDemand_intended mode other row, fun mode st => ?_, fun mode st plenty => ?_,
    fun mode st few => takeDemand_stays mode st few⟩,
    fun origin p s u reaches list row => ⟨_, exec_demandFrame reaches, fun stop => ?_, fun m mode st => ?_,
    fun m mode st => ?_⟩⟩
  · obtain ⟨st', seq, -, -, -, -, inputs⟩ := noteDemand_blocks u p
    have quiet : (u.noteDemand p).inputs.loopOthers = false := by rw [inputs, others]
    rw [takeDemand_stop stop, ← seq]
    exact demandStop_starting quiet (st'.trans st)
  · obtain ⟨st', seq, -, -, -, speed, inputs⟩ := noteDemand_blocks u p
    have quiet : (u.noteDemand p).inputs.loopOthers = false := by rw [inputs, others]
    have row : (u.noteDemand p).st = .breakaway ∨ (u.noteDemand p).st = .run ∨ (u.noteDemand p).st = .creep := by
      rw [st']
      exact row
    rw [takeDemand_stop stop, ← seq, ← speed]
    exact demandStop_driving quiet row
  · exact takeDemand_enters mode (by rw [followed_run st]; decide) (.inl st) (by rw [st]; decide) rfl list enough
  · exact takeDemand_enters mode (by rw [followed_creep st]; decide) (.inr st) (by rw [st]; decide)
      (if_pos ⟨rfl, plenty⟩) list enough
  · obtain ⟨st', seq, -⟩ := noteDemand_blocks u p
    rw [takeDemand_stop stop, ← seq]
    unfold State.demandStop
    rcases row with row | row <;> rw [st', row]
  · obtain ⟨st', seq, -⟩ := noteDemand_blocks u p
    rw [takeDemand_go mode, demandGo_selftest (st'.trans st), ← seq]
    rfl
  · obtain ⟨stale, fails, few, resumes⟩ := gated_rows u p ((u.changeOrdered m p).enterMode (u.demanded m))
    rw [takeDemand_resume mode st]
    refine ⟨stale, fails, few, fun fresh sound enough => ?_⟩
    have differs : u.st ≠ (u.demanded m).state := by
      rw [st]
      cases u.demanded m <;> decide
    obtain ⟨seq, setpoint, integral⟩ := changeOrdered_enters (m := m) (p := p) (.inr (.inr st)) differs list enough
    have station : (u.demanded m).state = if m = .run ∧ u.cfg.minRun ≤ u.count then .run else .creep := by
      unfold State.demanded
      split <;> rfl
    rw [resumes fresh sound enough]
    refine ⟨?_, setpoint, integral⟩
    rw [seq, station]
    rfl

end Sys2Proof.Machine

end
